-- ==== Sys2Proof/Word.lean ====
section
/-! DEFINITION. Word: the byte of the controller's serial lines, the text made of such bytes, and the names of the
two station loops. -/

namespace Sys2Proof

/-- One 8-bit byte of a serial line, or one 8-bit character (00_scope, Conventions: "Text is carried as 8-bit
characters"). -/
abbrev Byte := BitVec 8

/-- A text: its characters from left to right. -/
abbrev Text := List Byte

/-- The two station loops (R75): A carries stations 1–48, B stations 49–96. -/
inductive LoopId
  | a
  | b
  deriving DecidableEq, Repr, Inhabited

end Sys2Proof
end

