-- ==== Sys2Proof/Config.lean ====
section
/-! DEFINITION. Config: the controller's fixed capacities, as the spec states them, and the values the spec leaves
open, each an opaque constant of which nothing can be proved (log entries 4, 5, 6, 7 and 20). -/

namespace Sys2Proof.Config

/-- R17: the call table holds at most 64 records. -/
def callCapacity : Nat := 64

/-- R17: at most 56 of them are of class stop behaviour NONE. -/
def noneCapacity : Nat := 56

/-- R142: the history queue holds at most 128 records. -/
def historyCapacity : Nat := 128

/-- R183: the outbound queue holds up to 32 frames. -/
def outboundCapacity : Nat := 32

/-- R183: a notice enters only while the queue holds fewer than 24 frames. -/
def noticeCapacity : Nat := 24

/-- R186: the request queue holds up to 8 requests. -/
def requestCapacity : Nat := 8

/-- R186: the count of queued requests at which the controller sends a pause mark. -/
def selfPauseAt : Nat := 6

/-- R186: the count of queued requests at which it sends a resume mark. -/
def selfResumeAt : Nat := 2

/-- R185: the most bytes a host frame's body may hold. -/
def bodyCapacity : Nat := 240

/-- R185: the most bytes a host frame's content may hold. -/
def contentCapacity : Nat := 245

/-- R150: a reply body is at most 238 bytes where a list of records is cut to fit. -/
def replyListBytes : Nat := 238

/-- R179: the probe timer of a DARK board, in tenths. -/
def probeTenths : Nat := 50

/-- R177, R179: the timeout run at which a board goes DARK. -/
def darkRun : Nat := 8

/-- FREE VALUE (log entry 4). The bytes one record of a READ CALLS reply takes, by which of its optional fields are
present: R30 gives the record's fields and no layout. -/
opaque callEntryBytes (present : List Bool) : Nat

/-- FREE VALUE (log entry 4). The bytes of a READ CALLS reply body before its first record (R30). -/
opaque callHeadBytes : Nat

/-- FREE VALUE (log entry 4). The bytes one entry of a READ STATIONS reply takes: none for an undefined station, or
which of a defined station's optional fields are present (R93 gives no layout). -/
opaque stationEntryBytes (present : Option (List Bool)) : Nat

/-- FREE VALUE (log entry 4). The bytes of a READ STATIONS reply body before its first entry (R93). -/
opaque stationHeadBytes : Nat

/-- FREE VALUE (log entry 5). The milliseconds a debounce timing has lasted when its debounce time is changed
(R46): the n-th such question the model asks. It is used only below the old debounce time, since the timing has
not run out. -/
opaque debounceLasted (n : Nat) : Nat

/-- FREE VALUE (log entry 6). The term index that a DEFINE EQUATION reply carries when the equation number or the
use mark is out of range (R105 gives a term index to the other failures alone). -/
opaque equationHeadTermIndex : Nat

/-- FREE VALUE (log entry 20). The number that READ DEFINITION returns at a place of an item's layout where the item's
owner states none: the tune number of an equation whose target is not TUNE, the target and delay of an undefined equation
(R119 states its term count), every attribute of an undefined field (R156). Places count from the first attribute after
the use mark. -/
opaque unstatedNumber (item first second place : Nat) : Nat

/-- FREE VALUE (log entry 20). The attempt count that READ BOARDS reports for a PROBE in flight (R181), by its board and
that board's timeout run: R173 gives an attempt count to queued frames alone. -/
opaque probeAttempts (board timeoutRun : Nat) : Nat

/-- FREE VALUE (log entry 7). The levels of the two strap pins (true is high) when a RESTART reads them (R193): the n-th
question that the model asks of the outside. No command carries them, and they may have changed since the last reset. -/
opaque strapLevels (n : Nat) : Bool × Bool

end Sys2Proof.Config
end

