-- ==== Sys2Proof/Syntax.lean ====
section
/-! DEFINITION. Syntax: the commands of the controller, one constructor for each row of spec/opcode_table.json.

A host request (kinds 16–62, and an unknown kind) carries its tag and its body's bytes; HOW a request reaches its turn
in the request queue is log entry 2. Bytes heard on a line are given as they stand on the line, marks included
(log entry 11). -/

namespace Sys2Proof

/-- The commands: the requests, events and elapsed times that change the controller's state. -/
inductive Instr
  /-- RESET (R193): power-up or the reset pin; the operands are the levels of the two strap pins, true for high. -/
  | reset (strap1 strap2 : Bool)
  /-- READ_STATUS (R195): request kind 16. -/
  | readStatus (tag : Byte) (body : List Byte)
  /-- ENTER_CONFIG (R188): request kind 17. -/
  | enterConfig (tag : Byte) (body : List Byte)
  /-- ENTER_RUN (R189): request kind 18. -/
  | enterRun (tag : Byte) (body : List Byte)
  /-- STORE_SETTINGS (R192): request kind 19. -/
  | storeSettings (tag : Byte) (body : List Byte)
  /-- STORE_COMPLETE (R192): the write ends; `agrees` says whether the copy reads back as the working definitions. -/
  | storeComplete (agrees : Bool)
  /-- RECALL_SETTINGS (R192): request kind 20. -/
  | recallSettings (tag : Byte) (body : List Byte)
  /-- RESTART (R193): request kind 21. -/
  | restart (tag : Byte) (body : List Byte)
  /-- SET_CLOCK (R194): request kind 22. -/
  | setClock (tag : Byte) (body : List Byte)
  /-- SET_REPORTS (R184): request kind 23. -/
  | setReports (tag : Byte) (body : List Byte)
  /-- DEFINE_SECTION (R32): request kind 24. -/
  | defineSection (tag : Byte) (body : List Byte)
  /-- DEFINE_ZONE (R51): request kind 25. -/
  | defineZone (tag : Byte) (body : List Byte)
  /-- DEFINE_STATION (R76): request kind 26. -/
  | defineStation (tag : Byte) (body : List Byte)
  /-- DEFINE_CLASS (R2): request kind 27. -/
  | defineClass (tag : Byte) (body : List Byte)
  /-- DEFINE_CODE_MAP (R4): request kind 28. -/
  | defineCodeMap (tag : Byte) (body : List Byte)
  /-- DEFINE_LADDER (R96): request kind 29. -/
  | defineLadder (tag : Byte) (body : List Byte)
  /-- DEFINE_EQUATION (R105): request kind 30. -/
  | defineEquation (tag : Byte) (body : List Byte)
  /-- DEFINE_BOARD (R154): request kind 31. -/
  | defineBoard (tag : Byte) (body : List Byte)
  /-- DEFINE_FIELD (R156): request kind 32. -/
  | defineField (tag : Byte) (body : List Byte)
  /-- DEFINE_LINKS (R190): request kind 33. -/
  | defineLinks (tag : Byte) (body : List Byte)
  /-- DEFINE_ACCOUNT (R121): request kind 34. -/
  | defineAccount (tag : Byte) (body : List Byte)
  /-- READ_DEFINITION (R191): request kind 35. -/
  | readDefinition (tag : Byte) (body : List Byte)
  /-- START_SHIFT (R123, R124): request kind 40. -/
  | startShift (tag : Byte) (body : List Byte)
  /-- END_SHIFT (R136): request kind 41. -/
  | endShift (tag : Byte) (body : List Byte)
  /-- SET_TAKT (R134): request kind 42. -/
  | setTakt (tag : Byte) (body : List Byte)
  /-- SET_VOLUME (R135): request kind 43. -/
  | setVolume (tag : Byte) (body : List Byte)
  /-- CORRECT_ACTUAL (R130): request kind 44. -/
  | correctActual (tag : Byte) (body : List Byte)
  /-- READ_ACCOUNT (R140): request kind 45. -/
  | readAccount (tag : Byte) (body : List Byte)
  /-- RAISE_CALL (R28): request kind 48. -/
  | raiseCall (tag : Byte) (body : List Byte)
  /-- ACT_ON_CALL (R29): request kind 49. -/
  | actOnCall (tag : Byte) (body : List Byte)
  /-- RESTART_SECTION (R65): request kind 51. -/
  | restartSection (tag : Byte) (body : List Byte)
  /-- READ_CALLS (R30): request kind 52. -/
  | readCalls (tag : Byte) (body : List Byte)
  /-- READ_SECTION (R44): request kind 53. -/
  | readSection (tag : Byte) (body : List Byte)
  /-- SET_FLAG (R114): request kind 56. -/
  | setFlag (tag : Byte) (body : List Byte)
  /-- SET_TEXT (R169): request kind 57. -/
  | setText (tag : Byte) (body : List Byte)
  /-- READ_STATIONS (R93): request kind 58. -/
  | readStations (tag : Byte) (body : List Byte)
  /-- READ_BOARDS (R181): request kind 59. -/
  | readBoards (tag : Byte) (body : List Byte)
  /-- FETCH_HISTORY (R150): request kind 60. -/
  | fetchHistory (tag : Byte) (body : List Byte)
  /-- RELEASE_HISTORY (R152): request kind 61. -/
  | releaseHistory (tag : Byte) (body : List Byte)
  /-- FLUSH_BOARD (R180): request kind 62. -/
  | flushBoard (tag : Byte) (body : List Byte)
  /-- UNKNOWN_KIND (R187): a request whose kind code is no request kind. -/
  | unknownKind (tag kind : Byte) (body : List Byte)
  /-- HOST_FRAME_RECEIVED (R185): the bytes of the host line up to and with the end mark of a frame. -/
  | hostFrameReceived (line : List Byte)
  /-- HOST_LINE_BREAK (R185): these bytes of the host line, then a line break. -/
  | hostLineBreak (line : List Byte)
  /-- HOST_PAUSE_MARK (R183): an unescaped pause mark from the host. -/
  | hostPauseMark
  /-- HOST_RESUME_MARK (R183): an unescaped resume mark from the host. -/
  | hostResumeMark
  /-- OUTBOUND_FRAME_SENT (R183): the frame being sent has been sent whole. -/
  | outboundFrameSent
  /-- REPLY_ENTERS_OUTBOUND (R183): the reply that waited for room enters the outbound queue. -/
  | replyEntersOutbound
  /-- TICK (R194): the 100 ms tick. -/
  | tick
  /-- TARGET_UNIT_DUE (R127): the fraction has filled the takt. -/
  | targetUnitDue
  /-- PERIOD_END (R126): the running period's remaining time has reached 0. -/
  | periodEnd
  /-- SECOND_ROLLOVER (R194): the tenth tick of the second has been taken. -/
  | secondRollover
  /-- BLINK_TURN (R102): 125 ms have passed since the FAST source last turned. -/
  | blinkTurn
  /-- ESCALATION_TIMER_EXPIRY (R99): the first expired escalation timer, in arrival order. -/
  | escalationTimerExpiry
  /-- EQUATION_DELAY_EXPIRY (R112): the expired delay timers, in one pass. -/
  | equationDelayExpiry
  /-- STALE_TIMER_EXPIRY (R148): the stale timer has reached 0. -/
  | staleTimerExpiry
  /-- REFRESH_TIMER_EXPIRY (R168): the refresh timer has reached 0. -/
  | refreshTimerExpiry
  /-- PROBE_TIMER_EXPIRY (R179): the probe timer of the board has reached 0. -/
  | probeTimerExpiry (board : Nat)
  /-- ENCODER_FORWARD_PULSE (R35): a forward pulse of the section's encoder. -/
  | encoderForwardPulse (sec : Nat)
  /-- ENCODER_REVERSE_PULSE (R36): a reverse pulse of the section's encoder. -/
  | encoderReversePulse (sec : Nat)
  /-- STOP_DISTANCE_EXPIRY (R56): the section's first call, in arrival order, whose stop distance is used up. -/
  | stopDistanceExpiry (sec : Nat)
  /-- RAW_INPUT_CHANGE (R46): the raw electrical state of the line input becomes `level`. -/
  | rawInputChange (input : Nat) (level : Bool)
  /-- INPUT_DEBOUNCE_EXPIRY (R46): the input's raw state has stayed different for the debounce time. -/
  | inputDebounceExpiry (input : Nat)
  /-- POLL_SENT (R78): the loop controller takes the next step of its cycle. -/
  | pollSent (loop : LoopId)
  /-- IDLE_CYCLE_END (R78): one response timeout of idle line ends a cycle with no station to poll. -/
  | idleCycleEnd (loop : LoopId)
  /-- STATUS_RECEIVED (R81): the bytes of a STATUS frame on the loop, marks included. -/
  | statusReceived (loop : LoopId) (line : List Byte)
  /-- HOLD_RECEIVED (R82): the bytes of a HOLD frame on the loop, marks included. -/
  | holdReceived (loop : LoopId) (line : List Byte)
  /-- LOOP_BAD_REPLY (R79): the bytes of a bad, foreign or unexpected frame on the loop, marks included. -/
  | loopBadReply (loop : LoopId) (line : List Byte)
  /-- LOOP_LINE_BREAK (R72): these bytes on the loop, then a line break. -/
  | loopLineBreak (loop : LoopId) (line : List Byte)
  /-- POLL_RESPONSE_TIMEOUT (R79): the response timeout has run without a start mark. -/
  | pollResponseTimeout (loop : LoopId)
  /-- LOOP_REPLY_FRAME_TIMEOUT (R79): 64 character times have run since the start mark without an end. -/
  | loopReplyFrameTimeout (loop : LoopId)
  /-- BOARD_FRAME_SENT (R174): the arbiter looks for the next board with work and sends it one frame. -/
  | boardFrameSent
  /-- BOARD_ACK_RECEIVED (R176): the bytes of an ACK on the board link, a FIELD frame being in flight. -/
  | boardAckReceived (line : List Byte)
  /-- BOARD_REFUSE_RECEIVED (R176): the bytes of a REFUSE on the board link, a FIELD frame being in flight. -/
  | boardRefuseReceived (line : List Byte)
  /-- PROBE_ACK_RECEIVED (R179): the bytes of an ACK on the board link, a PROBE being in flight. -/
  | probeAckReceived (line : List Byte)
  /-- BOARD_BAD_REPLY (R175): the bytes of a bad or wrong reply on the board link. -/
  | boardBadReply (line : List Byte)
  /-- BOARD_LINE_BREAK (R170): these bytes on the board link, then a line break. -/
  | boardLineBreak (line : List Byte)
  /-- BOARD_RESPONSE_TIMEOUT (R177): the board response timeout has run without a start mark. -/
  | boardResponseTimeout
  /-- BOARD_REPLY_FRAME_TIMEOUT (R175): 64 character times have run since the start mark without an end. -/
  | boardReplyFrameTimeout
  /-- HOST_START_MARK_INSIDE_FRAME (R185): these bytes of the host line, then an unescaped start mark. -/
  | hostStartMarkInsideFrame (line : List Byte)
  /-- HOST_CONTENT_PAST_245_BYTES (R185): the bytes of the host line up to the one that makes a frame's content too long. -/
  | hostContentPast245 (line : List Byte)
  deriving DecidableEq, Repr, Inhabited

end Sys2Proof
end

