-- ==== Sys2Proof/Decode.lean ====
section
/-! DEFINITION. Decode: the command that a word spells by the bits spec/opcode_table.json gives its rows. The table
gives no row any bits: its commands are requests, events and elapsed times, not words of an instruction memory
(log entry 18). -/

namespace Sys2Proof

/-- No row of the table has bits, so no word spells a command. -/
def decodeTableWord (nbits w : Nat) : Option Instr :=
  match nbits, w with
  | _, _ => none

end Sys2Proof
end

