-- ==== Sys2Proof/Machine/Types.lean ====
section
/-! DEFINITION. Types: the controller's enumerations and definitions, as plain data (classes, code map, sections,
zones, stations, ladders, equations, boards, fields, account, link settings). They are held as values, without the bytes
that are carried and not checked (DEDUCED, log entry 9). -/

namespace Sys2Proof.Machine

/-- R188, R189: the controller is at any time in one of two modes. -/
inductive Mode | config | run
  deriving DecidableEq, Repr, Inhabited

/-- R1: what a class's calls do to their section. -/
inductive StopBehaviour | none | fixed | immediate
  deriving DecidableEq, Repr, Inhabited

/-- R1: what becomes of a call whose origin station goes OFFLINE. -/
inductive OrphanPolicy | keep | drop
  deriving DecidableEq, Repr, Inhabited

/-- R1: the colours of lamps and boards. -/
inductive Colour | green | amber | red | blue | white
  deriving DecidableEq, Repr, Inhabited

/-- R88, R157: how a lamp or a field blinks. -/
inductive Blink | steady | slow | fast
  deriving DecidableEq, Repr, Inhabited

/-- R31: how a section restarts. -/
inductive RestartMode | auto | manual
  deriving DecidableEq, Repr, Inhabited

/-- R95: what stops a call's climb before its last level. -/
inductive Basis | unanswered | uncleared
  deriving DecidableEq, Repr, Inhabited

/-- R121: which of the counting section's counts feeds the actual. -/
inductive ActualSource | pass | pitch
  deriving DecidableEq, Repr, Inhabited

/-- R173: the retry policy of a board. -/
inductive RetryPolicy | none | three | persist
  deriving DecidableEq, Repr, Inhabited

/-- R120: the kind of a period of the shift plan. -/
inductive PeriodKind | work | pause
  deriving DecidableEq, Repr, Inhabited

/-- R120: the four shift states. -/
inductive ShiftState | none | work | pause | overtime
  deriving DecidableEq, Repr, Inhabited

/-- R1: one class of the class table. -/
structure ClassDef where
  name     : Text
  stop     : StopBehaviour
  priority : Nat
  ladder   : Nat
  orphan   : OrphanPolicy
  colour   : Colour
  deriving DecidableEq, Repr, Inhabited

/-- R3: an exact entry of the code map. -/
structure ExactEntry where
  inUse : Bool
  code  : Nat
  cls   : Nat
  deriving DecidableEq, Repr, Inhabited

/-- R3: a range entry of the code map. -/
structure RangeEntry where
  inUse : Bool
  low   : Nat
  high  : Nat
  cls   : Nat
  deriving DecidableEq, Repr, Inhabited

/-- R3: the code map. `unmatched` is the unmatched policy: none is REJECT, some k the default class k. -/
structure CodeMap where
  exact     : List ExactEntry
  ranges    : List RangeEntry
  unmatched : Option Nat
  deriving DecidableEq, Repr, Inhabited

/-- R31: the attributes of a defined section; an input number 0 is "none". -/
structure SectionDef where
  pitch     : Nat
  runOn     : Nat
  restart   : RestartMode
  syncInput : Nat
  passInput : Nat
  runInput  : Nat
  deriving DecidableEq, Repr, Inhabited

/-- R50: the attributes of a defined zone. -/
structure ZoneDef where
  name    : Text
  sec     : Nat
  mark    : Nat
  pattern : Nat
  mask    : Nat
  deriving DecidableEq, Repr, Inhabited

/-- R75: the attributes of a defined station. -/
structure StationDef where
  zone   : Nat
  name   : Text
  leader : Bool
  deriving DecidableEq, Repr, Inhabited

/-- R95: a defined ladder; a delay beyond the level count is stored as 0 (R96). -/
structure LadderDef where
  basis  : Basis
  levels : Nat
  delays : Vector Nat 4
  deriving DecidableEq, Repr, Inhabited

/-- R102: an aspect of a section. -/
inductive SectionAspect | stopreq | hold | run | pending | overflow
  deriving DecidableEq, Repr, Inhabited

/-- R102: an aspect of the calls of a zone or of a class. -/
inductive CallAspect
  | call
  | opened
  | unanswered
  | hold
  | esc (level : Nat)
  deriving DecidableEq, Repr, Inhabited

/-- R102: an aspect of the shift. -/
inductive ShiftAspect | work | pause | overtime | none | behind
  deriving DecidableEq, Repr, Inhabited

/-- R102: one operand: an area, its index and its aspect. The index of the areas SHIFT, BLINK and TABLE is
disregarded, so it is not kept. -/
inductive Operand
  | input (k : Nat)
  | flag (f : Nat)
  | relay (r : Nat)
  | sectionAspect (n : Nat) (aspect : SectionAspect)
  | zone (n : Nat) (aspect : CallAspect)
  | cls (n : Nat) (aspect : CallAspect)
  | stationOffline (n : Nat)
  | boardDark (n : Nat)
  | shift (aspect : ShiftAspect)
  | blinkSlow
  | blinkFast
  | tableFull
  deriving DecidableEq, Repr, Inhabited

/-- R103: the six operations that combine an operand, or a group's value, into a chain. -/
inductive TermOp | and | andNot | or | orNot | xor | xorNot
  deriving DecidableEq, Repr, Inhabited

/-- R103, R104: one term of an equation. -/
inductive Term
  | operand (op : TermOp) (x : Operand)
  | group (op : TermOp)
  | endGroup
  | elseChain
  deriving DecidableEq, Repr, Inhabited

/-- R101: what an equation drives. -/
inductive Target
  | flag (f : Nat)
  | relay (r : Nat)
  | tune (channel number : Nat)
  deriving DecidableEq, Repr, Inhabited

/-- R101: the delay of an equation, with its time in tenths. -/
inductive DelayKind
  | none
  | onDelay (d : Nat)
  | offDelay (d : Nat)
  | pulse (d : Nat)
  deriving DecidableEq, Repr, Inhabited

/-- R101: a defined equation. -/
structure EquationDef where
  target : Target
  delay  : DelayKind
  terms  : List Term
  deriving DecidableEq, Repr, Inhabited

/-- R155, R160: the scope of a LIST field, or of READ CALLS (R30). -/
inductive Scope
  | all
  | sec (n : Nat)
  | zone (n : Nat)
  deriving DecidableEq, Repr, Inhabited

/-- R155: the figures a COUNT field may show. -/
inductive Figure
  | target
  | actual
  | delta
  | attainment
  | projection
  | volume
  | takt
  | workTime
  | andonStop (sec : Nat)
  | otherStop (sec : Nat)
  deriving DecidableEq, Repr, Inhabited

/-- R155: the kind of a field, with its source parameters. -/
inductive FieldKind
  | zone (n : Nat)
  | list (scope : Scope) (rank : Nat)
  | count (figure : Figure)
  | shift
  | clock
  | text
  deriving DecidableEq, Repr, Inhabited

/-- R155: a defined field. -/
structure FieldDef where
  kind   : FieldKind
  width  : Nat
  colour : Colour
  deriving DecidableEq, Repr, Inhabited

/-- R77: the link settings of one station loop. -/
structure LoopSettings where
  responseMs : Nat
  missLimit  : Nat
  deriving DecidableEq, Repr, Inhabited

/-- R45: the settings of one line input. -/
structure InputSettings where
  debounceMs    : Nat
  invert        : Bool
  risingNotice  : Bool
  fallingNotice : Bool
  deriving DecidableEq, Repr, Inhabited

/-- R190: all link settings. -/
structure LinkSettings where
  loopA           : LoopSettings
  loopB           : LoopSettings
  boardResponseMs : Nat
  refreshSeconds  : Nat
  retry           : Vector RetryPolicy 8
  threshold       : Nat
  staleSeconds    : Nat
  inputs          : Vector InputSettings 16
  deriving DecidableEq, Repr, Inhabited

/-- R192: the definitions and link settings: what the working definitions and the stored copy hold. A board carries
its queue depth (R153). -/
structure Definitions where
  classes   : Vector ClassDef 8
  codeMap   : CodeMap
  sections  : Vector (Option SectionDef) 4
  zones     : Vector (Option ZoneDef) 24
  stations  : Vector (Option StationDef) 96
  ladders   : Vector (Option LadderDef) 8
  equations : Vector (Option EquationDef) 48
  boards    : Vector (Option Nat) 8
  fields    : Vector (Vector (Option FieldDef) 12) 8
  counting  : Nat
  source    : ActualSource
  links     : LinkSettings
  deriving DecidableEq, Repr, Inhabited

end Sys2Proof.Machine
end

