-- ==== Sys2Proof/Machine/Records.lean ====
section
/-! DEFINITION. Records: the records the blocks keep and pass on: calls, history records, station and board
records, the frames of the station loops, of the board link and of the host link, notices and replies. -/

namespace Sys2Proof.Machine

/-! ## Calls and history -/

/-- R5: who raised a call. -/
inductive Origin
  | station (n : Nat)
  | tag (n : Nat)
  deriving DecidableEq, Repr, Inhabited

/-- R5: the state of a standing call (OPEN, CARRIED, HOLDING). -/
inductive CallState | opened | carried | holding
  deriving DecidableEq, Repr, Inhabited

/-- R5: a call record. Its hold rank is not held here: it is its position in its section's hold order (R60). -/
structure Call where
  number    : Nat
  arrival   : Nat
  origin    : Origin
  cls       : Nat
  zone      : Nat
  sec       : Nat
  state     : CallState
  raised    : Nat
  answered  : Option Nat
  firstHold : Option Nat
  distance  : Option Nat
  heldTime  : Nat
  level     : Nat
  timer     : Option Nat
  repeats   : Nat
  carried   : Bool
  deriving DecidableEq, Repr, Inhabited

/-- R22: how a call was closed. -/
inductive Closing | cleared | cancelled | dropped | purged
  deriving DecidableEq, Repr, Inhabited

/-- R144: the content of a CALL CLOSED record. -/
structure ClosedCall where
  number    : Nat
  origin    : Origin
  cls       : Nat
  zone      : Nat
  sec       : Nat
  raised    : Nat
  answered  : Option Nat
  firstHold : Option Nat
  closed    : Nat
  outcome   : Closing
  level     : Nat
  repeats   : Nat
  heldTime  : Nat
  carried   : Bool
  deriving DecidableEq, Repr, Inhabited

/-- R138: one section entry of a SHIFT CLOSED record. -/
structure SectionEntry where
  sec          : Nat
  andonStop    : Nat
  unattributed : Nat
  otherStop    : Nat
  deriving DecidableEq, Repr, Inhabited

/-- R145: the content of a SHIFT CLOSED record. -/
structure ClosedShift where
  start    : Nat
  finish   : Nat
  worked   : Nat
  volume   : Nat
  takt     : Nat
  target   : Nat
  actual   : Nat
  entries  : List SectionEntry
  deriving DecidableEq, Repr, Inhabited

/-- R142: the two kinds of history record. -/
inductive HistoryEntry
  | callClosed (c : ClosedCall)
  | shiftClosed (c : ClosedShift)
  deriving DecidableEq, Repr, Inhabited

/-- R143: a history record with its sequence number. -/
structure HistoryRecord where
  seq   : Nat
  entry : HistoryEntry
  deriving DecidableEq, Repr, Inhabited

/-! ## The shift -/

/-- R120: one period of the shift plan; its length is in minutes. -/
structure Period where
  kind    : PeriodKind
  minutes : Nat
  deriving DecidableEq, Repr, Inhabited

/-- R120: the figures of a running shift. `index` is the period running (1–12), none in OVERTIME. -/
structure Shift where
  plan      : List Period
  index     : Option Nat
  remaining : Option Nat
  start     : Nat
  takt      : Nat
  volume    : Nat
  worked    : Nat
  target    : Nat
  fraction  : Nat
  actual    : Nat
  andonStop : Vector Nat 4
  otherStop : Vector Nat 4
  deriving DecidableEq, Repr, Inhabited

/-- R137: the previous-shift figures, frozen at END SHIFT. -/
structure PreviousShift where
  start      : Nat
  finish     : Nat
  state      : ShiftState
  index      : Option Nat
  takt       : Nat
  volume     : Nat
  worked     : Nat
  target     : Nat
  fraction   : Nat
  actual     : Nat
  delta      : Int
  attainment : Option Nat
  projection : Nat
  andonStop  : Vector Nat 4
  otherStop  : Vector Nat 4
  deriving DecidableEq, Repr, Inhabited

/-! ## Sections -/

/-- R33: the outcome of a section's last sync edge. -/
inductive SyncOutcome | aligned | forward | backward
  deriving DecidableEq, Repr, Inhabited

/-- R33: the state of a section's tracker. -/
structure Tracker where
  phase      : Nat
  debt       : Nat
  saturated  : Bool
  pitchCount : Nat
  passCount  : Nat
  lastSync   : Option (SyncOutcome × Nat)
  deriving DecidableEq, Repr, Inhabited

/-- R52: the state of a section's stop logic. `holdOrder` lists call numbers, first to last. -/
structure StopLogic where
  holdOrder    : List Nat
  overflow     : Bool
  waiting      : Nat
  pending      : Bool
  request      : Bool
  coast        : Nat
  unattributed : Nat
  deriving DecidableEq, Repr, Inhabited

/-- R46, R47: a line input: its raw electrical state, its debounced state, and whether a difference is being
timed. -/
structure InputState where
  raw       : Bool
  debounced : Bool
  timing    : Bool
  deriving DecidableEq, Repr, Inhabited

/-! ## Stations and the station loops -/

/-- R88: a lamp pattern; the colour none is OFF. -/
structure Lamp where
  colour : Option Colour
  blink  : Blink
  deriving DecidableEq, Repr, Inhabited

/-- 4.4: the state of a station. -/
inductive StationState | unknown | online | offline
  deriving DecidableEq, Repr, Inhabited

/-- R8: the verdict of the call table on an event. -/
inductive Verdict | accepted | rejected | refused
  deriving DecidableEq, Repr, Inhabited

/-- 4.4: the record the loop controller keeps for a station. `rejected` says that the last verdict is REJECTED
(it is ACCEPTED otherwise); `waiting` is the time of first refusal while "stop call waiting" is marked. -/
structure Station where
  state          : StationState
  ackThrough     : Option Nat
  rejected       : Bool
  missRun        : Nat
  holdRun        : Nat
  waiting        : Option Nat
  lamp           : Lamp
  goodReplies    : Nat
  misses         : Nat
  rejectedEvents : Nat
  deriving DecidableEq, Repr, Inhabited

/-- R73: the kinds of event in a STATUS. -/
inductive EventKind | call | answer | carry | clear | restart
  deriving DecidableEq, Repr, Inhabited

/-- R73: one event of a STATUS: its sequence 0–7, its kind and its operand. -/
structure Event where
  seq     : Nat
  kind    : EventKind
  operand : Nat
  deriving DecidableEq, Repr, Inhabited

/-- R73: the frames the controller sends on a station loop. -/
inductive LoopFrame
  | poll (address : Nat) (ack : Option Nat) (rejected : Bool) (lamp : Lamp)
  | groupSet (pattern mask : Nat) (text : Text)
  | apply
  deriving DecidableEq, Repr, Inhabited

/-- R73: what a good frame received on a station loop says. -/
inductive LoopReply
  | status (address : Nat) (events : List Event)
  | hold (address : Nat)
  deriving DecidableEq, Repr, Inhabited

/-- R72, R185: the receiver of a serial line: outside a frame, or inside one with the content so far, an open
literal-next mark, and whether something received has already made the frame bad. -/
inductive Receiver
  | outside
  | inside (content : List Byte) (literal : Bool) (bad : Bool)
  deriving DecidableEq, Repr, Inhabited

/-- R77: the state of a loop controller. `polled` is the station of the outstanding poll, `started` whether a start
mark has come for it, `sent` the frames put on the line by the last step that sent any (the model's record of the
line). Stations and zones owed are kept in ascending number. -/
structure LoopState where
  cycle         : Nat
  last          : Option Nat
  polled        : Option Nat
  started       : Bool
  receiver      : Receiver
  zonesOwed     : List Nat
  stationsOwed  : List Nat
  announcements : Vector Text 24
  sent          : List LoopFrame
  deriving DecidableEq, Repr, Inhabited

/-! ## Equations -/

/-- R101: the working state of an equation. -/
structure EquationState where
  raw    : Bool
  output : Bool
  timer  : Option Nat
  deriving DecidableEq, Repr, Inhabited

/-! ## Boards and the board link -/

/-- R157: the content of a field. -/
structure Content where
  text   : Text
  colour : Colour
  blink  : Blink
  deriving DecidableEq, Repr, Inhabited

/-- R164, R173: a frame of a board's queue. Field 0 with no content is the CLEAR frame. -/
structure BoardFrame where
  field     : Nat
  priority  : Nat
  content   : Option Content
  attempts  : Nat
  reconfirm : Bool
  deriving DecidableEq, Repr, Inhabited

/-- R173: the state of a board. -/
inductive BoardMode | unknown | live | lagging | dark
  deriving DecidableEq, Repr, Inhabited

/-- R171: the reason of a REFUSE. -/
inductive RefuseReason | fieldUndefined | textTooLong
  deriving DecidableEq, Repr, Inhabited

/-- R173: how the last frame of a board ended. -/
inductive LastOutcome | delivered | refused | failed | flushed
  deriving DecidableEq, Repr, Inhabited

/-- R162, R173: the state the composer and the board link keep for a board. The toggle none is "unknown". -/
structure Board where
  queue       : List BoardFrame
  state       : BoardMode
  toggle      : Option Bool
  timeoutRun  : Nat
  probeTimer  : Option Nat
  probeDue    : Bool
  lastOutcome : Option LastOutcome
  lastRefusal : Option (Nat × RefuseReason)
  delivered   : Nat
  refused     : Nat
  failed      : Nat
  clearing    : Bool
  owed        : Bool
  deriving DecidableEq, Repr, Inhabited

/-- R161, R162: the state the composer keeps for a field. -/
structure FieldState where
  text    : Text
  last    : Option Content
  marked  : Bool
  deriving DecidableEq, Repr, Inhabited

/-- R175: what is in flight on the board link: a FIELD frame with the toggle it was sent with, or a PROBE. -/
inductive Flight
  | field (board : Nat) (frame : BoardFrame) (toggle : Bool)
  | probe (board : Nat)
  deriving DecidableEq, Repr, Inhabited

/-- R173: the link part of the board link's state. -/
structure BoardLink where
  inFlight   : Option Flight
  position   : Nat
  started    : Bool
  receiver   : Receiver
  deriving DecidableEq, Repr, Inhabited

/-- R171: what a good frame received on the board link says. -/
inductive BoardReply
  | ack (address : Nat) (toggle : Bool)
  | refuse (address : Nat) (toggle : Bool) (reason : RefuseReason)
  deriving DecidableEq, Repr, Inhabited

/-! ## Notices -/

/-- R184: the eight kinds of notice. -/
inductive NoticeKind | call | sec | station | board | history | shift | capacity | input
  deriving DecidableEq, Repr, Inhabited

/-- R27: the changes a CALL notice reports. -/
inductive CallChange | new | repeated | answer | carry | hold | escalate | close
  deriving DecidableEq, Repr, Inhabited

/-- R69: the cause of a SECTION notice, with the field particular to it. The reason of STOP is HOLD when
`byHold`, OVERFLOW otherwise. -/
inductive SectionCause
  | stop (byHold : Bool)
  | release (coast : Nat)
  | pending
  | rollback (saturated : Bool) (debt phase : Nat)
  deriving DecidableEq, Repr, Inhabited

/-- R139: the cause of a SHIFT notice. -/
inductive ShiftCause | start | period | ended
  deriving DecidableEq, Repr, Inhabited

/-- R139: the figures a SHIFT notice carries. -/
structure ShiftReport where
  state      : ShiftState
  index      : Option Nat
  kind       : Option PeriodKind
  remaining  : Option Nat
  takt       : Nat
  volume     : Nat
  worked     : Nat
  target     : Nat
  actual     : Nat
  delta      : Int
  attainment : Option Nat
  projection : Nat
  deriving DecidableEq, Repr, Inhabited

/-- R184: a notice, with the fields its owner lists (R27, R69, R94, R182, R149, R139, R21, R63, R146, R49). -/
inductive Notice
  | call (change : CallChange) (outcome : Option Closing) (number : Nat) (origin : Origin) (cls zone : Nat)
      (state : CallState) (answered : Option Nat) (level repeats : Nat)
  | sec (n : Nat) (cause : SectionCause) (request overflow pending : Bool) (holding : Nat)
  | station (n : Nat) (loop : LoopId) (address : Nat) (previous new : StationState) (misses calls : Nat)
  | board (n : Nat) (previous new : BoardMode) (timeoutRun queued : Nat) (lastOutcome : Option LastOutcome)
      (failed : Nat)
  | history (stale : Bool) (count oldest newest : Nat)
  | shift (cause : ShiftCause) (report : ShiftReport)
  | capacityTable (full : Bool) (records noneRecords : Nat)
  | capacityOverflow (n : Nat) (held : Bool)
  | capacityHistory (overflowCount discarded new : Nat)
  | input (k : Nat) (level : Bool)
  deriving DecidableEq, Repr, Inhabited

/-! ## Replies -/

/-- R187: the result codes. -/
inductive Result
  | done | adjusted | badFormat | badValue | wrongMode | wrongState | notFound | full | badConfig | storeFailed
  | unknownKind
  deriving DecidableEq, Repr, Inhabited

/-- R189: the reasons of BAD CONFIG. -/
inductive ConfigReason
  | noSection | sectionUndefined | zoneUndefined | ladderUndefined | countingSection | groupPattern
  | equationOrder | fieldReference
  deriving DecidableEq, Repr, Inhabited

/-- R193: the start note. -/
inductive StartNote
  | loaded
  | rejected (reason : ConfigReason) (index : Nat)
  | storeInvalid
  deriving DecidableEq, Repr, Inhabited

/-- R195: the body of a READ STATUS reply. -/
structure StatusReport where
  mode          : Mode
  shift         : ShiftState
  timeOfDay     : Nat
  clockSet      : Bool
  calls         : Nat
  noneCalls     : Nat
  stopRequests  : List Bool
  offline       : Nat
  dark          : Nat
  historyCount  : Nat
  overflowCount : Nat
  badFrames     : Nat
  lostRequests  : Nat
  lostNotices   : Nat
  storeValid    : Bool
  startNote     : StartNote
  deriving DecidableEq, Repr, Inhabited

/-- R44: the body of a READ SECTION reply. -/
structure SectionReport where
  definition   : SectionDef
  tracker      : Tracker
  syncLevel    : Option Bool
  passLevel    : Option Bool
  runInLevel   : Option Bool
  runLevel     : Option Bool
  request      : Bool
  overflow     : Bool
  pending      : Bool
  holding      : Nat
  armed        : Nat
  coast        : Nat
  unattributed : Nat
  deriving DecidableEq, Repr, Inhabited

/-- R30: one record of a READ CALLS reply. -/
structure CallReport where
  rank     : Nat
  number   : Nat
  origin   : Origin
  cls      : Nat
  zone     : Nat
  sec      : Nat
  state    : CallState
  raised   : Nat
  answered : Option Nat
  firstHold : Option Nat
  distance : Option Nat
  holdRank : Option Nat
  heldTime : Nat
  level    : Nat
  timer    : Option Nat
  repeats  : Nat
  carried  : Bool
  deriving DecidableEq, Repr, Inhabited

/-- R93: the summary of one loop in a READ STATIONS reply. -/
structure LoopReport where
  settings : LoopSettings
  cycle    : Nat
  online   : Nat
  unknown  : Nat
  offline  : Nat
  deriving DecidableEq, Repr, Inhabited

/-- R93: the entry of a defined station in a READ STATIONS reply. -/
structure StationReport where
  loop       : LoopId
  address    : Nat
  definition : StationDef
  record     : Station
  calls      : Nat
  deriving DecidableEq, Repr, Inhabited

/-- R181: the link part of a READ BOARDS reply. The field none of the frame in flight is a PROBE. -/
structure LinkReport where
  responseMs : Nat
  position   : Nat
  inFlight   : Option (Nat × Option Nat × Nat)
  deriving DecidableEq, Repr, Inhabited

/-- R181: one entry of a READ BOARDS reply. -/
structure BoardReport where
  number      : Nat
  state       : BoardMode
  toggle      : Option Bool
  timeoutRun  : Nat
  retry       : RetryPolicy
  probeTimer  : Option Nat
  probeDue    : Bool
  depth       : Nat
  queued      : Nat
  head        : Option (Nat × Nat)
  reconfirms  : Nat
  owed        : Bool
  clearing    : Bool
  marked      : Nat
  lastOutcome : Option LastOutcome
  lastRefusal : Option (Nat × RefuseReason)
  delivered   : Nat
  refused     : Nat
  failed      : Nat
  deriving DecidableEq, Repr, Inhabited

/-- R140: the current-shift group of a READ ACCOUNT reply. -/
structure CurrentReport where
  shift        : Shift
  kind         : Option PeriodKind
  delta        : Int
  attainment   : Option Nat
  plannedLeft  : Nat
  projection   : Nat
  unattributed : List Nat
  deriving DecidableEq, Repr, Inhabited

/-! The layouts in which READ DEFINITION returns an item that may be undefined. A value of an enumeration is its code,
since an undefined item returns 0 there. -/

/-- R32: the six attributes of a section, in order. -/
structure SectionLayout where
  pitch     : Nat
  runOn     : Nat
  restart   : Nat
  syncInput : Nat
  passInput : Nat
  runInput  : Nat
  deriving DecidableEq, Repr, Inhabited

/-- R119: the basis, the level count and the four delays of a ladder. -/
structure LadderLayout where
  basis  : Nat
  levels : Nat
  delays : Vector Nat 4
  deriving DecidableEq, Repr, Inhabited

/-- R105, R119: target kind and index, tune number, delay kind and time, and the terms, whose number is the term
count. -/
structure EquationLayout where
  targetKind : Nat
  target     : Nat
  tune       : Nat
  delayKind  : Nat
  delay      : Nat
  terms      : List Term
  deriving DecidableEq, Repr, Inhabited

/-- R156: kind, figure or scope code, section or zone number, rank, width and base colour of a field. -/
structure FieldLayout where
  kind   : Nat
  source : Nat
  number : Nat
  rank   : Nat
  width  : Nat
  colour : Nat
  deriving DecidableEq, Repr, Inhabited

/-- R191: LINKS: the settings of R190 other than the input settings, in the same order. -/
structure LineSettings where
  loopA           : LoopSettings
  loopB           : LoopSettings
  boardResponseMs : Nat
  refreshSeconds  : Nat
  retry           : Vector RetryPolicy 8
  threshold       : Nat
  staleSeconds    : Nat
  deriving DecidableEq, Repr, Inhabited

/-- R191: one item of the working definitions, as READ DEFINITION returns it. `used` is the use mark: DEFINED if true,
UNDEFINED if false. -/
inductive DefinitionReport
  | cls (c : ClassDef)
  | codeMap (m : CodeMap)
  | sec (used : Bool) (d : SectionLayout)
  | zone (used : Bool) (d : ZoneDef)
  | station (used : Bool) (loop : LoopId) (address : Nat) (d : StationDef)
  | ladder (used : Bool) (d : LadderLayout)
  | inputs (settings : List (InputSettings × Bool))
  | equation (used : Bool) (d : EquationLayout) (state : EquationState)
  | outputs (flags : List (Bool × Option Nat)) (relays : List Bool) (tunes : List Nat)
  | board (used : Bool) (depth : Nat)
  | field (used : Bool) (d : FieldLayout) (last : Option Content) (marked : Bool)
  | account (counting : Nat) (source : ActualSource)
  | links (l : LineSettings)
  deriving DecidableEq, Repr, Inhabited

/-- R187: the body of a reply after its kind code and result. A READ DEFINITION reply carries the item code and the two
indices of its request before the item (R191). -/
inductive ReplyBody
  | empty
  | status (r : StatusReport)
  | badConfig (reason : ConfigReason) (index : Nat)
  | equation (n : Nat) (termIndex : Option Nat)
  | definition (item first second : Nat) (d : DefinitionReport)
  | clock (before after : Nat)
  | reports (mask : Vector Bool 8)
  | shiftStarted (state : ShiftState) (periods plannedTenths takt volume : Nat)
  | shiftEnded (p : PreviousShift)
  | takt (takt fraction target : Nat)
  | volume (volume target fraction : Nat)
  | corrected (amount : Int) (before after : Nat)
  | account (state : ShiftState) (counting : Nat) (source : ActualSource) (current : Option CurrentReport)
      (previous : Option PreviousShift)
  | callRaised (isNew : Bool) (number : Nat) (state : CallState) (zone : Nat)
  | callActed (number : Nat) (state : CallState)
  | callClosed (number : Nat) (outcome : Closing)
  | calls (inScope start : Nat) (records : List CallReport)
  | restarted (n : Nat) (request : Bool) (wasPending : Bool)
  | sec (r : SectionReport)
  | flag (f : Nat) (value : Bool)
  | text (board field length : Nat)
  | stations (a b : LoopReport) (entries : List (Nat × Option StationReport))
  | boards (link : LinkReport) (entries : List (Nat × Option BoardReport))
  | history (count oldest newest : Nat) (records : List HistoryRecord)
  | released (removed count oldest newest : Nat)
  | flushed (n : Nat) (state : BoardMode) (removed : Nat)
  deriving DecidableEq, Repr, Inhabited

/-! ## The host link -/

/-- R186: a request received: its tag, its kind code and its body. -/
structure Request where
  tag  : Byte
  kind : Byte
  body : List Byte
  deriving DecidableEq, Repr, Inhabited

/-- R183: a frame of the outbound queue: a reply, or a notice with the time of day of its occasion. -/
inductive HostFrame
  | reply (tag kind : Byte) (result : Result) (body : ReplyBody)
  | notice (time : Nat) (n : Notice)
  deriving DecidableEq, Repr, Inhabited

/-- R183, R186: a flow mark. -/
inductive FlowMark | pause | resume
  deriving DecidableEq, Repr, Inhabited

/-- R186, R192: what becomes of the request at the head of the queue: nothing is being served; a STORE SETTINGS
write is going on; or its reply waits for room. -/
inductive Serving
  | free
  | storing
  | replyWaits (frame : HostFrame)
  deriving DecidableEq, Repr, Inhabited

/-- R183–R187: the state of the host link. `sending` says whether the head of the outbound queue is being sent;
`lastMark` is the last flow mark the controller sent (the model's record of the line). -/
structure HostLink where
  requests     : List Request
  serving      : Serving
  outbound     : List HostFrame
  sending      : Bool
  paused       : Bool
  selfPaused   : Bool
  lastMark     : Option FlowMark
  receiver     : Receiver
  badFrames    : Nat
  lostRequests : Nat
  lostNotices  : Nat
  reports      : Vector Bool 8
  baud         : Nat
  deriving DecidableEq, Repr, Inhabited

end Sys2Proof.Machine
end

