-- ==== Sys2Proof/Machine/State.lean ====
section
/-! DEFINITION. State: the whole state of the controller as plain data, the reasons a command can stop, and the state
after reset. -/

namespace Sys2Proof.Machine

/-- Why a command stops. Each is SAFE: it is raised only by a command that no event of the controller spells, and no
well-formed command raises one (log entry 3). -/
inductive Fault
  /-- Raised by an encoder pulse, an input change, an expiry or a stop-distance expiry whose section, input or board
  number the controller does not have. Safe: no such line or unit exists. -/
  | noSuchLine (n : Nat)
  /-- Raised by a request whose body is longer than the 240 bytes a host frame can carry (R185). Safe: such a frame is
  discarded as damaged and never becomes a request. -/
  | bodyTooLong
  /-- Raised by an UNKNOWN_KIND command whose kind code is a request kind (R187). Safe: that request is another
  command. -/
  | kindIsKnown
  deriving DecidableEq, Repr, Inhabited

/-- Why a command has no meaning. -/
inductive Refusal
  /-- Raised by exec alone, for a command whose meaning is not written yet. Safe. -/
  | notModelled (mnemonic : String)
  deriving DecidableEq, Repr, Inhabited

/-- The state of the controller. The blocks stand in the order of 00_scope's table of blocks. -/
structure State where
  /-- R188, R189. -/
  mode         : Mode
  /-- R192: the working definitions and link settings. -/
  defs         : Definitions
  /-- R192: the nonvolatile copy; some copy is VALID, none is INVALID. -/
  store        : Option Definitions
  /-- R193. -/
  startNote    : StartNote
  /-- 00_scope, Connections; R193: the levels of the two strap pins, as the last reset read them (true is high). -/
  straps       : Bool × Bool
  /-- R194: seconds since midnight. -/
  timeOfDay    : Nat
  /-- R194: the tick count within the second; 10 while the rollover is due (log entry 1). -/
  tenths       : Nat
  /-- R194: the clock has been set by SET CLOCK. -/
  clockSet     : Bool
  /-- R102: the FAST blink source. -/
  blinkFast    : Bool
  /-- R102: the SLOW blink source. -/
  blinkSlow    : Bool
  /-- R102: the turns of FAST since SLOW last turned, 0–3. -/
  blinkPhase   : Nat
  /-- R46, R47. -/
  inputs       : Vector InputState 16
  /-- R33. -/
  trackers     : Vector Tracker 4
  /-- R5, R17: the standing calls, in ascending arrival order. -/
  calls        : List Call
  /-- R6: the last call number issued. -/
  lastNumber   : Nat
  /-- R7. -/
  arrivalCount : Nat
  /-- R52. -/
  stops        : Vector StopLogic 4
  /-- R77. -/
  loopA        : LoopState
  /-- R77. -/
  loopB        : LoopState
  /-- 4.4. -/
  stations     : Vector Station 96
  /-- R101. -/
  equations    : Vector EquationState 48
  /-- R113. -/
  flags        : Vector Bool 32
  /-- R115: the relays; the relay outputs follow them. -/
  relays       : Vector Bool 8
  /-- R116: the tune numbers on the four channels. -/
  tunes        : Vector Nat 4
  /-- R120. -/
  shiftState   : ShiftState
  /-- R120: the current-shift part, absent in NONE. -/
  shift        : Option Shift
  /-- R137. -/
  previous     : Option PreviousShift
  /-- R142: the history records, oldest first. -/
  history      : List HistoryRecord
  /-- R142. -/
  nextSeq      : Nat
  /-- R142. -/
  overflowCount : Nat
  /-- R142. -/
  staleTimer   : Option Nat
  /-- R162, R173. -/
  boards       : Vector Board 8
  /-- R161, R162. -/
  fields       : Vector (Vector FieldState 12) 8
  /-- R162. -/
  refreshTimer : Option Nat
  /-- R173. -/
  link         : BoardLink
  /-- R183–R187. -/
  host         : HostLink
  /-- The MODEL's own: how many free values have been drawn so far (log entry 5). -/
  freeCount    : Nat
  /-- The MODEL's own: the commands that wait, first in, first out. -/
  pending      : List Instr
  deriving DecidableEq, Repr, Inhabited

/-! ## Starting values -/

/-- R1: the class n of the empty definitions: "CLASS n" followed by one space. -/
def emptyClass (n : Nat) : ClassDef :=
  { name := [0x43#8, 0x4C#8, 0x41#8, 0x53#8, 0x53#8, 0x20#8, BitVec.ofNat 8 (0x30 + n), 0x20#8]
    stop := .none, priority := 0, ladder := 0, orphan := .keep, colour := .white }

/-- R3: the code map of the empty definitions. R3 says of its six entries only that they are unused; the codes and classes
that READ DEFINITION (R4) returns of them are 0 (DESIGN CHOICE, log entry 27). -/
def emptyCodeMap : CodeMap :=
  { exact := List.replicate 4 ⟨false, 0, 0⟩, ranges := List.replicate 2 ⟨false, 0, 0, 0⟩, unmatched := none }

/-- R45, R77, R147, R168, R173: the link settings with an invalid store. -/
def defaultLinks : LinkSettings :=
  { loopA := ⟨10, 5⟩, loopB := ⟨10, 5⟩, boardResponseMs := 40, refreshSeconds := 0
    retry := Vector.replicate 8 .three, threshold := 16, staleSeconds := 30
    inputs := Vector.replicate 16 ⟨10, false, false, false⟩ }

/-- R193 step 5: the empty definitions and default link settings. -/
def emptyDefinitions : Definitions :=
  { classes := #v[emptyClass 1, emptyClass 2, emptyClass 3, emptyClass 4, emptyClass 5, emptyClass 6, emptyClass 7,
      emptyClass 8]
    codeMap := emptyCodeMap
    sections := Vector.replicate 4 none, zones := Vector.replicate 24 none, stations := Vector.replicate 96 none
    ladders := Vector.replicate 8 none, equations := Vector.replicate 48 none, boards := Vector.replicate 8 none
    fields := Vector.replicate 8 (Vector.replicate 12 none)
    counting := 1, source := .pitch, links := defaultLinks }

/-- R33: the starting values of a tracker. -/
def startTracker : Tracker :=
  { phase := 0, debt := 0, saturated := false, pitchCount := 0, passCount := 0, lastSync := none }

/-- R52: the starting values of stop logic. -/
def startStop : StopLogic :=
  { holdOrder := [], overflow := false, waiting := 0, pending := false, request := false, coast := 0
    unattributed := 0 }

/-- Conventions: four spaces. -/
def spaces4 : Text := List.replicate 4 0x20#8

/-- R77: the starting values of a loop controller. -/
def startLoop : LoopState :=
  { cycle := 0, last := none, polled := none, started := false, receiver := .outside, zonesOwed := []
    stationsOwed := [], announcements := Vector.replicate 24 spaces4, sent := [] }

/-- R88: the lamp OFF, STEADY. -/
def lampOff : Lamp := { colour := none, blink := .steady }

/-- 4.4: the starting values of a station. -/
def startStation : Station :=
  { state := .unknown, ackThrough := none, rejected := false, missRun := 0, holdRun := 0, waiting := none
    lamp := lampOff, goodReplies := 0, misses := 0, rejectedEvents := 0 }

/-- R101: the starting values of an equation. -/
def startEquation : EquationState := { raw := false, output := false, timer := none }

/-- R162, R173: the starting values of a board. -/
def startBoard : Board :=
  { queue := [], state := .unknown, toggle := none, timeoutRun := 0, probeTimer := none, probeDue := false
    lastOutcome := none, lastRefusal := none, delivered := 0, refused := 0, failed := 0, clearing := false
    owed := false }

/-- R161, R162: the starting values of a field. -/
def startField : FieldState := { text := [], last := none, marked := false }

/-- R173: the starting values of the board link. -/
def startBoardLink : BoardLink := { inFlight := none, position := 8, started := false, receiver := .outside }

/-- R183, R184, R186: the host link after a reset, its one resume mark sent. -/
def startHost : HostLink :=
  { requests := [], serving := .free, outbound := [], sending := false, paused := false, selfPaused := false
    lastMark := some .resume, receiver := .outside, badFrames := 0, lostRequests := 0, lostNotices := 0
    reports := Vector.replicate 8 false, baud := 19200 }

/-- R193: the controller right after a reset with an INVALID store, both strap pins low and every raw input low
(DESIGN CHOICE for the store, the pins and the inputs: log entry 7). -/
def State.reset : State :=
  { mode := .config, defs := emptyDefinitions, store := none, startNote := .storeInvalid, straps := (false, false)
    timeOfDay := 0, tenths := 0, clockSet := false, blinkFast := false, blinkSlow := false, blinkPhase := 0
    inputs := Vector.replicate 16 ⟨false, false, false⟩, trackers := Vector.replicate 4 startTracker
    calls := [], lastNumber := 0, arrivalCount := 0, stops := Vector.replicate 4 startStop
    loopA := startLoop, loopB := startLoop, stations := Vector.replicate 96 startStation
    equations := Vector.replicate 48 startEquation, flags := Vector.replicate 32 false
    relays := Vector.replicate 8 false, tunes := Vector.replicate 4 0
    shiftState := .none, shift := none, previous := none
    history := [], nextSeq := 0, overflowCount := 0, staleTimer := none
    boards := Vector.replicate 8 startBoard, fields := Vector.replicate 8 (Vector.replicate 12 startField)
    refreshTimer := none, link := startBoardLink, host := startHost, freeCount := 0, pending := [] }

end Sys2Proof.Machine
end

