-- ==== Sys2Proof/Machine/Bank.lean ====
section
/-! DEFINITION. Bank: numbered things are counted from 1 (00_scope, Conventions, Indices); a bank of n of them is a
vector, and these are its only accessors. Saturating and wrapping counters stand here too. -/

namespace Sys2Proof.Machine

/-- The i-th thing of a bank, counted from 1. -/
def pick {α : Type} [Inhabited α] {n : Nat} (v : Vector α n) (i : Nat) : α :=
  if h : i - 1 < n then (if i = 0 then default else v[i - 1]) else default

/-- The bank with its i-th thing changed by f; an i outside the bank changes nothing. -/
def alter {α : Type} {n : Nat} (v : Vector α n) (i : Nat) (f : α → α) : Vector α n :=
  if h : i - 1 < n then (if i = 0 then v else v.set (i - 1) (f v[i - 1])) else v

/-- Every thing of a bank changed, each with its own number. -/
def alterAll {α : Type} {n : Nat} (v : Vector α n) (f : Nat → α → α) : Vector α n :=
  Vector.ofFn fun i => f (i.val + 1) v[i]

/-- The numbers 1 to n, ascending. -/
def numbers (n : Nat) : List Nat := (List.range n).map (· + 1)

/-- The number k lies between lo and hi, both included. -/
def within (lo hi k : Nat) : Bool := decide (lo ≤ k) && decide (k ≤ hi)

/-- k brought into the range lo–hi. -/
def clamp (lo hi k : Nat) : Nat := if k < lo then lo else if hi < k then hi else k

/-- A saturating counter raised by k (00_scope, Conventions, Counters). -/
def saturate (limit k n : Nat) : Nat := min limit (n + k)

/-- A wrapping counter raised by 1: it returns to 0 after its maximum. -/
def wrap (maximum n : Nat) : Nat := if maximum ≤ n then 0 else n + 1

/-- The member put into an ascending list without repeats. -/
def insertAscending (k : Nat) : List Nat → List Nat
  | [] => [k]
  | x :: xs => if k < x then k :: x :: xs else if k = x then x :: xs else x :: insertAscending k xs

namespace State

/-- The loop controller of a loop. -/
def loop (s : State) : LoopId → LoopState
  | .a => s.loopA
  | .b => s.loopB

/-- The state with a loop controller changed. -/
def modLoop (s : State) (l : LoopId) (f : LoopState → LoopState) : State :=
  match l with
  | .a => { s with loopA := f s.loopA }
  | .b => { s with loopB := f s.loopB }

/-- The state with a station's record changed. -/
def modStation (s : State) (n : Nat) (f : Station → Station) : State := { s with stations := alter s.stations n f }

/-- The state with a section's stop logic changed. -/
def modStop (s : State) (n : Nat) (f : StopLogic → StopLogic) : State := { s with stops := alter s.stops n f }

/-- The state with a section's tracker changed. -/
def modTracker (s : State) (n : Nat) (f : Tracker → Tracker) : State := { s with trackers := alter s.trackers n f }

/-- The state with a board's record changed. -/
def modBoard (s : State) (n : Nat) (f : Board → Board) : State := { s with boards := alter s.boards n f }

/-- The state with a field's record changed. -/
def modField (s : State) (b f : Nat) (g : FieldState → FieldState) : State :=
  { s with fields := alter s.fields b fun row => alter row f g }

/-- The state with the call of a number changed (R6: no two standing calls have one number). -/
def modCall (s : State) (number : Nat) (f : Call → Call) : State :=
  { s with calls := s.calls.map fun c => if c.number = number then f c else c }

/-- The standing call of a number. -/
def callOf (s : State) (number : Nat) : Option Call := s.calls.find? fun c => c.number == number

/-- The state with the host link changed. -/
def modHost (s : State) (f : HostLink → HostLink) : State := { s with host := f s.host }

/-- The state with the board link changed. -/
def modLink (s : State) (f : BoardLink → BoardLink) : State := { s with link := f s.link }

/-- The state with the working definitions changed. -/
def modDefs (s : State) (f : Definitions → Definitions) : State := { s with defs := f s.defs }

/-- The state with the running shift changed, if one runs. -/
def modShift (s : State) (f : Shift → Shift) : State := { s with shift := s.shift.map f }

/-- The definition of a section, if it is defined. -/
def sectionDef (s : State) (n : Nat) : Option SectionDef := pick s.defs.sections n

/-- The definition of a zone, if it is defined. -/
def zoneDef (s : State) (n : Nat) : Option ZoneDef := pick s.defs.zones n

/-- The definition of a station, if it is defined. -/
def stationDef (s : State) (n : Nat) : Option StationDef := pick s.defs.stations n

/-- The attributes of a class (R1: a class is never absent). -/
def classDef (s : State) (k : Nat) : ClassDef := pick s.defs.classes k

/-- The definition of a ladder, if it is defined. -/
def ladderDef (s : State) (n : Nat) : Option LadderDef := pick s.defs.ladders n

/-- The definition of an equation, if it is defined. -/
def equationDef (s : State) (n : Nat) : Option EquationDef := pick s.defs.equations n

/-- The queue depth of a board, if it is defined. -/
def boardDepth (s : State) (b : Nat) : Option Nat := pick s.defs.boards b

/-- The definition of a field, if it is defined. -/
def fieldDef (s : State) (b f : Nat) : Option FieldDef := pick (pick s.defs.fields b) f

end State

/-- R75: the loop of a station. -/
def loopOf (n : Nat) : LoopId := if n ≤ 48 then .a else .b

/-- R75: the address of a station on its loop. -/
def addressOf (n : Nat) : Nat := if n ≤ 48 then n else n - 48

/-- R75: the station at an address of a loop. -/
def stationAt (l : LoopId) (address : Nat) : Nat :=
  match l with
  | .a => address
  | .b => address + 48

/-- R77: the link settings of a loop. -/
def loopSettings (s : State) : LoopId → LoopSettings
  | .a => s.defs.links.loopA
  | .b => s.defs.links.loopB

end Sys2Proof.Machine
end

