-- ==== Sys2Proof/Machine/Views.lean ====
section
/-! DEFINITION. Views: what is computed from the state and not held in it: input and run levels, the display order, the
hold ranks, the lamp of a station, and the derived figures of the shift account. -/

namespace Sys2Proof.Machine

/-! ## Inputs and run levels -/

/-- R46: the level of an input is its debounced state, inverted when the invert mark is yes. -/
def inputLevel (s : State) (k : Nat) : Bool := (pick s.inputs k).debounced != (pick s.defs.links.inputs k).invert

/-- R44: the level of a sensor input, none where the input number is 0. -/
def sensorLevel (s : State) (k : Nat) : Option Bool := if k = 0 then none else some (inputLevel s k)

/-- R43: the run level of a section: ACTIVE (true), INACTIVE (false) or NONE. -/
def runLevel (s : State) (n : Nat) : Option Bool := (s.sectionDef n).bind fun d => sensorLevel s d.runInput

/-! ## Calls -/

/-- R1: the call's class is of stop behaviour NONE. -/
def isNoneClass (s : State) (c : Call) : Bool := decide ((s.classDef c.cls).stop = .none)

/-- R17: the number of NONE-class records. -/
def noneCount (s : State) : Nat := (s.calls.filter (isNoneClass s)).length

/-- R17: the table is full when it holds 64 records. -/
def tableFull (s : State) : Bool := decide (Config.callCapacity ≤ s.calls.length)

/-- R18: there is room for a new call of the class. -/
def hasRoom (s : State) (cls : Nat) : Bool :=
  if (s.classDef cls).stop = .none then
    decide (noneCount s < Config.noneCapacity) && decide (s.calls.length < Config.callCapacity)
  else decide (s.calls.length < Config.callCapacity)

/-- R26: the call a stands before the call b. -/
def standsBefore (s : State) (a b : Call) : Bool :=
  if (a.state = .holding) ≠ (b.state = .holding) then decide (a.state = .holding)
  else if (s.classDef a.cls).priority ≠ (s.classDef b.cls).priority then
    decide ((s.classDef b.cls).priority < (s.classDef a.cls).priority)
  else if a.level ≠ b.level then decide (b.level < a.level)
  else decide (a.arrival < b.arrival)

/-- R26: the standing calls in display order. -/
def displayOrder (s : State) : List Call := s.calls.insertionSort fun a b => standsBefore s a b = true

/-- R26, R30: the calls of a scope, in display order. -/
def callsInScope (s : State) : Scope → List Call
  | .all => displayOrder s
  | .sec n => (displayOrder s).filter fun c => c.sec == n
  | .zone n => (displayOrder s).filter fun c => c.zone == n

/-- R9: the standing calls whose origin is the station, in display order. -/
def callsOfStation (s : State) (n : Nat) : List Call := (displayOrder s).filter fun c => c.origin == .station n

/-- R11: the standing call of an origin and a class. -/
def callFrom (s : State) (o : Origin) (cls : Nat) : Option Call :=
  s.calls.find? fun c => c.origin == o && c.cls == cls

/-- R60: the hold rank of a HOLDING call, its position in its section's hold order from 1. -/
def holdRank (s : State) (c : Call) : Option Nat :=
  let order := (pick s.stops c.sec).holdOrder
  if c.number ∈ order then some (order.idxOf c.number + 1) else none

/-- R88: the lamp pattern computed from a station's calls. -/
def lampOf (s : State) (n : Nat) : Lamp :=
  let cs := callsOfStation s n
  match cs with
  | [] => lampOff
  | first :: _ =>
    if cs.any fun c => c.state == .holding then ⟨some .red, .fast⟩
    else match cs.find? fun c => c.answered.isNone with
      | some c => ⟨some (s.classDef c.cls).colour, .slow⟩
      | none => ⟨some (s.classDef first.cls).colour, .steady⟩

/-- R94: the number of standing calls whose origin is the station. -/
def stationCalls (s : State) (n : Nat) : Nat := (s.calls.filter fun c => c.origin == .station n).length

/-! ## Sections, zones and stations -/

/-- R63: the section of a station's zone. -/
def sectionOfStation (s : State) (n : Nat) : Nat :=
  match s.stationDef n with
  | some d => match s.zoneDef d.zone with
    | some z => z.sec
    | none => 0
  | none => 0

/-- R89: the zone has at least one defined station on the loop. -/
def zoneOnLoop (s : State) (l : LoopId) (z : Nat) : Bool :=
  (numbers 48).any fun a => match s.stationDef (stationAt l a) with
    | some d => d.zone == z
    | none => false

/-- R195: the number of defined stations of the loop in a state. -/
def stationsIn (s : State) (l : LoopId) (st : StationState) : Nat :=
  ((numbers 48).filter fun a =>
    (s.stationDef (stationAt l a)).isSome && (pick s.stations (stationAt l a)).state == st).length

/-- R179: the number of defined boards that are DARK. -/
def darkBoards (s : State) : Nat :=
  ((numbers 8).filter fun b => (s.boardDepth b).isSome && (pick s.boards b).state == .dark).length

/-! ## Derived figures of the shift account -/

/-- R131: the delta D. -/
def delta (actual target : Nat) : Int := (actual : Int) - (target : Int)

/-- R132: the attainment in tenths of a percent; undefined when the target is 0. -/
def attainment (actual target : Nat) : Option Nat :=
  if target = 0 then none else some (min 9999 ((actual * 1000 + target / 2) / target))

/-- R133: the lengths, in tenths, of the WORK periods after the running one. -/
def laterWork (sh : Shift) : Nat :=
  (((sh.plan.drop (sh.index.getD sh.plan.length)).filter fun p => p.kind == .work).map fun p => p.minutes * 600).sum

/-- R133: the remaining planned working time Wr. -/
def plannedLeft (st : ShiftState) (sh : Shift) : Nat :=
  match st with
  | .work => sh.remaining.getD 0 + laterWork sh
  | .pause => laterWork sh
  | _ => 0

/-- R133: the projection Pj. -/
def projection (st : ShiftState) (sh : Shift) : Nat :=
  min 9999 (sh.actual + (sh.fraction + plannedLeft st sh) / sh.takt)

/-- R131: the aspect SHIFT BEHIND. -/
def behind (s : State) : Bool :=
  match s.shift with
  | some sh => decide (s.shiftState ≠ .none) && decide (sh.actual < sh.target)
  | none => false

/-- R120: the shift state a period's kind gives. -/
def PeriodKind.toShift : PeriodKind → ShiftState
  | .work => .work
  | .pause => .pause

/-- R120: the running period of the plan. -/
def runningPeriod (sh : Shift) : Option Period := sh.index.bind fun i => sh.plan[i - 1]?

/-- R139: the figures of the running shift, as a SHIFT notice carries them. -/
def shiftReport (st : ShiftState) (sh : Shift) : ShiftReport :=
  { state := st, index := sh.index, kind := (runningPeriod sh).map (·.kind), remaining := sh.remaining
    takt := sh.takt, volume := sh.volume, worked := sh.worked, target := sh.target, actual := sh.actual
    delta := delta sh.actual sh.target, attainment := attainment sh.actual sh.target
    projection := projection st sh }

/-! ## History -/

/-- R142: the oldest sequence; of an empty queue, the next sequence. -/
def oldestSeq (s : State) : Nat := match s.history with
  | r :: _ => r.seq
  | [] => s.nextSeq

/-- R142: the newest sequence; of an empty queue, the next sequence less 1. -/
def newestSeq (s : State) : Nat := (s.nextSeq + 65535) % 65536

end Sys2Proof.Machine
end

