-- ==== Sys2Proof/Machine/Text.lean ====
section
/-! DEFINITION. Text: how the composer writes numbers, words and lines (R157), and the content of each kind of field
(R158–R161). -/

namespace Sys2Proof.Machine

/-- The characters of a word, as bytes. -/
def chars (cs : List Char) : Text := cs.map fun c => BitVec.ofNat 8 c.toNat

/-- 00_scope, Conventions, Text: a byte outside 32–126 is replaced by '?'. -/
def cleanByte (b : Byte) : Byte := if within 32 126 b.toNat then b else 0x3F#8

/-- 00_scope, Conventions, Text. -/
def clean (t : Text) : Text := t.map cleanByte

/-- k spaces. -/
def spaces (k : Nat) : Text := List.replicate k 0x20#8

/-- One decimal digit. -/
def digit (n : Nat) : Byte := BitVec.ofNat 8 (0x30 + n % 10)

/-- The decimal digits of n, at most `fuel` of them, before `acc`. -/
def digits : Nat → Nat → Text → Text
  | 0, _, acc => acc
  | fuel + 1, n, acc => if n / 10 = 0 then digit n :: acc else digits fuel (n / 10) (digit n :: acc)

/-- A whole number in decimal (R158); no number shown has more than ten digits. -/
def decimal (n : Nat) : Text := digits 10 n []

/-- A number below 100 in two digits (R158, R161). -/
def twoDigits (n : Nat) : Text := [digit (n / 10), digit n]

/-- R157: a number right-aligned in w positions, or w '*' when it is longer. -/
def rightAlign (w : Nat) (t : Text) : Text :=
  if w < t.length then List.replicate w 0x2A#8 else spaces (w - t.length) ++ t

/-- R157: a line of words left-aligned: cut after its w-th character, or followed by spaces. -/
def leftAlign (w : Nat) (t : Text) : Text := t.take w ++ spaces (w - t.length)

/-- R157: w '-' characters. -/
def dashes (w : Nat) : Text := List.replicate w 0x2D#8

/-- R159: a name written without its trailing spaces. -/
def trimEnd (t : Text) : Text := (t.reverse.dropWhile fun b => b == 0x20#8).reverse

/-- R158: a count of tenths as a number with one decimal. -/
def oneDecimal (n : Nat) : Text := decimal (n / 10) ++ chars ['.'] ++ decimal (n % 10)

/-- R137: the figures of a shift as END SHIFT freezes them. -/
def freeze (st : ShiftState) (sh : Shift) (now : Nat) : PreviousShift :=
  { start := sh.start, finish := now, state := st, index := sh.index, takt := sh.takt, volume := sh.volume
    worked := sh.worked, target := sh.target, fraction := sh.fraction, actual := sh.actual
    delta := delta sh.actual sh.target, attainment := attainment sh.actual sh.target
    projection := projection st sh, andonStop := sh.andonStop, otherStop := sh.otherStop }

/-- R158: the figures a COUNT field reads: the running shift's, or in NONE the previous shift's, if there are any. -/
def shownFigures (s : State) : Option PreviousShift :=
  if s.shiftState = .none then s.previous else s.shift.map fun sh => freeze s.shiftState sh s.timeOfDay

/-- R158: the DELTA with its sign. -/
def deltaText (d : Int) : Text :=
  if d = 0 then decimal 0
  else if 0 < d then chars ['+'] ++ decimal d.toNat
  else chars ['-'] ++ decimal (-d).toNat

/-- R158: a figure as it is written; none is shown as dashes. -/
def figureText (p : PreviousShift) : Figure → Option Text
  | .target => some (decimal p.target)
  | .actual => some (decimal p.actual)
  | .volume => some (decimal p.volume)
  | .projection => some (decimal p.projection)
  | .delta => some (deltaText p.delta)
  | .attainment => p.attainment.map fun a => oneDecimal a ++ chars ['%']
  | .takt => some (oneDecimal p.takt)
  | .andonStop n => some (decimal (pick p.andonStop n / 600))
  | .otherStop n => some (decimal (pick p.otherStop n / 600))
  | .workTime =>
    let minutes := p.worked / 600
    some (decimal (minutes / 60) ++ chars [':'] ++ twoDigits (minutes % 60))

/-- R157, R158: the text of a COUNT field. -/
def countText (s : State) (fig : Figure) (w : Nat) : Text :=
  match (shownFigures s).bind fun p => figureText p fig with
  | some t => rightAlign w t
  | none => dashes w

/-- R159: the colour and blink that show a call. -/
def callColours (s : State) (c : Call) : Colour × Blink :=
  if c.state = .holding then (.red, .fast)
  else if c.answered.isNone then ((s.classDef c.cls).colour, .slow)
  else ((s.classDef c.cls).colour, .steady)

/-- R159: the content of a ZONE field. -/
def zoneContent (s : State) (z : Nat) (d : FieldDef) : Content :=
  let name := match s.zoneDef z with
    | some zd => trimEnd zd.name
    | none => []
  match callsInScope s (.zone z) with
  | [] => ⟨leftAlign d.width (name ++ chars [' ', 'R', 'U', 'N']), d.colour, .steady⟩
  | c :: _ =>
    let level := if c.level = 0 then [] else chars ['+'] ++ decimal c.level
    let line := name ++ chars [' '] ++ trimEnd (s.classDef c.cls).name ++ level
    ⟨leftAlign d.width line, (callColours s c).1, (callColours s c).2⟩

/-- R160: the origin of a call in six characters. -/
def originText (s : State) : Origin → Text
  | .station n => match s.stationDef n with
    | some d => leftAlign 6 d.name
    | none => spaces 6
  | .tag n => leftAlign 6 (chars ['L'] ++ decimal n)

/-- R160: the age of a call in minutes. -/
def ageMinutes (s : State) (c : Call) : Nat :=
  (if c.raised ≤ s.timeOfDay then s.timeOfDay - c.raised else s.timeOfDay + 86400 - c.raised) / 60

/-- R160: the content of a LIST field. -/
def listContent (s : State) (scope : Scope) (rank : Nat) (d : FieldDef) : Content :=
  match (callsInScope s scope)[rank - 1]? with
  | none => ⟨spaces d.width, d.colour, .steady⟩
  | some c =>
    let line := originText s c.origin ++ chars [' '] ++ leftAlign 8 (s.classDef c.cls).name ++ chars [' ']
      ++ rightAlign 3 (decimal (ageMinutes s c))
    ⟨leftAlign d.width line, (callColours s c).1, (callColours s c).2⟩

/-- R161: the text of a CLOCK field. -/
def clockText (s : State) (w : Nat) : Text :=
  if s.clockSet then
    rightAlign w (twoDigits (s.timeOfDay / 3600) ++ chars [':'] ++ twoDigits (s.timeOfDay / 60 % 60))
  else dashes w

/-- R161: the line of a SHIFT field. -/
def shiftLine (s : State) : Text :=
  let left := chars [' '] ++ decimal (((s.shift.bind (·.remaining)).getD 0 + 599) / 600)
  match s.shiftState with
  | .none => chars ['N', 'O', ' ', 'S', 'H', 'I', 'F', 'T']
  | .work => chars ['W', 'O', 'R', 'K'] ++ left
  | .pause => chars ['B', 'R', 'E', 'A', 'K'] ++ left
  | .overtime => chars ['O', 'V', 'E', 'R', 'T', 'I', 'M', 'E']

/-- R157–R161: the content of field f of board b as the state stands. -/
def contentOf (s : State) (b f : Nat) (d : FieldDef) : Content :=
  match d.kind with
  | .zone z => zoneContent s z d
  | .list scope rank => listContent s scope rank d
  | .count fig => ⟨countText s fig d.width, d.colour, .steady⟩
  | .shift => ⟨leftAlign d.width (shiftLine s), d.colour, .steady⟩
  | .clock => ⟨clockText s d.width, d.colour, .steady⟩
  | .text => ⟨leftAlign d.width (pick (pick s.fields b) f).text, d.colour, .steady⟩

end Sys2Proof.Machine
end

