-- ==== Sys2Proof/Machine/Composer.lean ====
section
/-! DEFINITION. Composer: the board composer (R162–R168): recomposition, entry into the board queues, refresh and the
serving of marked fields. -/

namespace Sys2Proof.Machine

/-- R155: the priority of a field's frames. -/
def FieldKind.priority : FieldKind → Nat
  | .zone _ => 3
  | .list _ _ => 2
  | _ => 1

/-- R166: the CLEAR frame for field 0. -/
def clearFrame : BoardFrame := { field := 0, priority := 0, content := none, attempts := 0, reconfirm := false }

/-- R164: a new frame for a field's content. -/
def fieldFrame (f : Nat) (d : FieldDef) (c : Content) : BoardFrame :=
  { field := f, priority := d.kind.priority, content := some c, attempts := 0, reconfirm := false }

/-- R165: the lowest priority among queued frames. -/
def lowestPriority (q : List BoardFrame) : Nat := (q.map (·.priority)).foldl min 3

/-- R165: the queue without its newest frame of priority p. -/
def dropNewest (p : Nat) (q : List BoardFrame) : List BoardFrame :=
  (q.reverse.eraseP fun fr => fr.priority == p).reverse

/-- R164, R178: a queued frame superseded by a newer content, in place. -/
def supersede (fr : BoardFrame) (c : Content) : BoardFrame :=
  { fr with content := some c, reconfirm := fr.reconfirm || decide (0 < fr.attempts) }

/-- R164, R165: a field's content entering its board's queue, of the given depth. -/
def enqueue (depth : Nat) (fr : BoardFrame) (c : Content) (b : Board) : Board :=
  if b.queue.any fun q => q.field == fr.field then
    { b with queue := b.queue.map fun q => if q.field = fr.field then supersede q c else q }
  else if b.queue.length < depth then { b with queue := b.queue ++ [fr] }
  else if lowestPriority b.queue < fr.priority then
    { b with queue := dropNewest (lowestPriority b.queue) b.queue ++ [fr], owed := true }
  else { b with owed := true }

/-- R163: field f of board b recomposed. -/
def recomposeField (s : State) (b f : Nat) : State :=
  match s.boardDepth b, s.fieldDef b f with
  | some depth, some d =>
    let c := contentOf s b f d
    let old := pick (pick s.fields b) f
    if old.last = some c then s
    else
      let s := s.modField b f fun x => { x with last := some c }
      if old.marked then s else s.modBoard b (enqueue depth (fieldFrame f d c) c)
  | _, _ => s

/-- Every field of every board, by board and then field, in ascending number. -/
def allFields : List (Nat × Nat) := (numbers 8).flatMap fun b => (numbers 12).map fun f => (b, f)

/-- R163: every field whose kind reads a changed source is recomposed; in CONFIG the composer is idle (R162). -/
def State.recompose (s : State) (reads : FieldKind → Bool) : State :=
  if s.mode = .run then
    allFields.foldl (fun s bf => match s.fieldDef bf.1 bf.2 with
      | some d => if reads d.kind then recomposeField s bf.1 bf.2 else s
      | none => s) s
  else s

/-- R163: the fields a change of the calls touches. -/
def FieldKind.readsCalls : FieldKind → Bool
  | .zone _ => true
  | .list _ _ => true
  | _ => false

/-- R163: the fields a change of the account touches. -/
def FieldKind.readsAccount : FieldKind → Bool
  | .count _ => true
  | .shift => true
  | _ => false

/-- R163: the fields a change of the time of day touches. -/
def FieldKind.readsTime : FieldKind → Bool
  | .clock => true
  | .list _ _ => true
  | _ => false

/-- R163: the SHIFT fields. -/
def FieldKind.isShift : FieldKind → Bool
  | .shift => true
  | _ => false

/-- R167: the marked fields of a board in the order they are served: highest priority first, then ascending number. -/
def markedFields (s : State) (b : Nat) : List Nat :=
  [3, 2, 1].flatMap fun p => (numbers 12).filter fun f =>
    (pick (pick s.fields b) f).marked && match s.fieldDef b f with
      | some d => d.kind.priority == p
      | none => false

/-- R167: one marked field served. -/
def serveField (depth b : Nat) (s : State) (f : Nat) : State :=
  match s.fieldDef b f with
  | some d =>
    let c := contentOf s b f d
    (s.modField b f fun x => { x with last := some c, marked := false }).modBoard b
      (enqueue depth (fieldFrame f d c) c)
  | none => s

/-- R167: the board's marked fields served as room allows, unless clearing is yes. -/
def State.serve (s : State) (b : Nat) : State :=
  match s.boardDepth b with
  | some depth =>
    let board := pick s.boards b
    if board.clearing then s
    else ((markedFields s b).take (depth - board.queue.length)).foldl (serveField depth b) s
  | none => s

/-- R167: the frame is a CLEAR. -/
def BoardFrame.isClear (fr : BoardFrame) : Bool := fr.field == 0

/-- R167: the delivery of a CLEAR has ended: clearing becomes no, and the marked fields are served, except where
another CLEAR stands queued (nothing is in flight then). -/
def State.endClear (s : State) (b : Nat) : State :=
  if (pick s.boards b).queue.any BoardFrame.isClear then s
  else (s.modBoard b fun x => { x with clearing := false }).serve b

/-- R166: a refresh of a board. -/
def State.refreshBoard (s : State) (b : Nat) : State :=
  let s := s.modBoard b fun x => { x with queue := [clearFrame], clearing := true, owed := false }
  { s with fields := alter s.fields b fun row => alterAll row fun f x =>
      if (s.fieldDef b f).isSome then { x with marked := true } else x }

/-- R168: a refresh of every defined board that `p` accepts, in ascending number. -/
def State.refreshBoards (s : State) (p : Board → Bool) : State :=
  (numbers 8).foldl (fun s b =>
    if (s.boardDepth b).isSome && p (pick s.boards b) then s.refreshBoard b else s) s

/-- R168: the refresh timer as it is loaded: the interval times 10 tenths, absent for 0. -/
def refreshLoad (s : State) : Option Nat :=
  if s.defs.links.refreshSeconds = 0 then none else some (s.defs.links.refreshSeconds * 10)

/-- R162: the composer's working state at its starting values. -/
def State.idleComposer (s : State) : State :=
  { s with refreshTimer := none
           fields := alterAll s.fields fun _ row => alterAll row fun _ x => { x with last := none, marked := false }
           boards := alterAll s.boards fun _ b => { b with clearing := false, owed := false } }

end Sys2Proof.Machine
end

