-- ==== Sys2Proof/Machine/Operands.lean ====
section
/-! DEFINITION. Operands: the operands of the equations (R102) and the value of a term list (R103, R104). -/

namespace Sys2Proof.Machine

/-- R102: an aspect of a set of calls. -/
def callAspect (cs : List Call) : CallAspect → Bool
  | .call => !cs.isEmpty
  | .opened => cs.any fun c => c.state == .opened
  | .unanswered => cs.any fun c => c.answered.isNone
  | .hold => cs.any fun c => c.state == .holding
  | .esc k => cs.any fun c => decide (k ≤ c.level)

/-- R102: an aspect of a section. -/
def sectionAspect (s : State) (n : Nat) : SectionAspect → Bool
  | .stopreq => (pick s.stops n).request
  | .hold => !(pick s.stops n).holdOrder.isEmpty
  | .run => runLevel s n == some true
  | .pending => (pick s.stops n).pending
  | .overflow => (pick s.stops n).overflow

/-- R102: an aspect of the shift. -/
def shiftAspect (s : State) : ShiftAspect → Bool
  | .work => s.shiftState == .work
  | .pause => s.shiftState == .pause
  | .overtime => s.shiftState == .overtime
  | .none => s.shiftState == .none
  | .behind => behind s

/-- R102: the value of an operand at the moment it is read. An operand that names a section, zone, station or board
that is not defined is false. -/
def operandValue (s : State) : Operand → Bool
  | .input k => inputLevel s k
  | .flag f => pick s.flags f
  | .relay r => pick s.relays r
  | .sectionAspect n a => (s.sectionDef n).isSome && sectionAspect s n a
  | .zone n a => (s.zoneDef n).isSome && callAspect (s.calls.filter fun c => c.zone == n) a
  | .cls n a => callAspect (s.calls.filter fun c => c.cls == n) a
  | .stationOffline n => (s.stationDef n).isSome && (pick s.stations n).state == .offline
  | .boardDark n => (s.boardDepth n).isSome && (pick s.boards n).state == .dark
  | .shift a => shiftAspect s a
  | .blinkSlow => s.blinkSlow
  | .blinkFast => s.blinkFast
  | .tableFull => tableFull s

/-- R103: the operation is one of the NOT forms. -/
def TermOp.negates : TermOp → Bool
  | .and | .or | .xor => false
  | .andNot | .orNot | .xorNot => true

/-- R103: the chain value after a term, from the chain value (absent before the first term) and the operand. -/
def TermOp.combine (op : TermOp) (chain : Option Bool) (x : Bool) : Bool :=
  match chain with
  | none => if op.negates then !x else x
  | some c => match op with
    | .and => c && x
    | .andNot => c && !x
    | .or => c || x
    | .orNot => c || !x
    | .xor => c != x
    | .xorNot => c == x

/-- R103, R104: a list being evaluated: whether a chain already closed was true, the open chain's value, and the
operation of the group term that opened the list (unused for the equation's own list). -/
structure OpenList where
  anyTrue : Bool
  chain   : Option Bool
  op      : TermOp
  deriving DecidableEq, Repr, Inhabited

/-- R103: the value of a list: at least one of its chains is true. -/
def OpenList.value (l : OpenList) : Bool := l.anyTrue || l.chain.getD false

/-- R103, R104: one term, taken with the innermost open list at the head. -/
def evalTerm (s : State) (lists : List OpenList) (t : Term) : List OpenList :=
  match lists with
  | [] => []
  | top :: rest =>
    match t with
    | .operand op x => { top with chain := some (op.combine top.chain (operandValue s x)) } :: rest
    | .group op => ⟨false, none, op⟩ :: top :: rest
    | .elseChain => { top with anyTrue := top.value, chain := none } :: rest
    | .endGroup => match rest with
      | outer :: others => { outer with chain := some (top.op.combine outer.chain top.value) } :: others
      | [] => lists

/-- R103, R104: the raw value of a term list. -/
def rawValue (s : State) (terms : List Term) : Bool :=
  match (terms.foldl (evalTerm s) [⟨false, none, .and⟩]).head? with
  | some l => l.value
  | none => false

/-- R107: a change of state handed to the equation unit, by the operands it may have altered. -/
inductive Change
  | all
  | input (k : Nat)
  | sectionAspect (n : Nat) (a : SectionAspect)
  | calls (zone cls : Nat) (full : Bool)
  | station (n : Nat)
  | board (n : Nat)
  | shift
  | behind
  | blink
  | flag (f : Nat)
  | relay (r : Nat)
  deriving DecidableEq, Repr, Inhabited

/-- R107: the operand is one the change may have altered. -/
def Change.touches (c : Change) (x : Operand) : Bool :=
  match c with
  | .all => true
  | .input k => x == .input k
  | .sectionAspect n a => x == .sectionAspect n a
  | .calls z k full => match x with
    | .zone n _ => n == z
    | .cls n _ => n == k
    | .tableFull => full
    | _ => false
  | .station n => x == .stationOffline n
  | .board n => x == .boardDark n
  | .shift => match x with
    | .shift _ => true
    | _ => false
  | .behind => x == .shift .behind
  | .blink => x == .blinkSlow || x == .blinkFast
  | .flag f => x == .flag f
  | .relay r => x == .relay r

/-- R107: the equation reads an operand the change may have altered. A full pass marks every equation (R118). -/
def EquationDef.reads (e : EquationDef) (c : Change) : Bool :=
  c == .all || e.terms.any fun t => match t with
    | .operand _ x => c.touches x
    | _ => false

end Sys2Proof.Machine
end

