-- ==== Sys2Proof/Machine/Flags.lean ====
section
/-! DEFINITION. Flags: the equation unit (R101–R118): delays, outputs, passes; the flags, relays and tune channels. -/

namespace Sys2Proof.Machine

/-- R109–R111: the working state after the raw value is computed as `now`, by the delay. -/
def takeRaw (d : DelayKind) (e : EquationState) (now : Bool) : EquationState :=
  if now = e.raw then e
  else
    let e := { e with raw := now }
    match d with
    | .none => { e with output := now }
    | .onDelay t => if now then { e with timer := some t } else { e with timer := none, output := false }
    | .offDelay t => if now then { e with timer := none, output := true } else { e with timer := some t }
    | .pulse t => if now && e.timer.isNone then { e with timer := some t, output := true } else e

/-- R109–R112: the working state after the expiry of the delay timer. -/
def takeExpiry (d : DelayKind) (e : EquationState) : EquationState :=
  match d with
  | .none => { e with timer := none }
  | .onDelay _ => { e with timer := none, output := true }
  | .offDelay _ => { e with timer := none, output := false }
  | .pulse _ => { e with timer := none, output := false }

/-- The equation is defined, targets what `p` accepts and has its output true. -/
def drives (s : State) (p : Target → Bool) (i : Nat) : Bool :=
  match s.equationDef i with
  | some e => p e.target && (pick s.equations i).output
  | none => false

/-- R115: relay r is energized while at least one defined equation targeting it has its output true. -/
def relayDriven (s : State) (r : Nat) : Bool := (numbers 48).any (drives s fun t => t == .relay r)

/-- R116: the tune of the lowest-numbered defined equation targeting the channel with its output true, or 0. -/
def tuneDriven (s : State) (c : Nat) : Nat :=
  match (numbers 48).find? (drives s fun t => match t with
      | .tune ch _ => ch == c
      | _ => false) with
  | some i => match s.equationDef i with
    | some e => match e.target with
      | .tune _ number => number
      | _ => 0
    | none => 0
  | none => 0

/-- R108: a new output applied to its target, with the changes that mark further equations. -/
def applyTarget (s : State) (t : Target) (output : Bool) : State × List Change :=
  match t with
  | .flag f =>
    if pick s.flags f = output then (s, [])
    else ({ s with flags := alter s.flags f fun _ => output }, [.flag f])
  | .relay r =>
    let driven := relayDriven s r
    if pick s.relays r = driven then (s, [])
    else ({ s with relays := alter s.relays r fun _ => driven }, [.relay r])
  | .tune c _ => ({ s with tunes := alter s.tunes c fun _ => tuneDriven s c }, [])

/-- R108: the working state of equation i replaced, its output applied if it changed. -/
def settleEquation (s : State) (i : Nat) (d : EquationDef) (e : EquationState) : State × List Change :=
  let before := (pick s.equations i).output
  let s := { s with equations := alter s.equations i fun _ => e }
  if e.output = before then (s, []) else applyTarget s d.target e.output

/-- R108, R112: equation i in a pass: its expiry first if `expiring` and its timer stands at 0, then its raw value if
it is marked by one of the changes. -/
def passOne (expiring : Bool) (acc : State × List Change) (i : Nat) : State × List Change :=
  match acc.1.equationDef i with
  | none => acc
  | some d =>
    let marked := acc.2.any d.reads
    let acc :=
      if expiring && (pick acc.1.equations i).timer == some 0 then
        let r := settleEquation acc.1 i d (takeExpiry d.delay (pick acc.1.equations i))
        (r.1, acc.2 ++ r.2)
      else acc
    if marked then
      let r := settleEquation acc.1 i d (takeRaw d.delay (pick acc.1.equations i) (rawValue acc.1 d.terms))
      (r.1, acc.2 ++ r.2)
    else acc

/-- R108: a pass takes the marked equations in ascending number. -/
def equationPass (expiring : Bool) (changes : List Change) (s : State) : State :=
  ((numbers 48).foldl (passOne expiring) (s, changes)).1

/-- R107: changes handed to the equation unit; in CONFIG they are disregarded (R117). -/
def State.handOn (s : State) (changes : List Change) : State :=
  if s.mode = .run then equationPass false changes s else s

/-- R107, R131: a change of the account's figures; the equation unit is told if BEHIND has changed. -/
def State.handBehind (s : State) (before : State) : State :=
  if behind s = behind before then s else s.handOn [.behind]

/-- R117: the equation unit idle. -/
def State.idleEquations (s : State) : State :=
  { s with equations := Vector.replicate 48 startEquation, flags := Vector.replicate 32 false
           relays := Vector.replicate 8 false, tunes := Vector.replicate 4 0 }

end Sys2Proof.Machine
end

