-- ==== Sys2Proof/Machine/Ops.lean ====
section
/-! DEFINITION. Ops: the shared operations of the blocks: notices (R183, R184), the history queue (R143–R149), the zone
announcements (R89), stop logic (R53–R70), the call table (R6–R27), the escalation unit (R97–R100) and the shift
account's changes (R125–R127). -/

namespace Sys2Proof.Machine

/-! ## Notices and the outbound queue -/

/-- R184: the kind of a notice. -/
def Notice.kind : Notice → NoticeKind
  | .call .. => .call
  | .sec .. => .sec
  | .station .. => .station
  | .board .. => .board
  | .history .. => .history
  | .shift .. => .shift
  | .capacityTable .. => .capacity
  | .capacityOverflow .. => .capacity
  | .capacityHistory .. => .capacity
  | .input .. => .input

/-- R184: the place of a notice kind in the report mask. -/
def NoticeKind.place : NoticeKind → Nat
  | .call => 1
  | .sec => 2
  | .station => 3
  | .board => 4
  | .history => 5
  | .shift => 6
  | .capacity => 7
  | .input => 8

/-- R183: a frame put at the end of the outbound queue; it begins at once if nothing is being sent and output is not
paused. -/
def HostLink.enter (h : HostLink) (f : HostFrame) : HostLink :=
  { h with outbound := h.outbound ++ [f], sending := h.sending || !h.paused }

/-- R183, R184: a notice occasion. -/
def State.notify (s : State) (n : Notice) : State :=
  if pick s.host.reports n.kind.place then
    if s.host.outbound.length < Config.noticeCapacity then s.modHost fun h => h.enter (.notice s.timeOfDay n)
    else s.modHost fun h => { h with lostNotices := saturate 65535 1 h.lostNotices }
  else s

/-! ## The history queue -/

/-- R148: the stale timer as it is loaded. -/
def staleLoad (s : State) : Nat := s.defs.links.staleSeconds * 10

/-- R149: a HISTORY notice occasion, which loads the stale timer. -/
def State.historyOccasion (s : State) (stale : Bool) : State :=
  { s with staleTimer := some (staleLoad s) }.notify (.history stale s.history.length (oldestSeq s) (newestSeq s))

/-- R143, R146: a record appended to the history queue, the oldest discarded from a full one. -/
def State.appendRecord (s : State) (e : HistoryEntry) : State :=
  let room := decide (s.history.length < Config.historyCapacity)
  let kept := if room then s.history else s.history.drop 1
  let t := { s with
    history := kept ++ [⟨s.nextSeq, e⟩], nextSeq := wrap 65535 s.nextSeq
    overflowCount := if room then s.overflowCount else saturate 255 1 s.overflowCount
    staleTimer := if s.history.isEmpty then some (staleLoad s) else s.staleTimer }
  if room then
    if t.history.length = s.defs.links.threshold then t.historyOccasion false else t
  else t.notify (.capacityHistory t.overflowCount (oldestSeq s) s.nextSeq)

/-! ## Zone announcements -/

/-- R89: "STOP". -/
def stopText : Text := [0x53#8, 0x54#8, 0x4F#8, 0x50#8]

/-- R89: "PAUS". -/
def pausText : Text := [0x50#8, 0x41#8, 0x55#8, 0x53#8]

/-- R89: the announcement of a zone. -/
def announcement (s : State) (z : Nat) : Text :=
  let stopped := match s.zoneDef z with
    | some d => (pick s.stops d.sec).request
    | none => false
  if stopped then stopText else if s.shiftState = .pause then pausText else spaces4

/-- R89: one zone's announcement recomputed on a loop; a changed one is owed if the zone has a station there. -/
def announceZone (s : State) (l : LoopId) (z : Nat) : State :=
  let text := announcement s z
  if pick (s.loop l).announcements z = text then s
  else s.modLoop l fun x =>
    { x with announcements := alter x.announcements z fun _ => text
             zonesOwed := if zoneOnLoop s l z then insertAscending z x.zonesOwed else x.zonesOwed }

/-- R89: the announcements of some zones recomputed on both loops; in CONFIG the change is disregarded (R92). -/
def State.announce (s : State) (zones : List Nat) : State :=
  if s.mode = .run then zones.foldl (fun s z => announceZone (announceZone s .a z) .b z) s else s

/-- R50: the defined zones of a section. -/
def zonesOf (s : State) (n : Nat) : List Nat :=
  (numbers 24).filter fun z => match s.zoneDef z with
    | some d => d.sec == n
    | none => false

/-! ## The stop request -/

/-- R69: a SECTION notice, with the section's state as it stands. -/
def State.sectionNotice (s : State) (n : Nat) (cause : SectionCause) : State :=
  let x := pick s.stops n
  s.notify (.sec n cause x.request x.overflow x.pending x.holdOrder.length)

/-- R61: the stop request passes from released to asserted. -/
def State.assertRequest (s : State) (n : Nat) : State :=
  let s := s.modStop n fun x => { x with request := true, coast := 0 }
  let s := (s.handOn [.sectionAspect n .stopreq]).announce (zonesOf s n)
  s.sectionNotice n (.stop (!(pick s.stops n).holdOrder.isEmpty))

/-- R61: the stop request passes from asserted to released. -/
def State.releaseRequest (s : State) (n : Nat) : State :=
  let s := s.modStop n fun x => { x with request := false }
  let s := (s.handOn [.sectionAspect n .stopreq]).announce (zonesOf s n)
  s.sectionNotice n (.release (pick s.stops n).coast)

/-- R61: the section has a cause for its stop request. -/
def StopLogic.hasCause (x : StopLogic) : Bool := !x.holdOrder.isEmpty || x.overflow || x.pending

/-- R61: the stop request re-evaluated. -/
def State.lineUp (s : State) (n : Nat) : State :=
  let x := pick s.stops n
  if x.hasCause == x.request then s else if x.hasCause then s.assertRequest n else s.releaseRequest n

/-- R62: a HOLDING call has left, or the overflow hold has cleared: in MANUAL the last cause leaving sets restart
pending. The stop request is then re-evaluated. -/
def State.causeLeft (s : State) (n : Nat) : State :=
  let x := pick s.stops n
  let manual := match s.sectionDef n with
    | some d => d.restart == .manual
    | none => false
  if x.holdOrder.isEmpty && !x.overflow && manual && !x.pending then
    let s := s.modStop n fun x => { x with pending := true }
    ((s.handOn [.sectionAspect n .pending]).sectionNotice n .pending).lineUp n
  else s.lineUp n

/-- R64, R65: the section has a HOLDING call or its overflow hold is set. -/
def heldOtherwise (s : State) (n : Nat) : Bool :=
  !(pick s.stops n).holdOrder.isEmpty || (pick s.stops n).overflow

/-- R64: restart pending cleared, and the request's release taken. -/
def State.giveRestart (s : State) (n : Nat) : State :=
  let s := s.modStop n fun x => { x with pending := false }
  (s.handOn [.sectionAspect n .pending]).lineUp n

/-- R56, R59, R60: a call appended to its section's hold order; the change of HOLD is handed on when the order was
empty. -/
def State.enterHold (s : State) (n number : Nat) : State :=
  let first := (pick s.stops n).holdOrder.isEmpty
  let s := s.modStop n fun x => { x with holdOrder := x.holdOrder ++ [number] }
  if first then s.handOn [.sectionAspect n .hold] else s

/-- R58, R60: a call removed from its section's hold order; the change of HOLD is handed on when the order becomes
empty. The calls behind it move up. -/
def State.leaveHold (s : State) (n number : Nat) : State :=
  let s := s.modStop n fun x => { x with holdOrder := x.holdOrder.erase number }
  if (pick s.stops n).holdOrder.isEmpty then s.handOn [.sectionAspect n .hold] else s

/-- R63: a "stop call waiting" mark set for a station of the section. -/
def State.waitingRises (s : State) (n : Nat) : State :=
  let first := decide ((pick s.stops n).waiting = 0)
  let s := s.modStop n fun x => { x with waiting := x.waiting + 1, overflow := x.overflow || first }
  if first then
    ((s.handOn [.sectionAspect n .overflow]).notify (.capacityOverflow n true)).lineUp n
  else s

/-- R63: a set mark cleared for a station of the section. -/
def State.waitingFalls (s : State) (n : Nat) : State :=
  let last := decide ((pick s.stops n).waiting ≤ 1)
  let s := s.modStop n fun x => { x with waiting := x.waiting - 1, overflow := x.overflow && !last }
  if last then
    ((s.handOn [.sectionAspect n .overflow]).notify (.capacityOverflow n false)).causeLeft n
  else s

/-- R87: the station marked "stop call waiting", with the current time of day unless it is marked already. -/
def State.markWaiting (s : State) (st : Nat) : State :=
  match (pick s.stations st).waiting with
  | some _ => s
  | none => (s.modStation st fun x => { x with waiting := some s.timeOfDay }).waitingRises (sectionOfStation s st)

/-- R87: a set mark cleared, and the clearing handed to stop logic. -/
def State.clearWaiting (s : State) (st : Nat) : State :=
  match (pick s.stations st).waiting with
  | none => s
  | some _ => (s.modStation st fun x => { x with waiting := none }).waitingFalls (sectionOfStation s st)

/-! ## Travel -/

/-- R55: a call of the section counted down by n pulses; one that reaches 0 or less stands at 0, expired. -/
def countDown (n k : Nat) (c : Call) : Call :=
  if c.sec = n then { c with distance := c.distance.map fun d => d - k } else c

/-- R55, R66: a forward-distance event of k pulses at section n. -/
def State.forwardDistance (s : State) (n k : Nat) : State :=
  let s := s.modStop n fun x => { x with coast := saturate 65535 k x.coast }
  { s with calls := s.calls.map (countDown n k) }

/-- R57: a backward-jump event of k pulses at section n, up to P+R−1. -/
def State.backwardJump (s : State) (n k : Nat) (d : SectionDef) : State :=
  { s with calls := s.calls.map fun c =>
      if c.sec = n then { c with distance := c.distance.map fun x => min (x + k) (d.pitch + d.runOn - 1) } else c }

/-- R53: the stop distance of a call armed in a zone of mark m, the section's phase being φ. -/
def armDistance (d : SectionDef) (phase mark : Nat) : Nat :=
  let m := mark % d.pitch
  let gap := if phase ≤ m then m - phase else m + d.pitch - phase
  if gap < d.runOn then gap + d.pitch else gap

/-- R53: the stop distance a call of a zone is armed with as the section now stands. -/
def arming (s : State) (zone n : Nat) : Option Nat :=
  match s.sectionDef n, s.zoneDef zone with
  | some d, some z => some (armDistance d (pick s.trackers n).phase z.mark)
  | _, _ => none

/-! ## The call table -/

/-- R26: a change of a call handed to the loop controller of its origin, to the equation unit and to the board
composer. `full` says that the table-full state has changed with it. -/
def State.callsChanged (s : State) (c : Call) (full : Bool) : State :=
  let s := match c.origin with
    | .station n => s.modStation n fun x => { x with lamp := lampOf s n }
    | .tag _ => s
  (s.handOn [.calls c.zone c.cls full]).recompose FieldKind.readsCalls

/-- R27: a CALL notice on a record. -/
def State.callNotice (s : State) (change : CallChange) (outcome : Option Closing) (c : Call) : State :=
  s.notify (.call change outcome c.number c.origin c.cls c.zone c.state c.answered c.level c.repeats)

/-- R27: a CALL notice on the record of a number, as it stands. -/
def State.noticeOf (s : State) (change : CallChange) (number : Nat) : State :=
  match s.callOf number with
  | some c => s.callNotice change none c
  | none => s

/-- R21: a CAPACITY notice with the cause TABLE. -/
def State.tableNotice (s : State) : State :=
  s.notify (.capacityTable (tableFull s) s.calls.length (noneCount s))

/-- R6: the number after `last`, passing from 9999 to 1. -/
def nextNumber (last : Nat) : Nat := if 9999 ≤ last then 1 else last + 1

/-- R6: the next number that belongs to no record, among `fuel` candidates. -/
def freeNumber (used : List Nat) : Nat → Nat → Nat
  | 0, last => nextNumber last
  | fuel + 1, last => if nextNumber last ∈ used then freeNumber used fuel (nextNumber last) else nextNumber last

/-- R7: the greatest arrival order. -/
def maxArrival : Nat := 4294967295

/-- R7: the standing records numbered 0, 1, 2 and so on, in their former order. -/
def renumber (cs : List Call) : List Call := cs.mapIdx fun i c => { c with arrival := i }

/-- R95: the ladder a class follows. -/
def ladderOf (s : State) (cls : Nat) : Option LadderDef :=
  if (s.classDef cls).ladder = 0 then none else s.ladderDef (s.classDef cls).ladder

/-- R97: the escalation timer of a new record. -/
def firstTimer (s : State) (cls : Nat) : Option Nat := (ladderOf s cls).map fun l => pick l.delays 1

/-- R5, R12, R20: a new record; `waited` is the time of first refusal of a call that waited for room. -/
def newRecord (s : State) (o : Origin) (cls zone : Nat) (waited : Option Nat) : Call :=
  let n := match s.zoneDef zone with
    | some z => z.sec
    | none => 0
  let stop := (s.classDef cls).stop
  let holds := waited.isSome || stop == .immediate
  { number := freeNumber (s.calls.map (·.number)) 65 s.lastNumber
    arrival := s.arrivalCount, origin := o, cls := cls, zone := zone, sec := n
    state := if holds then .holding else .opened
    raised := waited.getD s.timeOfDay, answered := none
    firstHold := if holds then some (waited.getD s.timeOfDay) else none
    distance := if !holds && stop == .fixed then arming s zone n else none
    heldTime := 0, level := 0, timer := firstTimer s cls, repeats := 0, carried := false }

/-- R7: the record put into the table, the arrival count risen or the records renumbered. -/
def State.insertRecord (s : State) (c : Call) : State :=
  let calls := s.calls ++ [c]
  if c.arrival = maxArrival then
    { s with calls := renumber calls, arrivalCount := calls.length, lastNumber := c.number }
  else { s with calls := calls, arrivalCount := c.arrival + 1, lastNumber := c.number }

/-- R12, R20, R59: a new record created and handed to its neighbours. -/
def State.createCall (s : State) (o : Origin) (cls zone : Nat) (waited : Option Nat) : State :=
  let c := newRecord s o cls zone waited
  let s := s.insertRecord c
  let s := if c.state = .holding then s.enterHold c.sec c.number else s
  let s := (s.callsChanged c (tableFull s)).noticeOf .new c.number
  let s := if tableFull s then s.tableNotice else s
  if c.state = .holding then s.lineUp c.sec else s

/-- R13: the record after a repeat. A CARRIED call of class FIXED is re-armed, one of class IMMEDIATE holds again. -/
def repeated (s : State) (c : Call) : Call :=
  let c := { c with repeats := saturate 15 1 c.repeats }
  if c.state = .carried then
    match (s.classDef c.cls).stop with
    | .fixed => { c with state := .opened, distance := arming s c.zone c.sec }
    | .immediate => { c with state := .holding }
    | .none => c
  else c

/-- R13: a repeat of a standing call. -/
def State.repeatCall (s : State) (c : Call) : State :=
  let now := repeated s c
  let returns := decide (now.state = .holding) && decide (c.state ≠ .holding)
  let s := s.modCall c.number fun _ => now
  let s := if returns then s.enterHold c.sec c.number else s
  let s := (s.callsChanged now false).noticeOf .repeated c.number
  if returns then s.lineUp c.sec else s

/-- R14, R100: the record with answered set to the time of day; under the basis UNANSWERED its escalation timer is
removed. A record already answered is unchanged. -/
def answeredNow (s : State) (c : Call) : Call :=
  match c.answered with
  | some _ => c
  | none =>
    let timer := match ladderOf s c.cls with
      | some l => if l.basis = .unanswered then none else c.timer
      | none => c.timer
    { c with answered := some s.timeOfDay, timer := timer }

/-- R14: an answer of a standing call; if it is answered already, nothing happens. -/
def State.answerCall (s : State) (c : Call) : State :=
  if c.answered.isSome then s
  else
    let now := answeredNow s c
    ((s.modCall c.number fun _ => now).callsChanged now false).noticeOf .answer c.number

/-- R15: the call is one that a CARRY makes CARRIED. -/
def carriable (s : State) (c : Call) : Bool :=
  match c.state with
  | .opened => (s.classDef c.cls).stop == .fixed
  | .holding => (s.classDef c.cls).stop != .none
  | .carried => false

/-- R15, R58: a carriable call becomes CARRIED. -/
def State.carryCall (s : State) (c : Call) : State :=
  let held := decide (c.state = .holding)
  let now := { answeredNow s c with state := .carried, distance := none, carried := true }
  let s := s.modCall c.number fun _ => now
  let s := if held then s.leaveHold c.sec c.number else s
  let s := (s.callsChanged now false).noticeOf .carry c.number
  if held then s.causeLeft c.sec else s

/-- R144: the CALL CLOSED record of a call. -/
def closedRecord (s : State) (c : Call) (o : Closing) : HistoryEntry :=
  .callClosed
    { number := c.number, origin := c.origin, cls := c.cls, zone := c.zone, sec := c.sec, raised := c.raised
      answered := c.answered, firstHold := c.firstHold, closed := s.timeOfDay, outcome := o, level := c.level
      repeats := c.repeats, heldTime := c.heldTime, carried := c.carried }

/-- R22: a standing call closed, its steps in order. `inLine` is false at ENTER CONFIG alone (R70), where the stop
request is not brought into line call by call. -/
def State.closeCall (s : State) (o : Closing) (inLine : Bool) (c : Call) : State :=
  let wasFull := tableFull s
  let s := if c.state = .holding then
      let s := s.leaveHold c.sec c.number
      if inLine then s.causeLeft c.sec else s
    else s
  let s := s.appendRecord (closedRecord s c o)
  let s := { s with calls := s.calls.filter fun x => x.number != c.number }
  let s := (s.callsChanged c wasFull).callNotice .close (some o) c
  if wasFull then s.tableNotice else s

/-- R22: the call of a number closed, if it stands. -/
def State.closeNumber (s : State) (o : Closing) (inLine : Bool) (number : Nat) : State :=
  match s.callOf number with
  | some c => s.closeCall o inLine c
  | none => s

/-- R56: an expired call enters HOLDING. -/
def State.expireStop (s : State) (number : Nat) : State :=
  match s.callOf number with
  | none => s
  | some c =>
    let now := { c with state := .holding, distance := none, firstHold := c.firstHold.orElse fun _ => some s.timeOfDay }
    let s := s.modCall number fun _ => now
    let s := s.enterHold c.sec number
    ((s.callsChanged now false).noticeOf .hold number).lineUp c.sec

/-- R99: the record after its escalation timer has expired. -/
def climbed (s : State) (c : Call) : Call :=
  let level := c.level + 1
  let timer := match ladderOf s c.cls with
    | some l => if level < l.levels then some (pick l.delays (level + 1)) else none
    | none => none
  { c with level := level, timer := timer }

/-- R99: the escalation timer of a call has expired. -/
def State.climb (s : State) (number : Nat) : State :=
  match s.callOf number with
  | none => s
  | some c =>
    let now := climbed s c
    ((s.modCall number fun _ => now).callsChanged now false).noticeOf .escalate number

/-- R24: the calls of a station gone OFFLINE: those of policy DROP are closed, in display order. -/
def State.dropOrphans (s : State) (st : Nat) : State :=
  let dropped := (callsOfStation s st).filter fun c => (s.classDef c.cls).orphan == .drop
  (dropped.map (·.number)).foldl (fun s k => s.closeNumber .dropped true k) s

/-! ## The shift account -/

/-- R125: a change of the shift state handed to its receivers. -/
def State.shiftChanged (s : State) : State :=
  ((s.announce (numbers 24)).handOn [.shift]).recompose FieldKind.readsAccount

/-- R139: a SHIFT notice on the running shift. -/
def State.shiftNotice (s : State) (cause : ShiftCause) : State :=
  match s.shift with
  | some sh => s.notify (.shift cause (shiftReport s.shiftState sh))
  | none => s

/-- R127: the fraction has filled the takt of a shift whose target is below its volume. -/
def targetDue (s : State) : Bool :=
  match s.shift with
  | some sh => decide (sh.takt ≤ sh.fraction) && decide (sh.target < sh.volume)
  | none => false

/-- R126: the running period's remaining time has reached 0. -/
def periodDue (s : State) : Bool := (s.shift.bind (·.remaining)) == some 0

/-- R163: the COUNT and SHIFT fields recomposed once a tick's effect on the account is whole (log entry 1). -/
def State.composeAccount (s : State) : State :=
  if targetDue s || periodDue s then s else s.recompose FieldKind.readsAccount

/-- R129: a body produced event. -/
def State.bodyProduced (s : State) : State :=
  if s.shiftState = .none then s
  else
    let t := s.modShift fun sh => { sh with actual := saturate 9999 1 sh.actual }
    (t.handBehind s).recompose FieldKind.readsAccount

/-- R42: a rise of one of a section's counts, fed to the account where the section and the source are the counting
ones. -/
def State.countRose (s : State) (n : Nat) (source : ActualSource) : State :=
  if s.defs.counting = n ∧ s.defs.source = source then s.bodyProduced else s

end Sys2Proof.Machine
end

