-- ==== Sys2Proof/Machine/Due.lean ====
section
/-! DEFINITION. Due: what a tick or a travel event has made due (a timer or a stop distance that stands at 0, a filled
fraction, a full second) and the taking of it. The table lists each of these as a step of its own; the rules take it
with the tick or the pulse. So each has its own command, and every other command first takes all that is due (log
entry 1). -/

namespace Sys2Proof.Machine

/-! ## Expired stop distances (R55, R56) -/

/-- R55: the section's calls whose stop distance is used up, in ascending arrival order, by number. -/
def expiredCalls (s : State) (n : Nat) : List Nat :=
  (s.calls.filter fun c => c.sec == n && c.distance == some 0).map (·.number)

/-- R56: the first expired call of a section enters HOLDING. -/
def State.takeStopExpiry (s : State) (n : Nat) : State :=
  match expiredCalls s n with
  | k :: _ => s.expireStop k
  | [] => s

/-- R55: every expired call of a section enters HOLDING, one after another in ascending arrival order. -/
def State.takeStopExpiries (s : State) (n : Nat) : State := (expiredCalls s n).foldl State.expireStop s

/-! ## The shift account (R126, R127) -/

/-- R127: the target rises by one unit, where that is due. -/
def State.takeTarget (s : State) : State :=
  if targetDue s then
    let t := s.modShift fun sh =>
      let target := sh.target + 1
      { sh with target := target, fraction := if sh.volume ≤ target then 0 else sh.fraction - sh.takt }
    (t.handBehind s).composeAccount
  else s

/-- R126: the shift after a period: the next period, or none after the last. -/
def nextPeriod (sh : Shift) : Shift × ShiftState :=
  match sh.plan[sh.index.getD sh.plan.length]? with
  | some p => ({ sh with index := some (sh.index.getD sh.plan.length + 1), remaining := some (p.minutes * 600) },
      p.kind.toShift)
  | none => ({ sh with index := none, remaining := none }, .overtime)

/-- R126: the next period, or OVERTIME, begins, where that is due. The tick's accrual comes first. -/
def State.takePeriod (s : State) : State :=
  let s := s.takeTarget
  match s.shift with
  | some sh =>
    if periodDue s then
      let next := nextPeriod sh
      let t := { s with shift := some next.1, shiftState := next.2 }
      let t := if next.2 = s.shiftState then t.recompose FieldKind.readsAccount else t.shiftChanged
      t.shiftNotice .period
    else s
  | none => s

/-! ## The time of day (R194) -/

/-- R194: the tenth tick of the second has been taken. -/
def secondDue (s : State) : Bool := decide (10 ≤ s.tenths)

/-- R194: the time of day rises by 1, where that is due. -/
def State.takeSecond (s : State) : State :=
  if secondDue s then
    { s with timeOfDay := wrap 86399 s.timeOfDay, tenths := 0 }.recompose FieldKind.readsTime
  else s

/-! ## Timers -/

/-- R98: the calls whose escalation timer has expired, in ascending arrival order, by number. -/
def expiredTimers (s : State) : List Nat := (s.calls.filter fun c => c.timer == some 0).map (·.number)

/-- R99: the first expired escalation timer taken. -/
def State.takeEscalation (s : State) : State :=
  match expiredTimers s with
  | k :: _ => s.climb k
  | [] => s

/-- R98: every expired escalation timer taken, one after another in ascending arrival order. -/
def State.takeEscalations (s : State) : State := (expiredTimers s).foldl State.climb s

/-- R112: the equation's delay timer has expired. -/
def delayDue (s : State) (i : Nat) : Bool := (s.equationDef i).isSome && (pick s.equations i).timer == some 0

/-- R112: one pass takes every expired delay timer. -/
def State.takeDelays (s : State) : State := if (numbers 48).any (delayDue s) then equationPass true [] s else s

/-- R148: a stale occasion, where the stale timer has expired. -/
def State.takeStale (s : State) : State := if s.staleTimer = some 0 then s.historyOccasion true else s

/-- R168: every defined board that is not DARK refreshed and the timer loaded, where the refresh timer has expired. -/
def State.takeRefresh (s : State) : State :=
  if s.refreshTimer = some 0 then
    { s.refreshBoards (fun b => b.state != .dark) with refreshTimer := refreshLoad s }
  else s

/-- R179: the probe of a board becomes due, where its probe timer has expired. -/
def State.takeProbe (s : State) (b : Nat) : State :=
  if (pick s.boards b).probeTimer = some 0 then s.modBoard b fun x => { x with probeTimer := none, probeDue := true }
  else s

/-! ## The reply that waits (R183, R186) -/

/-- R186: the request at the head of the queue leaves it; at 2 left, a self-paused controller sends a resume mark. -/
def HostLink.leave (h : HostLink) : HostLink :=
  let left := h.requests.drop 1
  let resumes := h.selfPaused && !h.requests.isEmpty && left.length == Config.selfResumeAt
  { h with requests := left, serving := .free, selfPaused := h.selfPaused && !resumes
           lastMark := if resumes then some .resume else h.lastMark }

/-- R183, R186: a reply enters the outbound queue and its request leaves, or it waits for room. -/
def HostLink.answer (h : HostLink) (f : HostFrame) : HostLink :=
  if h.outbound.length < Config.outboundCapacity then (h.enter f).leave else { h with serving := .replyWaits f }

/-- R183: the reply that waited enters, where there is room. -/
def State.takeReply (s : State) : State :=
  match s.host.serving with
  | .replyWaits f => s.modHost fun h => h.answer f
  | _ => s

/-! ## All that is due -/

/-- Everything that is due, taken in one order (log entry 1). -/
def State.takeDue (s : State) : State :=
  let s := (numbers 4).foldl State.takeStopExpiries s
  let s := s.takePeriod.takeSecond.takeEscalations.takeDelays.takeStale.takeRefresh
  ((numbers 8).foldl State.takeProbe s).takeReply

/-- Nothing is due. -/
def settled (s : State) : Bool :=
  (numbers 4).all (fun n => (expiredCalls s n).isEmpty) && !targetDue s && !periodDue s && !secondDue s
    && (expiredTimers s).isEmpty && !(numbers 48).any (delayDue s) && s.staleTimer != some 0
    && s.refreshTimer != some 0 && (numbers 8).all (fun b => (pick s.boards b).probeTimer != some 0)
    && match s.host.serving with
      | .replyWaits _ => decide (Config.outboundCapacity ≤ s.host.outbound.length)
      | _ => true

end Sys2Proof.Machine
end

