-- ==== Sys2Proof/Machine/Wire.lean ====
section
/-! DEFINITION. Wire: the serial lines (R72, R73, R170, R171, R185): marks, literal-next, the check, the receivers of
the lines, and the content of each frame (DESIGN CHOICE for what the rules leave open of them, log entry 11). -/

namespace Sys2Proof.Machine

/-- R72: the start mark F0h. -/
def startMark : Byte := 0xF0#8
/-- R72: the end mark F1h. -/
def endMark : Byte := 0xF1#8
/-- R72: the literal-next mark F2h. -/
def literalMark : Byte := 0xF2#8
/-- R185: the pause mark F3h. -/
def pauseByte : Byte := 0xF3#8
/-- R185: the resume mark F4h. -/
def resumeByte : Byte := 0xF4#8

/-- R72: a byte from F0h to F4h. -/
def isMark (b : Byte) : Bool := decide (0xF0 ≤ b.toNat) && decide (b.toNat ≤ 0xF4)

/-- One bit of the check of R72, generator x¹⁶+x¹²+x⁵+1. -/
def crcBit (c : BitVec 16) (bit : Bool) : BitVec 16 :=
  let shifted := c <<< 1
  if c.msb != bit then shifted ^^^ 0x1021#16 else shifted

/-- R72: each byte enters the check most significant bit first. -/
def crcByte (c : BitVec 16) (b : Byte) : BitVec 16 :=
  [7, 6, 5, 4, 3, 2, 1, 0].foldl (fun acc i => crcBit acc (b.getLsbD i)) c

/-- R72: the CRC-16 of a content, initial value FFFFh, not reflected, with no final value. -/
def crc (bytes : List Byte) : BitVec 16 := bytes.foldl crcByte 0xFFFF#16

/-- R72: the check's two bytes, high byte first. -/
def checkBytes (bytes : List Byte) : List Byte :=
  [(crc bytes).extractLsb' 8 8, (crc bytes).extractLsb' 0 8]

/-- R72: the literal-next mark before each content byte from F0h to F4h. -/
def escape (bytes : List Byte) : List Byte :=
  bytes.flatMap fun b => if isMark b then [literalMark, b] else [b]

/-- R72, R185: the bytes of a frame on its line, from its content without the check. -/
def frameBytes (content : List Byte) : List Byte :=
  [startMark] ++ escape (content ++ checkBytes content) ++ [endMark]

/-- R72: a content whose last two bytes are the check of those before them, without the check. -/
def checked (content : List Byte) : Option (List Byte) :=
  let n := content.length - 2
  if 2 ≤ content.length && decide (content.drop n = checkBytes (content.take n)) then some (content.take n) else none

/-! ## The receivers -/

/-- What a byte makes of a receiver: nothing to report; a start mark begun (with whether it discarded a part of a
frame); a frame ended, with its content and whether it was already bad; a flow mark. -/
inductive Heard
  | nothing
  | began (discarded : Bool)
  | ended (content : List Byte) (bad : Bool)
  | flow (mark : FlowMark)
  deriving DecidableEq, Repr, Inhabited

/-- R72, R170: the receiver of a station loop or of the board link. A literal-next mark is removed and the byte after
it taken as it is; an unescaped F3h or F4h inside a frame makes it bad. -/
def loopReceive (r : Receiver) (b : Byte) : Receiver × Heard :=
  match r with
  | .outside => if b = startMark then (.inside [] false false, .began false) else (.outside, .nothing)
  | .inside content true bad => (.inside (content ++ [b]) false bad, .nothing)
  | .inside content false bad =>
    if b = startMark then (.inside [] false false, .began true)
    else if b = endMark then (.outside, .ended content bad)
    else if b = literalMark then (.inside content true bad, .nothing)
    else if b = pauseByte ∨ b = resumeByte then (.inside content false true, .nothing)
    else (.inside (content ++ [b]) false bad, .nothing)

/-- R185: the receiver of the host link. Flow marks are acted on wherever they stand unescaped; a literal-next mark
followed by a byte outside F0h–F4h makes the frame bad. R185 says "at that byte" of a content past 245 bytes alone: a
frame damaged by a literal-next mark, or by a length byte above 240, is received on, and is discarded and counted at its
end (DESIGN CHOICE, log entry 29). -/
def hostReceive (r : Receiver) (b : Byte) : Receiver × Heard :=
  match r with
  | .outside =>
    if b = startMark then (.inside [] false false, .began false)
    else if b = pauseByte then (.outside, .flow .pause)
    else if b = resumeByte then (.outside, .flow .resume)
    else (.outside, .nothing)
  | .inside content true bad => (.inside (content ++ [b]) false (bad || !isMark b), .nothing)
  | .inside content false bad =>
    if b = startMark then (.inside [] false false, .began true)
    else if b = endMark then (.outside, .ended content bad)
    else if b = literalMark then (.inside content true bad, .nothing)
    else if b = pauseByte then (r, .flow .pause)
    else if b = resumeByte then (r, .flow .resume)
    else (.inside (content ++ [b]) false bad, .nothing)

/-- R185: the request of a host frame's content, unless the frame is damaged. -/
def hostRequest (content : List Byte) (bad : Bool) : Option Request :=
  if bad then none
  else match checked content with
    | some (tag :: kind :: len :: body) =>
      if body.length = len.toNat ∧ len.toNat ≤ Config.bodyCapacity then some ⟨tag, kind, body⟩ else none
    | _ => none

/-! ## Station loop frames -/

/-- R73: the code of a colour on a link: GREEN 1 to WHITE 5. -/
def colourCode : Colour → Byte
  | .green => 1#8
  | .amber => 2#8
  | .red => 3#8
  | .blue => 4#8
  | .white => 5#8

/-- R73, R171: the code of a blink: STEADY 0, SLOW 1, FAST 2. -/
def blinkCode : Blink → Byte
  | .steady => 0#8
  | .slow => 1#8
  | .fast => 2#8

/-- R73: the content of a frame the controller sends on a station loop. -/
def LoopFrame.content : LoopFrame → List Byte
  | .poll address ack rejected lamp =>
    [BitVec.ofNat 8 address, 1#8, BitVec.ofNat 8 (ack.getD 255), if rejected then 1#8 else 0#8,
      (lamp.colour.map colourCode).getD 0#8, blinkCode lamp.blink]
  | .groupSet pattern mask text => [BitVec.ofNat 8 pattern, 2#8, BitVec.ofNat 8 mask] ++ text
  | .apply => [0#8, 3#8]

/-- R73: the kind of an event by its code, 1 CALL to 5 RESTART. -/
def eventKind (code : Nat) : Option EventKind :=
  match code with
  | 1 => some .call
  | 2 => some .answer
  | 3 => some .carry
  | 4 => some .clear
  | 5 => some .restart
  | _ => none

/-- R72, R73: the events of a STATUS, each a sequence 0–7, a kind 1–5 and an operand. -/
def readEvents : List Byte → Option (List Event)
  | [] => some []
  | seq :: kind :: operand :: rest =>
    match eventKind kind.toNat, readEvents rest with
    | some k, some es => if seq.toNat ≤ 7 then some (⟨seq.toNat, k, operand.toNat⟩ :: es) else none
    | _, _ => none
  | _ => none

/-- R72, R73: what a frame received on a station loop says, unless it is bad by R72 or of a kind the panels do not
send. A frame of a kind of R73 that only the controller sends is a good frame of another kind, and R79 makes it a miss
as it makes a bad frame one. -/
def readLoopFrame (content : List Byte) (bad : Bool) : Option LoopReply :=
  if bad then none
  else match checked content with
    | some [address, kind] => if kind = 18#8 then some (.hold address.toNat) else none
    | some (address :: kind :: count :: events) =>
      if kind = 17#8 ∧ count.toNat ≤ 4 ∧ events.length = 3 * count.toNat then
        (readEvents events).map (.status address.toNat)
      else none
    | _ => none

/-! ## Board link frames -/

/-- R171: the content of a FIELD frame. The CLEAR frame carries colour 0, blink 0 and text length 0. -/
def fieldContent (board : Nat) (frame : BoardFrame) (toggle : Bool) : List Byte :=
  let shown := match frame.content with
    | some c => [colourCode c.colour, blinkCode c.blink, BitVec.ofNat 8 c.text.length] ++ c.text
    | none => [0#8, 0#8, 0#8]
  [BitVec.ofNat 8 board, 1#8, BitVec.ofNat 8 frame.field, if toggle then 1#8 else 0#8] ++ shown

/-- R171: the content of a frame the controller sends on the board link. -/
def Flight.content : Flight → List Byte
  | .field board frame toggle => fieldContent board frame toggle
  | .probe board => [BitVec.ofNat 8 board, 2#8]

/-- R171: a toggle byte, 0 or 1. -/
def readToggle (b : Byte) : Option Bool := if b = 0#8 then some false else if b = 1#8 then some true else none

/-- R171: the reason of a REFUSE, 1 or 2. -/
def readReason (b : Byte) : Option RefuseReason :=
  if b = 1#8 then some .fieldUndefined else if b = 2#8 then some .textTooLong else none

/-- R170, R171: what a frame received on the board link says, unless it is bad. -/
def readBoardFrame (content : List Byte) (bad : Bool) : Option BoardReply :=
  if bad then none
  else match checked content with
    | some [address, kind, toggle] =>
      if kind = 17#8 then (readToggle toggle).map (.ack address.toNat) else none
    | some [address, kind, toggle, reason] =>
      if kind = 18#8 then
        match readToggle toggle, readReason reason with
        | some t, some r => some (.refuse address.toNat t r)
        | _, _ => none
      else none
    | _ => none

/-! ## History records -/

/-- R151: a number in two bytes, high byte first. -/
def bytes2 (n : Nat) : List Byte := [BitVec.ofNat 8 (n / 256), BitVec.ofNat 8 n]

/-- R151: a number in three bytes, high byte first. -/
def bytes3 (n : Nat) : List Byte := [BitVec.ofNat 8 (n / 65536), BitVec.ofNat 8 (n / 256), BitVec.ofNat 8 n]

/-- R151: an optional time of day; absent is FFFFFFh. -/
def optionalTime (t : Option Nat) : List Byte := bytes3 (t.getD 0xFFFFFF)

/-- R151: the origin kind and number. -/
def originBytes : Origin → List Byte
  | .station n => [0#8, BitVec.ofNat 8 n]
  | .tag n => [1#8, BitVec.ofNat 8 n]

/-- R151: the code of an outcome. -/
def closingCode : Closing → Byte
  | .cleared => 1#8
  | .cancelled => 2#8
  | .dropped => 3#8
  | .purged => 4#8

/-- R151: one section entry, 10 bytes. -/
def SectionEntry.bytes (e : SectionEntry) : List Byte :=
  [BitVec.ofNat 8 e.sec] ++ bytes3 e.andonStop ++ bytes3 e.unattributed ++ bytes3 e.otherStop

/-- R151: a record as a FETCH HISTORY reply lays it out. -/
def HistoryRecord.bytes (r : HistoryRecord) : List Byte :=
  match r.entry with
  | .callClosed c =>
    [1#8] ++ bytes2 r.seq ++ bytes2 c.number ++ originBytes c.origin
      ++ [BitVec.ofNat 8 c.cls, BitVec.ofNat 8 c.zone, BitVec.ofNat 8 c.sec]
      ++ bytes3 c.raised ++ optionalTime c.answered ++ optionalTime c.firstHold ++ bytes3 c.closed
      ++ [closingCode c.outcome, BitVec.ofNat 8 c.level, BitVec.ofNat 8 c.repeats] ++ bytes3 c.heldTime
      ++ [if c.carried then 1#8 else 0#8]
  | .shiftClosed c =>
    [2#8] ++ bytes2 r.seq ++ bytes3 c.start ++ bytes3 c.finish ++ bytes3 c.worked
      ++ bytes2 c.volume ++ bytes2 c.takt ++ bytes2 c.target ++ bytes2 c.actual
      ++ [BitVec.ofNat 8 c.entries.length] ++ c.entries.flatMap SectionEntry.bytes

end Sys2Proof.Machine
end

