-- ==== Sys2Proof/Machine/BoardLine.lean ====
section
/-! DEFINITION. BoardLine: the board link: the arbiter (R174), the ends of an attempt (R175–R177, R179), and the commands
of this family. -/

namespace Sys2Proof.Machine

/-! ## The arbiter (R174) -/

/-- R174: a board has work. -/
def hasWork (s : State) (b : Nat) : Bool :=
  (s.boardDepth b).isSome &&
    if (pick s.boards b).state = .dark then (pick s.boards b).probeDue else !(pick s.boards b).queue.isEmpty

/-- R174: the boards in the order the arbiter tries them, from the one after the position to the position itself. -/
def searchOrder (position : Nat) : List Nat := (numbers 8).map fun i => (position + i - 1) % 8 + 1

/-- R174: the board the arbiter takes. -/
def nextBoard (s : State) : Option Nat := (searchOrder s.link.position).find? (hasWork s)

/-- R174: the highest priority in a queue. -/
def highestPriority (q : List BoardFrame) : Nat := (q.map (·.priority)).foldl max 0

/-- R174: the frame of highest priority, nearest the head. -/
def chosenFrame (q : List BoardFrame) : Option BoardFrame := q.find? fun fr => fr.priority == highestPriority q

/-- R175: what is now in flight, its answer not begun. -/
def State.fly (s : State) (x : Option Flight) : State :=
  s.modLink fun l => { l with inFlight := x, started := false, receiver := .outside }

/-- R174: the frame taken from its queue, its attempt count risen, and sent with the board's toggle. The composer is
told that a frame has left the queue (R167). -/
def State.sendField (s : State) (b : Nat) (fr : BoardFrame) (toggle : Bool) : State :=
  let s := s.modBoard b fun x => { x with queue := x.queue.erase fr }
  (s.fly (some (.field b { fr with attempts := saturate 255 1 fr.attempts } toggle))).serve b

/-- R174: the board taken is sent one frame. -/
def State.sendTo (s : State) (b : Nat) : State :=
  let x := pick s.boards b
  let s := s.modLink fun l => { l with position := b }
  if x.state = .dark then (s.modBoard b fun x => { x with probeDue := false }).fly (some (.probe b))
  else match x.toggle, chosenFrame x.queue with
    | some t, some fr => s.sendField b fr t
    | _, _ => s.fly (some (.probe b))

/-! ## A board's state (R179, R182) -/

/-- R182: a BOARD notice on a change from the state before. -/
def State.boardNotice (s : State) (b : Nat) (before : BoardMode) : State :=
  let x := pick s.boards b
  s.notify (.board b before x.state x.timeoutRun x.queue.length x.lastOutcome x.failed)

/-- R179: a board's state, neither DARK before nor after, becomes `m`. -/
def State.boardBecomes (s : State) (b : Nat) (m : BoardMode) : State :=
  let before := (pick s.boards b).state
  if before = m then s else (s.modBoard b fun x => { x with state := m }).boardNotice b before

/-! ## A frame put back (R177) -/

/-- R177: a frame put back takes the newer content queued for its field. -/
def mergeBack (fr queued : BoardFrame) : BoardFrame :=
  { fr with content := queued.content, priority := queued.priority
            reconfirm := fr.reconfirm || decide (0 < fr.attempts) }

/-- R177: a frame put back at the head of its board's queue. -/
def State.putBack (s : State) (b : Nat) (fr : BoardFrame) : State :=
  let q := (pick s.boards b).queue
  match q.find? fun x => x.field == fr.field with
  | some queued => s.modBoard b fun x =>
      { x with queue := mergeBack fr queued :: x.queue.filter fun y => y.field != fr.field }
  | none =>
    if q.length < (s.boardDepth b).getD 0 then s.modBoard b fun x => { x with queue := fr :: x.queue }
    else if fr.priority < lowestPriority q then
      let s := s.modBoard b fun x => { x with owed := true }
      if fr.isClear then s.endClear b else s
    else s.modBoard b fun x => { x with queue := fr :: dropNewest (lowestPriority x.queue) x.queue, owed := true }

/-! ## The ends of an attempt (R175–R179) -/

/-- R167, R168, R176: a frame is done: a board whose refresh is owed is refreshed; otherwise a CLEAR's delivery ends. -/
def State.frameDone (s : State) (b : Nat) (fr : BoardFrame) : State :=
  if (pick s.boards b).owed then s.refreshBoard b else if fr.isClear then s.endClear b else s

/-- R176: the board has answered a FIELD. -/
def State.boardAnswers (s : State) (b : Nat) : State :=
  let s := s.modBoard b fun x => { x with timeoutRun := 0, toggle := x.toggle.map not }
  if (pick s.boards b).state = .lagging then s.boardBecomes b .live else s

/-- R176: an ACK to a FIELD. A reconfirmed frame is put back by the rule of R177, which speaks of a retry and of DARK alone:
a newer queued frame of its field is merged into it, and a full queue drops (DESIGN CHOICE, log entry 23). -/
def State.takeAck (s : State) (b : Nat) (fr : BoardFrame) : State :=
  let s := s.boardAnswers b
  if fr.reconfirm then s.putBack b { fr with reconfirm := false, attempts := 0 }
  else (s.modBoard b fun x =>
    { x with delivered := saturate 65535 1 x.delivered, lastOutcome := some .delivered }).frameDone b fr

/-- R176: a REFUSE to a FIELD. -/
def State.takeRefuse (s : State) (b : Nat) (fr : BoardFrame) (reason : RefuseReason) : State :=
  let s := s.boardAnswers b
  (s.modBoard b fun x =>
    { x with refused := saturate 65535 1 x.refused, lastOutcome := some .refused
             lastRefusal := some (fr.field, reason) }).frameDone b fr

/-- R177: the attempts in all of a retry policy; none is unlimited. -/
def attemptLimit : RetryPolicy → Option Nat
  | .none => some 1
  | .three => some 4
  | .persist => none

/-- R177: a failed FIELD attempt below the eighth in a row: a retry, or the attempts are exhausted. -/
def State.judgeRetry (s : State) (b : Nat) (fr : BoardFrame) : State :=
  let retries := match attemptLimit (pick s.defs.links.retry b) with
    | some limit => decide (fr.attempts < limit)
    | none => true
  if retries then s.putBack b fr
  else
    let s := s.modBoard b fun x =>
      { x with failed := saturate 65535 1 x.failed, lastOutcome := some .failed, owed := true }
    if fr.isClear then s.endClear b else s

/-- R179: the board goes DARK, the frame in flight put back. -/
def State.goDark (s : State) (b : Nat) (fr : Option BoardFrame) : State :=
  let before := (pick s.boards b).state
  let s := s.modBoard b fun x =>
    { x with state := .dark, toggle := none, probeTimer := some Config.probeTenths, probeDue := false }
  let s := match fr with
    | some fr => s.putBack b { fr with attempts := 0, reconfirm := false }
    | none => s
  (s.handOn [.board b]).boardNotice b before

/-- R177, R179: a failed attempt at a board, of a FIELD frame or of a PROBE. A DARK board's probe timer is loaded
again. -/
def State.failAttempt (s : State) (b : Nat) (fr : Option BoardFrame) : State :=
  if (pick s.boards b).state = .dark then s.modBoard b fun x => { x with probeTimer := some Config.probeTenths }
  else
    let s := s.modBoard b fun x => { x with timeoutRun := x.timeoutRun + 1 }
    if Config.darkRun ≤ (pick s.boards b).timeoutRun then s.goDark b fr
    else
      let s := s.boardBecomes b .lagging
      match fr with
      | some fr => s.judgeRetry b fr
      | none => s

/-- R179: an ACK to a PROBE. -/
def State.takeProbeAck (s : State) (b : Nat) (toggle : Bool) : State :=
  let before := (pick s.boards b).state
  let s := s.modBoard b fun x => { x with toggle := some (!toggle), timeoutRun := 0 }
  if before = .dark then
    let s := s.modBoard b fun x => { x with probeTimer := none, state := .live }
    ((s.handOn [.board b]).refreshBoard b).boardNotice b before
  else s.boardBecomes b .live

/-- R175: the attempt in flight fails. -/
def State.failFlight (s : State) (f : Flight) : State :=
  match f with
  | .field b fr _ => (s.fly none).failAttempt b (some fr)
  | .probe b => (s.fly none).failAttempt b none

/-- R175: a frame that has ended while something is in flight. -/
def State.judgeBoard (s : State) (f : Flight) (content : List Byte) (bad : Bool) : State :=
  match f, readBoardFrame content bad with
  | .field b fr t, some (.ack a u) => if a = b ∧ u = t then (s.fly none).takeAck b fr else s.failFlight f
  | .field b fr t, some (.refuse a u reason) =>
    if a = b ∧ u = t then (s.fly none).takeRefuse b fr reason else s.failFlight f
  | .probe b, some (.ack a u) => if a = b then (s.fly none).takeProbeAck b u else s.failFlight f
  | .probe _, some (.refuse ..) => s.failFlight f
  | _, none => s.failFlight f

/-! ## Receiving (R170, R175) -/

/-- R170, R175: one byte on the board link. Bytes are disregarded while nothing is in flight. -/
def State.boardByte (s : State) (x : Byte) : State :=
  match s.link.inFlight with
  | none => s
  | some f =>
    let r := loopReceive s.link.receiver x
    match r.2 with
    | .ended content bad => s.judgeBoard f content bad
    | .began _ => s.modLink fun l => { l with receiver := r.1, started := true }
    | _ => s.modLink fun l => { l with receiver := r.1 }

/-- R170: bytes on the board link. -/
def State.boardLine (s : State) (line : List Byte) : State := line.foldl State.boardByte s

/-! ## The commands -/

/-- BOARD_FRAME_SENT (R174): with nothing in flight in RUN, the arbiter looks for the next board with work. -/
def execBoardFrameSent (s : State) : Host.Outcome State Fault Refusal :=
  let s := s.takeDue
  if s.mode = .run ∧ s.link.inFlight = none then
    match nextBoard s with
    | some b => .next (s.sendTo b)
    | none => .next s
  else .next s

/-- BOARD_ACK_RECEIVED (R176): the bytes of an ACK, a FIELD being in flight. -/
def execBoardAckReceived (line : List Byte) (s : State) : Host.Outcome State Fault Refusal :=
  .next (s.takeDue.boardLine line)

/-- BOARD_REFUSE_RECEIVED (R176): the bytes of a REFUSE, a FIELD being in flight. -/
def execBoardRefuseReceived (line : List Byte) (s : State) : Host.Outcome State Fault Refusal :=
  .next (s.takeDue.boardLine line)

/-- PROBE_ACK_RECEIVED (R179): the bytes of an ACK, a PROBE being in flight. -/
def execProbeAckReceived (line : List Byte) (s : State) : Host.Outcome State Fault Refusal :=
  .next (s.takeDue.boardLine line)

/-- BOARD_BAD_REPLY (R175): the bytes of a bad or wrong reply. -/
def execBoardBadReply (line : List Byte) (s : State) : Host.Outcome State Fault Refusal :=
  .next (s.takeDue.boardLine line)

/-- BOARD_LINE_BREAK (R170): the bytes before the break are heard, and the part of a frame received so far is
discarded; the attempt goes on (DESIGN CHOICE, log entry 11). -/
def execBoardLineBreak (line : List Byte) (s : State) : Host.Outcome State Fault Refusal :=
  .next ((s.takeDue.boardLine line).modLink fun l => { l with receiver := .outside })

/-- BOARD_RESPONSE_TIMEOUT (R175, R177): no start mark has come within the response timeout. -/
def execBoardResponseTimeout (s : State) : Host.Outcome State Fault Refusal :=
  let s := s.takeDue
  match s.link.inFlight, s.link.started with
  | some f, false => .next (s.failFlight f)
  | _, _ => .next s

/-- BOARD_REPLY_FRAME_TIMEOUT (R175): the frame begun has not ended within 64 character times of its start mark. -/
def execBoardReplyFrameTimeout (s : State) : Host.Outcome State Fault Refusal :=
  let s := s.takeDue
  match s.link.inFlight, s.link.started with
  | some f, true => .next (s.failFlight f)
  | _, _ => .next s

end Sys2Proof.Machine
end

