-- ==== Sys2Proof/Machine/Layout.lean ====
section
/-! DEFINITION. Layout: how a request's body spells its fields. The spec gives the fields of each body and their order,
and few of their widths and codes; the widths and codes below are the model's convention (DESIGN CHOICE, log entry 8):
a number takes the fewest bytes that hold what the request may carry, high byte first; the values of an enumeration are
numbered from 0 in the order the spec lists them, except the colours, which have the codes of R73.

Each reader is given a body of the right length and answers none where R187's BAD VALUE applies. -/

namespace Sys2Proof.Machine

/-- The byte at a place of a body. -/
def byteAt (b : List Byte) (i : Nat) : Nat := (b.getD i 0#8).toNat

/-- The two-byte number at a place of a body, high byte first. -/
def wordAt (b : List Byte) (i : Nat) : Nat := byteAt b i * 256 + byteAt b (i + 1)

/-- The three-byte number at a place of a body, high byte first. -/
def tripleAt (b : List Byte) (i : Nat) : Nat := wordAt b i * 256 + byteAt b (i + 2)

/-- The signed two-byte number at a place of a body. -/
def signedAt (b : List Byte) (i : Nat) : Int := (BitVec.ofNat 16 (wordAt b i)).toInt

/-- The n characters at a place of a body, as they are stored (00_scope, Conventions, Text). -/
def textAt (b : List Byte) (i n : Nat) : Text := clean ((b.drop i).take n)

/-- A mark, 0 or 1: a use mark (UNDEFINED, DEFINED), a clear option (KEEP, CLEAR), yes or no, a flag value. -/
def readMark : Nat → Option Bool
  | 0 => some false
  | 1 => some true
  | _ => none

/-- R1: NONE, FIXED, IMMEDIATE. -/
def readStopBehaviour : Nat → Option StopBehaviour
  | 0 => some .none
  | 1 => some .fixed
  | 2 => some .immediate
  | _ => none

/-- R1: KEEP, DROP. -/
def readOrphan : Nat → Option OrphanPolicy
  | 0 => some .keep
  | 1 => some .drop
  | _ => none

/-- R73: GREEN 1, AMBER 2, RED 3, BLUE 4, WHITE 5. -/
def readColour : Nat → Option Colour
  | 1 => some .green
  | 2 => some .amber
  | 3 => some .red
  | 4 => some .blue
  | 5 => some .white
  | _ => none

/-- R31: AUTO, MANUAL. -/
def readRestartMode : Nat → Option RestartMode
  | 0 => some .auto
  | 1 => some .manual
  | _ => none

/-- R95: UNANSWERED, UNCLEARED. -/
def readBasis : Nat → Option Basis
  | 0 => some .unanswered
  | 1 => some .uncleared
  | _ => none

/-- R121: PASS, PITCH. -/
def readSource : Nat → Option ActualSource
  | 0 => some .pass
  | 1 => some .pitch
  | _ => none

/-- R190: NONE, THREE, PERSIST. -/
def readRetry : Nat → Option RetryPolicy
  | 0 => some .none
  | 1 => some .three
  | 2 => some .persist
  | _ => none

/-- R123: WORK, PAUSE. -/
def readPeriodKind : Nat → Option PeriodKind
  | 0 => some .work
  | 1 => some .pause
  | _ => none

/-- R30, R155: ALL, SECTION, ZONE, with the section's or the zone's number. The rules give ALL no number; the byte that
stands there beside it is not checked (DESIGN CHOICE, log entry 28). -/
def readScope (code n : Nat) : Option Scope :=
  match code with
  | 0 => some .all
  | 1 => if within 1 4 n then some (.sec n) else none
  | 2 => if within 1 24 n then some (.zone n) else none
  | _ => none

/-- R2: class number, name, stop behaviour, priority, ladder, orphan policy, colour (14 bytes). -/
def readClass (b : List Byte) : Option (Nat × ClassDef) :=
  match readStopBehaviour (byteAt b 9), readOrphan (byteAt b 12), readColour (byteAt b 13) with
  | some stop, some orphan, some colour =>
    if within 1 8 (byteAt b 0) && within 0 15 (byteAt b 10) && within 0 8 (byteAt b 11) then
      some (byteAt b 0, ⟨textAt b 1 8, stop, byteAt b 10, byteAt b 11, orphan, colour⟩)
    else none
  | _, _, _ => none

/-- R4: an exact entry at a place: in-use mark, code, class. -/
def readExact (b : List Byte) (i : Nat) : Option ExactEntry :=
  match readMark (byteAt b i) with
  | some inUse =>
    if !inUse || within 1 8 (byteAt b (i + 2)) then some ⟨inUse, byteAt b (i + 1), byteAt b (i + 2)⟩ else none
  | none => none

/-- R4: a range entry at a place: in-use mark, low code, high code, class. -/
def readRange (b : List Byte) (i : Nat) : Option RangeEntry :=
  match readMark (byteAt b i) with
  | some inUse =>
    if !inUse || (within 1 8 (byteAt b (i + 3)) && decide (byteAt b (i + 1) ≤ byteAt b (i + 2))) then
      some ⟨inUse, byteAt b (i + 1), byteAt b (i + 2), byteAt b (i + 3)⟩
    else none
  | none => none

/-- R4: four exact entries, two range entries, and the unmatched policy, 0 for REJECT or a class (21 bytes). -/
def readCodeMap (b : List Byte) : Option CodeMap :=
  match readExact b 0, readExact b 3, readExact b 6, readExact b 9, readRange b 12, readRange b 16 with
  | some e1, some e2, some e3, some e4, some r1, some r2 =>
    if within 0 8 (byteAt b 20) then
      some ⟨[e1, e2, e3, e4], [r1, r2], if byteAt b 20 = 0 then none else some (byteAt b 20)⟩
    else none
  | _, _, _, _, _, _ => none

/-- R32: section number, use mark, P, R, restart mode, sync, pass and run inputs (10 bytes). -/
def readSectionDef (b : List Byte) : Option (Nat × Option SectionDef) :=
  let n := byteAt b 0
  if !within 1 4 n then none
  else match readMark (byteAt b 1) with
    | none => none
    | some false => some (n, none)
    | some true =>
      let p := wordAt b 2
      let r := wordAt b 4
      match readRestartMode (byteAt b 6) with
      | some mode =>
        if 16 ≤ p ∧ 1 ≤ r ∧ r < p ∧ byteAt b 7 ≤ 16 ∧ byteAt b 8 ≤ 16 ∧ byteAt b 9 ≤ 16 then
          some (n, some ⟨p, r, mode, byteAt b 7, byteAt b 8, byteAt b 9⟩)
        else none
      | none => none

/-- R51: zone number, use mark, name, section, stop mark, group pattern, group mask (15 bytes). -/
def readZoneDef (b : List Byte) : Option (Nat × Option ZoneDef) :=
  let n := byteAt b 0
  if !within 1 24 n then none
  else match readMark (byteAt b 1) with
    | none => none
    | some false => some (n, none)
    | some true =>
      if within 1 4 (byteAt b 10) && within 0 65534 (wordAt b 11) && within 0 63 (byteAt b 13)
          && within 0 63 (byteAt b 14) then
        some (n, some ⟨textAt b 2 8, byteAt b 10, wordAt b 11, byteAt b 13, byteAt b 14⟩)
      else none

/-- R76: station number, use mark, zone, name, leader mark (10 bytes). -/
def readStationDef (b : List Byte) : Option (Nat × Option StationDef) :=
  let n := byteAt b 0
  if !within 1 96 n then none
  else match readMark (byteAt b 1) with
    | none => none
    | some false => some (n, none)
    | some true =>
      match readMark (byteAt b 9) with
      | some leader =>
        if within 1 24 (byteAt b 2) then some (n, some ⟨byteAt b 2, textAt b 3 6, leader⟩) else none
      | none => none

/-- R96: the delay of level k at its place, clamped up to the level count, 0 beyond it. -/
def ladderDelay (b : List Byte) (levels k : Nat) : Nat :=
  if k ≤ levels then clamp 10 36000 (wordAt b (2 * k + 2)) else 0

/-- R96: ladder number, use mark, basis, level count, four delays (12 bytes). With the definition, whether a delay was
clamped. -/
def readLadderDef (b : List Byte) : Option (Nat × Option (LadderDef × Bool)) :=
  let n := byteAt b 0
  if !within 1 8 n then none
  else match readMark (byteAt b 1) with
    | none => none
    | some false => some (n, none)
    | some true =>
      let levels := byteAt b 3
      match readBasis (byteAt b 2) with
      | some basis =>
        if within 1 4 levels then
          let clamped := (numbers levels).any fun k => ladderDelay b levels k != wordAt b (2 * k + 2)
          some (n, some (⟨basis, levels, Vector.ofFn fun i => ladderDelay b levels (i.val + 1)⟩, clamped))
        else none
      | none => none

/-! ## Equations (R105) -/

/-- R102: an operand of an area, an index, an aspect and a level. -/
def readOperand (area n aspect level : Nat) : Option Operand :=
  let calls : Option CallAspect := match aspect with
    | 0 => some .call
    | 1 => some .opened
    | 2 => some .unanswered
    | 3 => some .hold
    | 4 => if within 1 4 level then some (.esc level) else none
    | _ => none
  match area with
  | 0 => if within 1 16 n && aspect == 0 then some (.input n) else none
  | 1 => if within 1 32 n && aspect == 0 then some (.flag n) else none
  | 2 => if within 1 8 n && aspect == 0 then some (.relay n) else none
  | 3 =>
    if within 1 4 n then
      match aspect with
      | 0 => some (.sectionAspect n .stopreq)
      | 1 => some (.sectionAspect n .hold)
      | 2 => some (.sectionAspect n .run)
      | 3 => some (.sectionAspect n .pending)
      | 4 => some (.sectionAspect n .overflow)
      | _ => none
    else none
  | 4 => if within 1 24 n then calls.map (.zone n) else none
  | 5 => if within 1 8 n then calls.map (.cls n) else none
  | 6 => if within 1 96 n && aspect == 0 then some (.stationOffline n) else none
  | 7 => if within 1 8 n && aspect == 0 then some (.boardDark n) else none
  | 8 => match aspect with
    | 0 => some (.shift .work)
    | 1 => some (.shift .pause)
    | 2 => some (.shift .overtime)
    | 3 => some (.shift .none)
    | 4 => some (.shift .behind)
    | _ => none
  | 9 => match aspect with
    | 0 => some .blinkSlow
    | 1 => some .blinkFast
    | _ => none
  | 10 => if aspect = 0 then some .tableFull else none
  | _ => none

/-- R103: one of the six operations. -/
def readTermOp : Nat → Option TermOp
  | 0 => some .and
  | 1 => some .andNot
  | 2 => some .or
  | 3 => some .orNot
  | 4 => some .xor
  | 5 => some .xorNot
  | _ => none

/-- R105: the terms from index i on, with the indices of the groups now open, innermost first, and whether the open
chain is still empty; or the index of the first failure. -/
def readTerms (i : Nat) (groups : List Nat) (fresh : Bool) : List Byte → Except Nat (List Term)
  | op :: area :: n :: aspect :: level :: rest =>
    if op = 12#8 then
      if groups.isEmpty || fresh then .error i
      else (readTerms (i + 1) (groups.drop 1) false rest).map (.endGroup :: ·)
    else if op = 13#8 then
      if fresh || rest.isEmpty then .error i
      else (readTerms (i + 1) groups true rest).map (.elseChain :: ·)
    else match readTermOp op.toNat, readTermOp (op.toNat - 6) with
      | some o, _ => match readOperand area.toNat n.toNat aspect.toNat level.toNat with
        | some x => (readTerms (i + 1) groups false rest).map (.operand o x :: ·)
        | none => .error i
      | none, some o =>
        if 6 ≤ groups.length then .error i
        else (readTerms (i + 1) (i :: groups) true rest).map (.group o :: ·)
      | none, none => .error i
  | _ => match groups with
    | [] => .ok []
    | g :: _ => .error g

/-- R101: target kind, index, tune number. -/
def readTarget (kind n number : Nat) : Option Target :=
  match kind with
  | 0 => if within 1 32 n then some (.flag n) else none
  | 1 => if within 1 8 n then some (.relay n) else none
  | 2 => if within 1 4 n && within 1 15 number then some (.tune n number) else none
  | _ => none

/-- R101, R105: delay kind and time, the time clamped into 1–6,000 tenths; for NONE it is not kept. -/
def readDelay (kind d : Nat) : Option DelayKind :=
  match kind with
  | 0 => some .none
  | 1 => some (.onDelay (clamp 1 6000 d))
  | 2 => some (.offDelay (clamp 1 6000 d))
  | 3 => some (.pulse (clamp 1 6000 d))
  | _ => none

/-- R105: what a DEFINE EQUATION body of the right length says. -/
inductive EquationReading
  | badHead
  | badTerm (index : Nat)
  | undefined (n : Nat)
  | defined (n : Nat) (e : EquationDef) (clamped : Bool)
  deriving DecidableEq, Repr, Inhabited

/-- R105: equation number, use mark, target kind and index, tune number, delay kind and time, term count
(9 bytes), then five bytes a term. -/
def readEquation (b : List Byte) : EquationReading :=
  let n := byteAt b 0
  if !within 1 48 n then .badHead
  else match readMark (byteAt b 1) with
    | none => .badHead
    | some false => .undefined n
    | some true =>
      match readTarget (byteAt b 2) (byteAt b 3) (byteAt b 4), readDelay (byteAt b 5) (wordAt b 6) with
      | some target, some delay =>
        if within 1 24 (byteAt b 8) then
          match readTerms 1 [] true (b.drop 9) with
          | .ok terms => .defined n ⟨target, delay, terms⟩
              (delay != .none && clamp 1 6000 (wordAt b 6) != wordAt b 6)
          | .error i => .badTerm i
        else .badTerm 0
      | _, _ => .badTerm 0

/-! ## Boards, fields, links and account -/

/-- R155: the figure of a COUNT field by its code, with the section of the two stop figures. -/
def readFigure (code n : Nat) : Option Figure :=
  match code with
  | 0 => some .target
  | 1 => some .actual
  | 2 => some .delta
  | 3 => some .attainment
  | 4 => some .projection
  | 5 => some .volume
  | 6 => some .takt
  | 7 => some .workTime
  | 8 => if within 1 4 n then some (.andonStop n) else none
  | 9 => if within 1 4 n then some (.otherStop n) else none
  | _ => none

/-- R155, R156: the kind of a field by its code, its figure or scope code, its section or zone number, its rank. -/
def readFieldKind (code source n rank : Nat) : Option FieldKind :=
  match code with
  | 0 => if within 1 24 n then some (.zone n) else none
  | 1 => if within 1 8 rank then (readScope source n).map fun sc => .list sc rank else none
  | 2 => (readFigure source n).map .count
  | 3 => some .shift
  | 4 => some .clock
  | 5 => some .text
  | _ => none

/-- R156: the definition in a DEFINE FIELD body: kind, figure or scope, number, rank, width, colour at bytes 3–8. -/
def readFieldDef (b : List Byte) : Option FieldDef :=
  match readFieldKind (byteAt b 3) (byteAt b 4) (byteAt b 5) (byteAt b 6), readColour (byteAt b 8) with
  | some kind, some colour => if within 1 32 (byteAt b 7) then some ⟨kind, byteAt b 7, colour⟩ else none
  | _, _ => none

/-- R190: the refresh interval: 0, or 10–600. -/
def clampRefresh (k : Nat) : Nat := if k = 0 then 0 else clamp 10 600 k

/-- R190: the four settings of input k at its place in a DEFINE LINKS body. -/
def readInputSettings (b : List Byte) (k : Nat) : Option InputSettings :=
  let i := 17 + 4 * (k - 1)
  match readMark (byteAt b (i + 1)), readMark (byteAt b (i + 2)), readMark (byteAt b (i + 3)) with
  | some invert, some rising, some falling => some ⟨byteAt b i, invert, rising, falling⟩
  | _, _, _ => none

/-- R190: the link settings of a DEFINE LINKS body (81 bytes), with whether a value was clamped. -/
def readLinks (b : List Byte) : Option (LinkSettings × Bool) :=
  if (numbers 8).all (fun k => (readRetry (byteAt b (6 + k))).isSome)
      && (numbers 16).all (fun k => (readInputSettings b k).isSome) then
    let settings : LinkSettings :=
      { loopA := ⟨clamp 5 50 (byteAt b 0), clamp 3 15 (byteAt b 1)⟩
        loopB := ⟨clamp 5 50 (byteAt b 2), clamp 3 15 (byteAt b 3)⟩
        boardResponseMs := clamp 10 250 (byteAt b 4), refreshSeconds := clampRefresh (wordAt b 5)
        retry := Vector.ofFn fun i => (readRetry (byteAt b (7 + i.val))).getD .none
        threshold := clamp 1 128 (byteAt b 15), staleSeconds := clamp 1 255 (byteAt b 16)
        inputs := Vector.ofFn fun i => (readInputSettings b (i.val + 1)).getD default }
    let asked := [byteAt b 0, byteAt b 1, byteAt b 2, byteAt b 3, byteAt b 4, wordAt b 5, byteAt b 15, byteAt b 16]
    let given := [settings.loopA.responseMs, settings.loopA.missLimit, settings.loopB.responseMs,
      settings.loopB.missLimit, settings.boardResponseMs, settings.refreshSeconds, settings.threshold,
      settings.staleSeconds]
    some (settings, asked != given)
  else none

/-- R121: counting section, actual source (2 bytes). -/
def readAccountDef (b : List Byte) : Option (Nat × ActualSource) :=
  match readSource (byteAt b 1) with
  | some source => if within 1 4 (byteAt b 0) then some (byteAt b 0, source) else none
  | none => none

/-! ## The layouts READ DEFINITION returns (R32, R51, R76, R119, R154, R156, R191) -/

/-- R31: the code of a restart mode. -/
def RestartMode.code : RestartMode → Nat
  | .auto => 0
  | .manual => 1

/-- R95: the code of a basis. -/
def Basis.code : Basis → Nat
  | .unanswered => 0
  | .uncleared => 1

/-- R73: the code of a colour. -/
def Colour.code : Colour → Nat
  | .green => 1
  | .amber => 2
  | .red => 3
  | .blue => 4
  | .white => 5

/-- R32: the six attributes of a section, 0 for an undefined one. -/
def sectionLayout : Option SectionDef → SectionLayout
  | some d => ⟨d.pitch, d.runOn, d.restart.code, d.syncInput, d.passInput, d.runInput⟩
  | none => ⟨0, 0, 0, 0, 0, 0⟩

/-- R51: the five attributes of a zone; for an undefined one the name is eight spaces and the others 0. -/
def zoneLayout (d : Option ZoneDef) : ZoneDef := d.getD ⟨List.replicate 8 0x20#8, 0, 0, 0, 0⟩

/-- R76: the three attributes of a station; for an undefined one zone 0, six spaces and no leader. -/
def stationLayout (d : Option StationDef) : StationDef := d.getD ⟨0, List.replicate 6 0x20#8, false⟩

/-- R119: a ladder, 0 for an undefined one. -/
def ladderLayout : Option LadderDef → LadderLayout
  | some d => ⟨d.basis.code, d.levels, d.delays⟩
  | none => ⟨0, 0, Vector.replicate 4 0⟩

/-- R101: the target kind, the index and the tune number of a target; a target other than TUNE has no tune number of its
own (log entry 20). -/
def targetLayout (tune : Nat) : Target → Nat × Nat × Nat
  | .flag f => (0, f, tune)
  | .relay r => (1, r, tune)
  | .tune c number => (2, c, number)

/-- R101, R105: the delay kind and the time, 0 for NONE. -/
def delayLayout : DelayKind → Nat × Nat
  | .none => (0, 0)
  | .onDelay d => (1, d)
  | .offDelay d => (2, d)
  | .pulse d => (3, d)

/-- R119: equation i in the layout of DEFINE EQUATION; an undefined one has the term count 0, and its other numbers are
not stated (log entry 20). -/
def equationLayout (i j : Nat) : Option EquationDef → EquationLayout
  | some d =>
    let target := targetLayout (Config.unstatedNumber 8 i j 3) d.target
    ⟨target.1, target.2.1, target.2.2, (delayLayout d.delay).1, (delayLayout d.delay).2, d.terms⟩
  | none =>
    let free := Config.unstatedNumber 8 i j
    ⟨free 1, free 2, free 3, free 4, free 5, []⟩

/-- R155: the scope code and the section or zone number of a scope. -/
def scopeLayout : Scope → Nat × Nat
  | .all => (0, 0)
  | .sec n => (1, n)
  | .zone n => (2, n)

/-- R155: the code of a figure and its section, 0 where it has none. -/
def figureLayout : Figure → Nat × Nat
  | .target => (0, 0)
  | .actual => (1, 0)
  | .delta => (2, 0)
  | .attainment => (3, 0)
  | .projection => (4, 0)
  | .volume => (5, 0)
  | .takt => (6, 0)
  | .workTime => (7, 0)
  | .andonStop n => (8, n)
  | .otherStop n => (9, n)

/-- R155, R156: kind, figure or scope code, section or zone number, and rank; a byte that the kind does not use is 0. -/
def kindLayout : FieldKind → Nat × Nat × Nat × Nat
  | .zone n => (0, 0, n, 0)
  | .list scope rank => (1, (scopeLayout scope).1, (scopeLayout scope).2, rank)
  | .count figure => (2, (figureLayout figure).1, (figureLayout figure).2, 0)
  | .shift => (3, 0, 0, 0)
  | .clock => (4, 0, 0, 0)
  | .text => (5, 0, 0, 0)

/-- R156: field f of board b in the layout of DEFINE FIELD; the numbers of an undefined one are not stated (log entry
20). -/
def fieldLayout (b f : Nat) : Option FieldDef → FieldLayout
  | some d =>
    let kind := kindLayout d.kind
    ⟨kind.1, kind.2.1, kind.2.2.1, kind.2.2.2, d.width, d.colour.code⟩
  | none =>
    let free := Config.unstatedNumber 11 b f
    ⟨free 1, free 2, free 3, free 4, free 5, free 6⟩

/-- R191: the link settings other than the input settings. -/
def LinkSettings.lines (l : LinkSettings) : LineSettings :=
  { loopA := l.loopA, loopB := l.loopB, boardResponseMs := l.boardResponseMs, refreshSeconds := l.refreshSeconds
    retry := l.retry, threshold := l.threshold, staleSeconds := l.staleSeconds }

/-! ## The shift plan -/

/-- R123: n periods, each a kind and a length in minutes in two bytes, the lengths as they are carried. -/
def readPeriods : Nat → List Byte → Option (List Period)
  | 0, _ => some []
  | n + 1, b =>
    match readPeriodKind (byteAt b 0), readPeriods n (b.drop 3) with
    | some kind, some rest => some (⟨kind, wordAt b 1⟩ :: rest)
    | _, _ => none

/-- R123: the plan of a START SHIFT body that passes the structural checks. -/
def readPlan (b : List Byte) : Option (List Period) :=
  let n := byteAt b 0
  if within 1 12 n then
    match readPeriods n (b.drop 1) with
    | some plan => if plan.any fun p => p.kind == .work then some plan else none
    | none => none
  else none

/-! ## Calls -/

/-- R29: the actions of ACT ON CALL. -/
inductive CallAction | answer | carry | clear | cancel
  deriving DecidableEq, Repr, Inhabited

/-- R29: an action by its code. -/
def readAction : Nat → Option CallAction
  | 0 => some .answer
  | 1 => some .carry
  | 2 => some .clear
  | 3 => some .cancel
  | _ => none

/-- R184: the eight enables of SET REPORTS. -/
def readReports (b : List Byte) : Option (Vector Bool 8) :=
  if (numbers 8).all (fun k => (readMark (byteAt b (k - 1))).isSome) then
    some (Vector.ofFn fun i => (readMark (byteAt b i.val)).getD false)
  else none

end Sys2Proof.Machine
end

