-- ==== Sys2Proof/Machine/Conveyor.lean ====
section
/-! DEFINITION. Conveyor: the encoder pulses and edges of the trackers (R34–R43), the line inputs (R45–R49), and the
commands of this family. -/

namespace Sys2Proof.Machine

/-- R34: the definition of a section whose tracker takes events: the mode is RUN and the section is defined. -/
def liveSection (s : State) (n : Nat) : Option SectionDef := if s.mode = .run then s.sectionDef n else none

/-- R41, R42: the pitch count rises by 1, and may feed the account. -/
def State.pitchRises (s : State) (n : Nat) : State :=
  (s.modTracker n fun t => { t with pitchCount := wrap 65535 t.pitchCount }).countRose n .pitch

/-- R35: a forward pulse at a live section. -/
def State.forwardPulse (s : State) (n : Nat) (d : SectionDef) : State :=
  let t := pick s.trackers n
  if 0 < t.debt then s.modTracker n fun t => { t with debt := t.debt - 1 }
  else if t.phase + 1 < d.pitch then
    (s.modTracker n fun t => { t with phase := t.phase + 1 }).forwardDistance n 1
  else ((s.modTracker n fun t => { t with phase := 0 }).pitchRises n).forwardDistance n 1

/-- R36: the SECTION notice with the cause ROLLBACK. -/
def State.rollbackNotice (s : State) (n : Nat) : State :=
  let t := pick s.trackers n
  s.sectionNotice n (.rollback t.saturated t.debt t.phase)

/-- R36: a reverse pulse at a live section. With rollback saturated yes and the debt below P (after forward pulses) R36
has both "it rises by 1" and "changes nothing when the status is already yes": the debt rises (DESIGN CHOICE, log entry
24). -/
def State.reversePulse (s : State) (n : Nat) (d : SectionDef) : State :=
  let t := pick s.trackers n
  if t.debt < d.pitch then s.modTracker n fun t => { t with debt := t.debt + 1 }
  else if t.saturated then s
  else (s.modTracker n fun t => { t with saturated := true }).rollbackNotice n

/-- R38: the debt dropped at a sync edge, with the notice where rollback saturated was yes. -/
def State.dropDebt (s : State) (n : Nat) : State :=
  let was := (pick s.trackers n).saturated
  let s := s.modTracker n fun t => { t with debt := 0, saturated := false }
  if was then s.rollbackNotice n else s

/-- R38–R40: a rising edge of the sync input of a live section. -/
def State.syncEdge (s : State) (n : Nat) (d : SectionDef) : State :=
  let s := s.dropDebt n
  let phase := (pick s.trackers n).phase
  if phase = 0 then s.modTracker n fun t => { t with lastSync := some (.aligned, 0) }
  else if d.pitch / 2 ≤ phase then
    let jump := d.pitch - phase
    ((s.modTracker n fun t => { t with phase := 0, lastSync := some (.forward, jump) }).pitchRises n).forwardDistance
      n jump
  else (s.modTracker n fun t => { t with phase := 0, lastSync := some (.backward, phase) }).backwardJump n phase d

/-- R41, R42: a rising edge of the pass input of a live section. -/
def State.passEdge (s : State) (n : Nat) : State :=
  (s.modTracker n fun t => { t with passCount := wrap 65535 t.passCount }).countRose n .pass

/-- R48: a rising edge at the sync input of section n, if input k is that. -/
def State.syncUser (k : Nat) (s : State) (n : Nat) : State :=
  match liveSection s n with
  | some d => if d.syncInput = k then s.syncEdge n d else s
  | none => s

/-- R48: a rising edge at the pass input of section n, if input k is that. -/
def State.passUser (k : Nat) (s : State) (n : Nat) : State :=
  match liveSection s n with
  | some d => if d.passInput = k then s.passEdge n else s
  | none => s

/-- R43, R48: an edge at the run input of section n, if input k is that. -/
def State.runUser (k : Nat) (s : State) (n : Nat) : State :=
  match liveSection s n with
  | some d => if d.runInput = k then s.handOn [.sectionAspect n .run] else s
  | none => s

/-- R49: the INPUT notice of an edge of input k to a level. -/
def State.inputNotice (s : State) (k : Nat) (level : Bool) : State :=
  let i := pick s.defs.links.inputs k
  if (if level then i.risingNotice else i.fallingNotice) then s.notify (.input k level) else s

/-- R48: an edge of input k delivered to its users: syncs, passes, run levels, the equation unit, the notice. The
users need no order; this one is the model's (log entry 12). -/
def State.deliverEdge (s : State) (k : Nat) : State :=
  let level := inputLevel s k
  let s := if level then (numbers 4).foldl (State.passUser k) ((numbers 4).foldl (State.syncUser k) s) else s
  let s := ((numbers 4).foldl (State.runUser k) s).handOn [.input k]
  s.inputNotice k level

/-- R46: the debounced state of input k takes the raw state, and the edge is delivered. -/
def State.takeInput (s : State) (k : Nat) : State :=
  { s with inputs := alter s.inputs k fun i => { i with debounced := i.raw, timing := false } }.deliverEdge k

/-- R46: the raw state of input k becomes `level`. -/
def State.rawChange (s : State) (k : Nat) (level : Bool) : State :=
  let i := pick s.inputs k
  if i.raw = level then s
  else
    let differs := level != i.debounced
    let t := { s with inputs := alter s.inputs k fun i => { i with raw := level, timing := differs } }
    if differs && (pick s.defs.links.inputs k).debounceMs == 0 then t.takeInput k else t

/-- R46: the debounce time of input k is changed from that of `old`. A difference being timed that has lasted the new
time is taken at the change; how long it has lasted is a free value (log entry 5). -/
def State.debounceChanged (old : LinkSettings) (s : State) (k : Nat) : State :=
  let before := (pick old.inputs k).debounceMs
  let after := (pick s.defs.links.inputs k).debounceMs
  if (pick s.inputs k).timing && after != before then
    let lasted := min (Config.debounceLasted s.freeCount) (before - 1)
    let t := { s with freeCount := s.freeCount + 1 }
    if after ≤ lasted then t.takeInput k else t
  else s

/-- R46, R47: the link settings replaced. The spec gives no order within the change: all settings are new first, so an edge
taken at the change and its notice are judged by the new invert mark and notice enables; and the inputs are taken in
ascending number (DESIGN CHOICE, log entry 21). -/
def State.replaceLinks (s : State) (l : LinkSettings) : State :=
  (numbers 16).foldl (State.debounceChanged s.defs.links) { s with defs := { s.defs with links := l } }

/-! ## The commands -/

/-- ENCODER_FORWARD_PULSE (R34, R35). -/
def execEncoderForwardPulse (n : Nat) (s : State) : Host.Outcome State Fault Refusal :=
  if within 1 4 n then
    let s := s.takeDue
    match liveSection s n with
    | some d => .next (s.forwardPulse n d)
    | none => .next s
  else .fault (.noSuchLine n)

/-- ENCODER_REVERSE_PULSE (R34, R36). -/
def execEncoderReversePulse (n : Nat) (s : State) : Host.Outcome State Fault Refusal :=
  if within 1 4 n then
    let s := s.takeDue
    match liveSection s n with
    | some d => .next (s.reversePulse n d)
    | none => .next s
  else .fault (.noSuchLine n)

/-- STOP_DISTANCE_EXPIRY (R55, R56). -/
def execStopDistanceExpiry (n : Nat) (s : State) : Host.Outcome State Fault Refusal :=
  if within 1 4 n then .next (s.takeStopExpiry n) else .fault (.noSuchLine n)

/-- RAW_INPUT_CHANGE (R46). -/
def execRawInputChange (k : Nat) (level : Bool) (s : State) : Host.Outcome State Fault Refusal :=
  if within 1 16 k then .next (s.takeDue.rawChange k level) else .fault (.noSuchLine k)

/-- INPUT_DEBOUNCE_EXPIRY (R46): the timing of input k has run out. With no timing in progress nothing expires. -/
def execInputDebounceExpiry (k : Nat) (s : State) : Host.Outcome State Fault Refusal :=
  if within 1 16 k then
    let s := s.takeDue
    .next (if (pick s.inputs k).timing then s.takeInput k else s)
  else .fault (.noSuchLine k)

end Sys2Proof.Machine
end

