-- ==== Sys2Proof/Machine/Modes.lean ====
section
/-! DEFINITION. Modes: the checks of ENTER RUN (R189, R91, R106, R155), the starting steps of RUN (R189), the steps of
ENTER CONFIG (R188) and a reset (R193). -/

namespace Sys2Proof.Machine

/-! ## The checks of ENTER RUN -/

/-- The first of the numbers 1 to n that fails, with the reason. -/
def firstFailing (n : Nat) (reason : ConfigReason) (fails : Nat → Bool) : Option (ConfigReason × Nat) :=
  ((numbers n).find? fails).map fun k => (reason, k)

/-- R189 step 2: a defined zone names an undefined section. -/
def zoneFails (d : Definitions) (z : Nat) : Bool := match pick d.zones z with
  | some x => (pick d.sections x.sec).isNone
  | none => false

/-- R189 step 3: a defined station names an undefined zone. -/
def stationFails (d : Definitions) (n : Nat) : Bool := match pick d.stations n with
  | some x => (pick d.zones x.zone).isNone
  | none => false

/-- R189 step 4: a class names an undefined ladder. -/
def classFails (d : Definitions) (k : Nat) : Bool :=
  (pick d.classes k).ladder != 0 && (pick d.ladders (pick d.classes k).ladder).isNone

/-- R90, R91: an address is selected by a pattern under a mask. -/
def selects (pattern mask address : Nat) : Bool := address &&& mask == pattern &&& mask

/-- R91: the zone of the defined station at an address of a loop. -/
def zoneAt (d : Definitions) (l : LoopId) (address : Nat) : Option Nat :=
  (pick d.stations (stationAt l address)).map (·.zone)

/-- R91: the group selection of a zone fails on a loop: one of its stations there is not selected, or one of another
zone is. A zone with no station there is not checked. -/
def groupFailsOn (d : Definitions) (z : Nat) (l : LoopId) : Bool :=
  match pick d.zones z with
  | none => false
  | some x =>
    (numbers 48).any (fun a => zoneAt d l a == some z) && (numbers 48).any fun a =>
      match zoneAt d l a with
      | some other => selects x.pattern x.mask a != (other == z)
      | none => false

/-- R189 step 6: the group selection of a zone fails. -/
def groupFails (d : Definitions) (z : Nat) : Bool := groupFailsOn d z .a || groupFailsOn d z .b

/-- R106: the flag is targeted by a defined equation numbered from lo to hi. -/
def flagTargeted (d : Definitions) (f lo hi : Nat) : Bool :=
  (numbers 48).any fun j => within lo hi j && match pick d.equations j with
    | some e => e.target == .flag f
    | none => false

/-- R106: the relay is targeted by a defined equation numbered from lo to hi. -/
def relayTargeted (d : Definitions) (r lo hi : Nat) : Bool :=
  (numbers 48).any fun j => within lo hi j && match pick d.equations j with
    | some e => e.target == .relay r
    | none => false

/-- R106: an operand of equation i breaks the order rule. -/
def operandFails (d : Definitions) (i : Nat) : Term → Bool
  | .operand _ (.flag f) => flagTargeted d f i 48
  | .operand _ (.relay r) => relayTargeted d r i 48
  | _ => false

/-- R189 step 7: equation i targets a flag that a lower one targets, or an operand of it breaks the order rule. -/
def equationFails (d : Definitions) (i : Nat) : Bool :=
  match pick d.equations i with
  | none => false
  | some e =>
    (match e.target with
      | .flag f => flagTargeted d f 1 (i - 1)
      | _ => false) || e.terms.any (operandFails d i)

/-- R155: the scope or section a field's kind refers to is undefined. -/
def kindFails (d : Definitions) : FieldKind → Bool
  | .zone z => (pick d.zones z).isNone
  | .list (.sec n) _ => (pick d.sections n).isNone
  | .list (.zone z) _ => (pick d.zones z).isNone
  | .list .all _ => false
  | .count (.andonStop n) => (pick d.sections n).isNone
  | .count (.otherStop n) => (pick d.sections n).isNone
  | .count _ => false
  | .shift => false
  | .clock => false
  | .text => false

/-- R189 step 8: the field at index (board − 1) × 12 + field refers to something undefined. -/
def fieldFails (d : Definitions) (index : Nat) : Bool :=
  match pick (pick d.fields ((index - 1) / 12 + 1)) ((index - 1) % 12 + 1) with
  | some x => kindFails d x.kind
  | none => false

/-- R189: the checks of ENTER RUN, in order; none where they pass. -/
def configCheck (d : Definitions) : Option (ConfigReason × Nat) :=
  (if (numbers 4).all fun n => (pick d.sections n).isNone then some (.noSection, 0) else none)
    |>.or (firstFailing 24 .sectionUndefined (zoneFails d))
    |>.or (firstFailing 96 .zoneUndefined (stationFails d))
    |>.or (firstFailing 8 .ladderUndefined (classFails d))
    |>.or (if (pick d.sections d.counting).isNone then some (.countingSection, d.counting) else none)
    |>.or (firstFailing 24 .groupPattern (groupFails d))
    |>.or (firstFailing 48 .equationOrder (equationFails d))
    |>.or (firstFailing 96 .fieldReference (fieldFails d))

/-! ## Entering RUN -/

/-- R189: the starting values of the blocks at the entry to RUN: the mode and the shift state, the trackers (R33), stop
logic (R71), the loop controllers and the defined stations (R92), the board link (R173). The unattributed stop time of a
section made undefined is kept as that of a defined one (DESIGN CHOICE, log entry 25); the record of a station that is
undefined here stays as it last was, and is seen again once the number is defined in CONFIG (DESIGN CHOICE, log entry
26). -/
def State.startBlocks (s : State) : State :=
  { s with
    mode := .run, shiftState := .none, shift := none
    trackers := Vector.replicate 4 startTracker
    stops := alterAll s.stops fun _ x => { startStop with unattributed := x.unattributed }
    loopA := startLoop, loopB := startLoop
    stations := alterAll s.stations fun n x => if (s.stationDef n).isSome then startStation else x
    boards := Vector.replicate 8 startBoard, link := startBoardLink }

/-- R189: the starting steps of RUN, in order. -/
def State.startRun (s : State) : State :=
  let s := s.startBlocks.handOn [.all]
  { s with refreshTimer := refreshLoad s }.refreshBoards fun _ => true

/-! ## Entering CONFIG -/

/-- R23: every standing call closed as PURGED, in display order, and the arrival count set to 0. -/
def State.purge (s : State) : State :=
  { ((displayOrder s).map (·.number)).foldl (fun s k => s.closeNumber .purged false k) s with arrivalCount := 0 }

/-- R52, R70: a section's stop logic gives up its holds. -/
def State.giveUpHolds (s : State) (n : Nat) : State :=
  let s := s.modStop n fun x => { x with holdOrder := [], waiting := 0, overflow := false, pending := false }
  if (pick s.stops n).request then s.releaseRequest n else s

/-- R92: a loop controller that stops polling. -/
def LoopState.stopPolling (x : LoopState) : LoopState :=
  { x with polled := none, started := false, receiver := .outside, zonesOwed := [], stationsOwed := []
           announcements := Vector.replicate 24 spaces4, sent := [] }

/-- R92: a defined station at ENTER CONFIG: its counters are kept. -/
def Station.stopPolling (x : Station) : Station :=
  { startStation with goodReplies := x.goodReplies, misses := x.misses, rejectedEvents := x.rejectedEvents }

/-- R173: a board at ENTER CONFIG: its counters, last outcome and last refusal are kept. -/
def Board.abandon (x : Board) : Board :=
  { startBoard with lastOutcome := x.lastOutcome, lastRefusal := x.lastRefusal, delivered := x.delivered
                    refused := x.refused, failed := x.failed }

/-- R92, R173: the loops stop polling, and the board link abandons its frame in flight and empties the queues. -/
def State.stopLinks (s : State) : State :=
  { s with
    loopA := s.loopA.stopPolling, loopB := s.loopB.stopPolling
    stations := alterAll s.stations fun n x => if (s.stationDef n).isSome then x.stopPolling else x
    link := { s.link with inFlight := none, started := false, receiver := .outside }
    boards := alterAll s.boards fun _ x => x.abandon }

/-- R188: the steps of ENTER CONFIG, in order. -/
def State.leaveRun (s : State) : State :=
  let s := (numbers 4).foldl State.giveUpHolds s.purge
  { s.stopLinks.idleComposer.idleEquations with mode := .config }

/-! ## Reset -/

/-- R193 step 3: the baud rate the strap pins select. -/
def baudOf (straps : Bool × Bool) : Nat :=
  match straps with
  | (false, false) => 19200
  | (false, true) => 38400
  | (true, false) => 57600
  | (true, true) => 115200

/-- R193 steps 1–3, R47: the volatile state at its starting values, the strap pins read, and each input's debounced
state taken from its raw state. The store, the raw inputs and the model's own fields are no part of it. -/
def State.cleared (s : State) (straps : Bool × Bool) : State :=
  { State.reset with
    store := s.store, straps := straps, host := { startHost with baud := baudOf straps }
    inputs := alterAll s.inputs fun _ i => ⟨i.raw, i.raw, false⟩
    freeCount := s.freeCount, pending := s.pending }

/-- R193: a reset. -/
def State.resetNow (s : State) (straps : Bool × Bool) : State :=
  let t := s.cleared straps
  match s.store with
  | none => t
  | some d =>
    let t := { t with defs := d }
    match configCheck d with
    | none => { t.startRun with startNote := .loaded }
    | some (reason, index) => { t with startNote := .rejected reason index }

end Sys2Proof.Machine
end

