-- ==== Sys2Proof/Machine/Serve.lean ====
section
/-! DEFINITION. Serve: how a request reaches its turn, is handled and answered (R186, R187; log entry 2). -/

namespace Sys2Proof.Machine

/-- R186: a request received: it enters the request queue, or is lost at a full one; at the rise to 6 a controller not
self-paused sends a pause mark. -/
def HostLink.receive (h : HostLink) (r : Request) : HostLink :=
  if h.requests.length < Config.requestCapacity then
    let queued := h.requests ++ [r]
    let pauses := !h.selfPaused && queued.length == Config.selfPauseAt
    { h with requests := queued, selfPaused := h.selfPaused || pauses
             lastMark := if pauses then some .pause else h.lastMark }
  else { h with lostRequests := saturate 65535 1 h.lostRequests }

/-- R186: it is this request's turn: nothing is being served, and it is the oldest queued, or none is queued. -/
def HostLink.turn (h : HostLink) (r : Request) : Bool :=
  h.serving == .free && (h.requests.isEmpty || h.requests.head? == some r)

/-- What handling a request gives: the state after it, and its result and reply body; none where the reply comes later
(STORE SETTINGS) or never (RESTART). -/
structure Handled where
  state  : State
  answer : Option (Result × ReplyBody)
  deriving DecidableEq, Repr, Inhabited

/-- R187: a check failed: the request changes nothing, and its reply ends at the result code. -/
def refuse (s : State) (r : Result) : Handled := ⟨s, some (r, .empty)⟩

/-- The request is answered DONE. -/
def done (s : State) (body : ReplyBody) : Handled := ⟨s, some (.done, body)⟩

/-- The request is answered ADJUSTED if a value was clamped, and DONE otherwise. -/
def doneOr (adjusted : Bool) (s : State) (body : ReplyBody) : Handled :=
  ⟨s, some (if adjusted then .adjusted else .done, body)⟩

/-- R187: the BAD FORMAT check of a body of n bytes, taken first. -/
def ofLength (n : Nat) (body : List Byte) (handle : State → Handled) (s : State) : Handled :=
  if body.length = n then handle s else refuse s .badFormat

/-- R187: a mode check; where it stands among the checks of a request is DEDUCED (log entry 10). -/
def inMode (m : Mode) (handle : State → Handled) (s : State) : Handled :=
  if s.mode = m then handle s else refuse s .wrongMode

/-- R186, R187: a request at its turn: it is handled, and its reply enters the outbound queue or waits for room. -/
def serveNow (r : Request) (handle : State → Handled) (s : State) : State :=
  let h := handle (if s.host.requests.isEmpty then s.modHost fun x => x.receive r else s)
  match h.answer with
  | some (result, body) => h.state.modHost fun x => x.answer (.reply r.tag r.kind result body)
  | none => h.state

/-- R186: a request served when its turn has come; otherwise it is received and waits. -/
def serveRequest (r : Request) (handle : State → Handled) (s : State) : State :=
  let s := s.takeDue
  if s.host.turn r then serveNow r handle s else s.modHost fun x => x.receive r

/-- A request command of a kind. A body longer than a host frame carries is no request (R185). -/
def serve (kind tag : Byte) (body : List Byte) (handle : State → Handled) (s : State) :
    Host.Outcome State Fault Refusal :=
  if body.length ≤ Config.bodyCapacity then .next (serveRequest ⟨tag, kind, body⟩ handle s) else .fault .bodyTooLong

/-- R187: the request kinds. -/
def requestKinds : List Nat :=
  [16, 17, 18, 19, 20, 21, 22, 23, 24, 25, 26, 27, 28, 29, 30, 31, 32, 33, 34, 35, 40, 41, 42, 43, 44, 45, 48, 49, 51,
    52, 53, 56, 57, 58, 59, 60, 61, 62]

/-- UNKNOWN_KIND (R187). -/
def execUnknownKind (tag kind : Byte) (body : List Byte) (s : State) : Host.Outcome State Fault Refusal :=
  if kind.toNat ∈ requestKinds then .fault .kindIsKnown
  else serve kind tag body (fun s => refuse s .unknownKind) s

end Sys2Proof.Machine
end

