-- ==== Sys2Proof/Machine/System.lean ====
section
/-! DEFINITION. System: the reset, the mode, store, clock, report and status commands, and READ DEFINITION
(R119, R183, R184, R188–R195). -/

namespace Sys2Proof.Machine

/-- R195: the reply body of READ STATUS. -/
def statusReport (s : State) : StatusReport :=
  { mode := s.mode, shift := s.shiftState, timeOfDay := s.timeOfDay, clockSet := s.clockSet
    calls := s.calls.length, noneCalls := noneCount s
    stopRequests := (numbers 4).map fun n => (pick s.stops n).request
    offline := stationsIn s .a .offline + stationsIn s .b .offline, dark := darkBoards s
    historyCount := s.history.length, overflowCount := s.overflowCount
    badFrames := s.host.badFrames, lostRequests := s.host.lostRequests, lostNotices := s.host.lostNotices
    storeValid := s.store.isSome, startNote := s.startNote }

/-- R195: the three link counters and the history overflow count set to 0. -/
def State.clearCounters (s : State) : State :=
  { s with overflowCount := 0, host := { s.host with badFrames := 0, lostRequests := 0, lostNotices := 0 } }

/-- R195: READ STATUS. -/
def readStatusNow (body : List Byte) : State → Handled :=
  ofLength 1 body fun s => match readMark (byteAt body 0) with
    | some clear => done (if clear then s.clearCounters else s) (.status (statusReport s))
    | none => refuse s .badValue

/-- R188: ENTER CONFIG. -/
def enterConfigNow (body : List Byte) : State → Handled :=
  ofLength 0 body <| inMode .run fun s =>
    if s.shiftState = .none then done s.leaveRun .empty else refuse s .wrongState

/-- R189: ENTER RUN. -/
def enterRunNow (body : List Byte) : State → Handled :=
  ofLength 0 body <| inMode .config fun s => match configCheck s.defs with
    | none => done s.startRun .empty
    | some (reason, index) => ⟨s, some (.badConfig, .badConfig reason index)⟩

/-- R192: STORE SETTINGS: the write begins; the reply comes when it ends. -/
def storeSettingsNow (body : List Byte) : State → Handled :=
  ofLength 0 body <| inMode .config fun s =>
    ⟨{ s with store := none, host := { s.host with serving := .storing } }, none⟩

/-- R192, R33, R161: the copy replaces the working definitions; the trackers take their starting values, and every
text is emptied. -/
def State.recall (s : State) (d : Definitions) : State :=
  { { s with defs := { d with links := s.defs.links } }.replaceLinks d.links with
    trackers := Vector.replicate 4 startTracker
    fields := alterAll s.fields fun _ row => alterAll row fun _ x => { x with text := [] } }

/-- R192: RECALL SETTINGS. -/
def recallSettingsNow (body : List Byte) : State → Handled :=
  ofLength 0 body <| inMode .config fun s => match s.store with
    | some d => done (s.recall d) .empty
    | none => refuse s .notFound

/-- R193: a reset that reads the strap pins as they stand. RESTART carries no pin levels, so what it reads is a free value
(log entry 7). -/
def State.resetReadingPins (s : State) : State :=
  { s with freeCount := s.freeCount + 1 }.resetNow (Config.strapLevels s.freeCount)

/-- R193: RESTART: a reset, with no reply. R193 speaks of a body of the right length and gives none; the model takes the
empty body for it (DESIGN CHOICE, log entry 30). -/
def restartNow (body : List Byte) : State → Handled :=
  ofLength 0 body fun s => ⟨s.resetReadingPins, none⟩

/-- R194: the time of day set. -/
def State.setTime (s : State) (time : Nat) : State :=
  { s with timeOfDay := time, tenths := 0, clockSet := true }.recompose FieldKind.readsTime

/-- R194: SET CLOCK. -/
def setClockNow (body : List Byte) : State → Handled :=
  ofLength 3 body fun s =>
    if tripleAt body 0 ≤ 86399 then done (s.setTime (tripleAt body 0)) (.clock s.timeOfDay (tripleAt body 0))
    else refuse s .badValue

/-- R184: SET REPORTS. -/
def setReportsNow (body : List Byte) : State → Handled :=
  ofLength 8 body fun s => match readReports body with
    | some mask => done (s.modHost fun h => { h with reports := mask }) (.reports mask)
    | none => refuse s .badValue

/-- R119: the owner of a flag: the equation that targets it, none for HOST. In CONFIG two equations may target one flag
(R106 is checked at ENTER RUN), and the spec says not which is reported: the lowest-numbered (DESIGN CHOICE, log entry
20). -/
def flagOwner (s : State) (f : Nat) : Option Nat :=
  (numbers 48).find? fun i => match s.equationDef i with
    | some e => e.target == .flag f
    | none => false

/-- R191: an index within its range, and what it then reads. -/
def indexed (lo hi k : Nat) (r : DefinitionReport) : Option DefinitionReport :=
  if within lo hi k then some r else none

/-- R191: the item that an item code and two indices name, in the layout its owner gives it. -/
def definitionItem (s : State) (item i j : Nat) : Option DefinitionReport :=
  match item with
  | 1 => indexed 1 8 i (.cls (s.classDef i))
  | 2 => some (.codeMap s.defs.codeMap)
  | 3 => indexed 1 4 i (.sec (s.sectionDef i).isSome (sectionLayout (s.sectionDef i)))
  | 4 => indexed 1 24 i (.zone (s.zoneDef i).isSome (zoneLayout (s.zoneDef i)))
  | 5 => indexed 1 96 i
      (.station (s.stationDef i).isSome (loopOf i) (addressOf i) (stationLayout (s.stationDef i)))
  | 6 => indexed 1 8 i (.ladder (s.ladderDef i).isSome (ladderLayout (s.ladderDef i)))
  | 7 => some (.inputs ((numbers 16).map fun k => (pick s.defs.links.inputs k, inputLevel s k)))
  | 8 => indexed 1 48 i
      (.equation (s.equationDef i).isSome (equationLayout i j (s.equationDef i)) (pick s.equations i))
  | 9 => some (.outputs ((numbers 32).map fun f => (pick s.flags f, flagOwner s f)) s.relays.toList s.tunes.toList)
  | 10 => indexed 1 8 i (.board (s.boardDepth i).isSome ((s.boardDepth i).getD 0))
  | 11 =>
    if within 1 12 j then
      indexed 1 8 i (.field (s.fieldDef i j).isSome (fieldLayout i j (s.fieldDef i j))
        (pick (pick s.fields i) j).last (pick (pick s.fields i) j).marked)
    else none
  | 12 => some (.account s.defs.counting s.defs.source)
  | 13 => some (.links s.defs.links.lines)
  | _ => none

/-- R191: READ DEFINITION. The reply carries the item code and the indices before the item. -/
def readDefinitionNow (body : List Byte) : State → Handled :=
  ofLength 3 body fun s =>
    let item := byteAt body 0
    let first := byteAt body 1
    let second := byteAt body 2
    match definitionItem s item first second with
    | some d => done s (.definition item first second d)
    | none => refuse s .badValue

/-! ## The commands -/

/-- RESET (R193); the queue of commands is the model's own and stays. -/
def execReset (strap1 strap2 : Bool) (s : State) : Host.Outcome State Fault Refusal :=
  .next (s.resetNow (strap1, strap2))

/-- READ_STATUS (R195). -/
def execReadStatus (tag : Byte) (body : List Byte) (s : State) : Host.Outcome State Fault Refusal :=
  serve 16#8 tag body (readStatusNow body) s

/-- ENTER_CONFIG (R188). -/
def execEnterConfig (tag : Byte) (body : List Byte) (s : State) : Host.Outcome State Fault Refusal :=
  serve 17#8 tag body (enterConfigNow body) s

/-- ENTER_RUN (R189). -/
def execEnterRun (tag : Byte) (body : List Byte) (s : State) : Host.Outcome State Fault Refusal :=
  serve 18#8 tag body (enterRunNow body) s

/-- STORE_SETTINGS (R192). -/
def execStoreSettings (tag : Byte) (body : List Byte) (s : State) : Host.Outcome State Fault Refusal :=
  serve 19#8 tag body (storeSettingsNow body) s

/-- STORE_COMPLETE (R192): the write ends and is read back. With no write going on there is none to end. -/
def execStoreComplete (agrees : Bool) (s : State) : Host.Outcome State Fault Refusal :=
  let s := s.takeDue
  match s.host.serving, s.host.requests with
  | .storing, r :: _ =>
    let result : Result := if agrees then .done else .storeFailed
    .next ({ s with store := if agrees then some s.defs else none }.modHost fun h =>
      h.answer (.reply r.tag r.kind result .empty))
  | _, _ => .next s

/-- RECALL_SETTINGS (R192). -/
def execRecallSettings (tag : Byte) (body : List Byte) (s : State) : Host.Outcome State Fault Refusal :=
  serve 20#8 tag body (recallSettingsNow body) s

/-- RESTART (R193). -/
def execRestart (tag : Byte) (body : List Byte) (s : State) : Host.Outcome State Fault Refusal :=
  serve 21#8 tag body (restartNow body) s

/-- SET_CLOCK (R194). -/
def execSetClock (tag : Byte) (body : List Byte) (s : State) : Host.Outcome State Fault Refusal :=
  serve 22#8 tag body (setClockNow body) s

/-- SET_REPORTS (R184). -/
def execSetReports (tag : Byte) (body : List Byte) (s : State) : Host.Outcome State Fault Refusal :=
  serve 23#8 tag body (setReportsNow body) s

/-- READ_DEFINITION (R191). -/
def execReadDefinition (tag : Byte) (body : List Byte) (s : State) : Host.Outcome State Fault Refusal :=
  serve 35#8 tag body (readDefinitionNow body) s

end Sys2Proof.Machine
end

