-- ==== Sys2Proof/Machine/Define.lean ====
section
/-! DEFINITION. Define: the DEFINE requests, kinds 24 to 34 (R2, R4, R32, R51, R76, R96, R105, R121, R154, R156, R190).
R187: the BAD FORMAT check first, the mode check next, then the others. The body lengths are those of the layout
convention (log entry 8). -/

namespace Sys2Proof.Machine

/-- R32, R33: a section's definition replaced, its tracker at its starting values. -/
def State.defineSection (s : State) (n : Nat) (d : Option SectionDef) : State :=
  (s.modDefs fun x => { x with sections := alter x.sections n fun _ => d }).modTracker n fun _ => startTracker

/-- R32: DEFINE SECTION. -/
def defineSectionNow (body : List Byte) : State → Handled :=
  ofLength 10 body <| inMode .config fun s => match readSectionDef body with
    | some (n, d) => done (s.defineSection n d) .empty
    | none => refuse s .badValue

/-- R51: DEFINE ZONE. -/
def defineZoneNow (body : List Byte) : State → Handled :=
  ofLength 15 body <| inMode .config fun s => match readZoneDef body with
    | some (n, d) => done (s.modDefs fun x => { x with zones := alter x.zones n fun _ => d }) .empty
    | none => refuse s .badValue

/-- R76: DEFINE STATION. -/
def defineStationNow (body : List Byte) : State → Handled :=
  ofLength 10 body <| inMode .config fun s => match readStationDef body with
    | some (n, d) => done (s.modDefs fun x => { x with stations := alter x.stations n fun _ => d }) .empty
    | none => refuse s .badValue

/-- R2: DEFINE CLASS. -/
def defineClassNow (body : List Byte) : State → Handled :=
  ofLength 14 body <| inMode .config fun s => match readClass body with
    | some (n, d) => done (s.modDefs fun x => { x with classes := alter x.classes n fun _ => d }) .empty
    | none => refuse s .badValue

/-- R4: DEFINE CODE MAP. -/
def defineCodeMapNow (body : List Byte) : State → Handled :=
  ofLength 21 body <| inMode .config fun s => match readCodeMap body with
    | some m => done (s.modDefs fun x => { x with codeMap := m }) .empty
    | none => refuse s .badValue

/-- R96: a ladder's definition replaced. -/
def State.defineLadder (s : State) (n : Nat) (d : Option LadderDef) : State :=
  s.modDefs fun x => { x with ladders := alter x.ladders n fun _ => d }

/-- R96: DEFINE LADDER. -/
def defineLadderNow (body : List Byte) : State → Handled :=
  ofLength 12 body <| inMode .config fun s => match readLadderDef body with
    | some (n, some (d, clamped)) => doneOr clamped (s.defineLadder n (some d)) .empty
    | some (n, none) => done (s.defineLadder n none) .empty
    | none => refuse s .badValue

/-- R105: an equation's definition replaced. -/
def State.defineEquation (s : State) (n : Nat) (d : Option EquationDef) : State :=
  s.modDefs fun x => { x with equations := alter x.equations n fun _ => d }

/-- R105: the body fits its term count. -/
def equationFits (body : List Byte) : Bool :=
  decide (9 ≤ body.length) && decide (body.length = 9 + 5 * byteAt body 8)

/-- R105: DEFINE EQUATION. Its number or its use mark being out of range is reported with a term index the rule does
not state (log entry 6). -/
def defineEquationNow (body : List Byte) (s : State) : Handled :=
  if equationFits body then
    inMode .config (fun s => match readEquation body with
      | .badHead => ⟨s, some (.badValue, .equation (byteAt body 0) (some Config.equationHeadTermIndex))⟩
      | .badTerm i => ⟨s, some (.badValue, .equation (byteAt body 0) (some i))⟩
      | .undefined n => done (s.defineEquation n none) (.equation n none)
      | .defined n e clamped => doneOr clamped (s.defineEquation n (some e)) (.equation n none)) s
  else refuse s .badFormat

/-- R154: a board defined with a depth; it keeps its field definitions. -/
def State.defineBoard (s : State) (b depth : Nat) : State :=
  s.modDefs fun x => { x with boards := alter x.boards b fun _ => some depth }

/-- R154: a board made undefined, with all its fields. -/
def State.undefineBoard (s : State) (b : Nat) : State :=
  s.modDefs fun x => { x with boards := alter x.boards b fun _ => none
                              fields := alter x.fields b fun _ => Vector.replicate 12 none }

/-- R154: DEFINE BOARD. -/
def defineBoardNow (body : List Byte) : State → Handled :=
  ofLength 3 body <| inMode .config fun s =>
    if within 1 8 (byteAt body 0) then
      match readMark (byteAt body 1) with
      | some true =>
        let depth := clamp 4 16 (byteAt body 2)
        doneOr (depth != byteAt body 2) (s.defineBoard (byteAt body 0) depth) .empty
      | some false => done (s.undefineBoard (byteAt body 0)) .empty
      | none => refuse s .badValue
    else refuse s .badValue

/-- R156, R161: a field's definition replaced, its text emptied. -/
def State.defineField (s : State) (b f : Nat) (d : Option FieldDef) : State :=
  (s.modDefs fun x => { x with fields := alter x.fields b fun row => alter row f fun _ => d }).modField b f fun x =>
    { x with text := [] }

/-- R156: DEFINE FIELD. -/
def defineFieldNow (body : List Byte) : State → Handled :=
  ofLength 9 body <| inMode .config fun s =>
    let b := byteAt body 0
    let f := byteAt body 1
    match within 1 8 b && within 1 12 f, readMark (byteAt body 2) with
    | true, some isDefined =>
      if (s.boardDepth b).isNone then refuse s .notFound
      else if isDefined then
        match readFieldDef body with
        | some d => done (s.defineField b f (some d)) .empty
        | none => refuse s .badValue
      else done (s.defineField b f none) .empty
    | _, _ => refuse s .badValue

/-- R190: DEFINE LINKS. -/
def defineLinksNow (body : List Byte) : State → Handled :=
  ofLength 81 body <| inMode .config fun s => match readLinks body with
    | some (l, clamped) => doneOr clamped (s.replaceLinks l) .empty
    | none => refuse s .badValue

/-- R121: DEFINE ACCOUNT. -/
def defineAccountNow (body : List Byte) : State → Handled :=
  ofLength 2 body <| inMode .config fun s => match readAccountDef body with
    | some (n, source) => done (s.modDefs fun x => { x with counting := n, source := source }) .empty
    | none => refuse s .badValue

/-! ## The commands -/

/-- DEFINE_SECTION (R32). -/
def execDefineSection (tag : Byte) (body : List Byte) (s : State) : Host.Outcome State Fault Refusal :=
  serve 24#8 tag body (defineSectionNow body) s

/-- DEFINE_ZONE (R51). -/
def execDefineZone (tag : Byte) (body : List Byte) (s : State) : Host.Outcome State Fault Refusal :=
  serve 25#8 tag body (defineZoneNow body) s

/-- DEFINE_STATION (R76). -/
def execDefineStation (tag : Byte) (body : List Byte) (s : State) : Host.Outcome State Fault Refusal :=
  serve 26#8 tag body (defineStationNow body) s

/-- DEFINE_CLASS (R2). -/
def execDefineClass (tag : Byte) (body : List Byte) (s : State) : Host.Outcome State Fault Refusal :=
  serve 27#8 tag body (defineClassNow body) s

/-- DEFINE_CODE_MAP (R4). -/
def execDefineCodeMap (tag : Byte) (body : List Byte) (s : State) : Host.Outcome State Fault Refusal :=
  serve 28#8 tag body (defineCodeMapNow body) s

/-- DEFINE_LADDER (R96). -/
def execDefineLadder (tag : Byte) (body : List Byte) (s : State) : Host.Outcome State Fault Refusal :=
  serve 29#8 tag body (defineLadderNow body) s

/-- DEFINE_EQUATION (R105). -/
def execDefineEquation (tag : Byte) (body : List Byte) (s : State) : Host.Outcome State Fault Refusal :=
  serve 30#8 tag body (defineEquationNow body) s

/-- DEFINE_BOARD (R154). -/
def execDefineBoard (tag : Byte) (body : List Byte) (s : State) : Host.Outcome State Fault Refusal :=
  serve 31#8 tag body (defineBoardNow body) s

/-- DEFINE_FIELD (R156). -/
def execDefineField (tag : Byte) (body : List Byte) (s : State) : Host.Outcome State Fault Refusal :=
  serve 32#8 tag body (defineFieldNow body) s

/-- DEFINE_LINKS (R190). -/
def execDefineLinks (tag : Byte) (body : List Byte) (s : State) : Host.Outcome State Fault Refusal :=
  serve 33#8 tag body (defineLinksNow body) s

/-- DEFINE_ACCOUNT (R121). -/
def execDefineAccount (tag : Byte) (body : List Byte) (s : State) : Host.Outcome State Fault Refusal :=
  serve 34#8 tag body (defineAccountNow body) s

end Sys2Proof.Machine
end

