-- ==== Sys2Proof/Machine/HostLine.lean ====
section
/-! DEFINITION. HostLine: the bytes and marks of the host line, and the sending of the outbound queue (R183, R185,
R186). -/

namespace Sys2Proof.Machine

/-- R185: the bad-frame counter rises by 1. -/
def HostLink.countBad (h : HostLink) : HostLink := { h with badFrames := saturate 65535 1 h.badFrames }

/-- R183: the host's pause mark: the frame being sent is finished, and no further one begun. -/
def HostLink.pause (h : HostLink) : HostLink := { h with paused := true }

/-- R183: the host's resume mark: the head of the outbound queue, if there is one, begins. -/
def HostLink.resume (h : HostLink) : HostLink :=
  { h with paused := false, sending := h.sending || !h.outbound.isEmpty }

/-- R185: a content that has grown past 245 bytes is discarded at that byte. -/
def HostLink.bounded (h : HostLink) : HostLink :=
  match h.receiver with
  | .inside content _ _ =>
    if Config.contentCapacity < content.length then { h with receiver := .outside }.countBad else h
  | .outside => h

/-- R185: one byte of the host line. -/
def HostLink.hear (h : HostLink) (b : Byte) : HostLink :=
  let r := hostReceive h.receiver b
  let h := { h with receiver := r.1 }
  match r.2 with
  | .nothing => h.bounded
  | .began discarded => if discarded then h.countBad else h
  | .ended content bad => match hostRequest content bad with
    | some q => h.receive q
    | none => h.countBad
  | .flow .pause => h.pause
  | .flow .resume => h.resume

/-- R185: bytes of the host line. -/
def HostLink.line (h : HostLink) (bytes : List Byte) : HostLink := bytes.foldl HostLink.hear h

/-- R185: a line break discards the part of a frame received so far, which is then damaged. -/
def HostLink.lineBreak (h : HostLink) : HostLink :=
  match h.receiver with
  | .inside .. => { h with receiver := .outside }.countBad
  | .outside => h

/-- R183: the frame being sent leaves the queue, and the next begins unless output is paused. -/
def HostLink.frameSent (h : HostLink) : HostLink :=
  if h.sending then
    let left := h.outbound.drop 1
    { h with outbound := left, sending := !h.paused && !left.isEmpty }
  else h

/-! ## The bytes of a frame sent (R151, R184, R185, R187) -/

/-- R187: the code of a result. -/
def Result.code : Result → Byte
  | .done => 0#8
  | .adjusted => 1#8
  | .badFormat => 2#8
  | .badValue => 3#8
  | .wrongMode => 4#8
  | .wrongState => 5#8
  | .notFound => 6#8
  | .full => 7#8
  | .badConfig => 8#8
  | .storeFailed => 9#8
  | .unknownKind => 10#8

/-- R189: the code of a reason of BAD CONFIG. -/
def ConfigReason.code : ConfigReason → Byte
  | .noSection => 1#8
  | .sectionUndefined => 2#8
  | .zoneUndefined => 3#8
  | .ladderUndefined => 4#8
  | .countingSection => 5#8
  | .groupPattern => 6#8
  | .equationOrder => 7#8
  | .fieldReference => 8#8

/-- R184: the kind code of a notice. -/
def NoticeKind.code : NoticeKind → Byte
  | .call => 96#8
  | .sec => 97#8
  | .station => 98#8
  | .board => 99#8
  | .history => 100#8
  | .shift => 101#8
  | .capacity => 102#8
  | .input => 103#8

/-- R184, R187: the tag and the kind of a frame sent. -/
def HostFrame.head : HostFrame → List Byte
  | .reply tag _ _ _ => [tag, 128#8]
  | .notice _ n => [0#8, n.kind.code]

/-- R184, R187: how the body of a frame sent opens: a reply with its request's kind and the result, a notice with the
time of day of its occasion. -/
def HostFrame.opening : HostFrame → List Byte
  | .reply _ kind result _ => [kind, result.code]
  | .notice time _ => bytes3 time

/-- R185: the bytes of a frame sent, from the rest of its body. The spec lays that rest out for FETCH HISTORY alone, so
the model leaves it open otherwise (log entry 16). -/
def HostFrame.bytes (f : HostFrame) (rest : List Byte) : List Byte :=
  frameBytes (f.head ++ [BitVec.ofNat 8 (f.opening.length + rest.length)] ++ f.opening ++ rest)

/-- R150, R151: the reply body of FETCH HISTORY: the head of six bytes and the records. -/
def historyBody (count oldest newest : Nat) (records : List HistoryRecord) : List Byte :=
  [BitVec.ofNat 8 count] ++ bytes2 oldest ++ bytes2 newest ++ [BitVec.ofNat 8 records.length]
    ++ records.flatMap HistoryRecord.bytes

/-! ## The commands -/

/-- HOST_FRAME_RECEIVED (R185): the bytes up to and with an end mark. -/
def execHostFrameReceived (line : List Byte) (s : State) : Host.Outcome State Fault Refusal :=
  .next (s.takeDue.modHost fun h => h.line line)

/-- HOST_LINE_BREAK (R185): these bytes, then a line break. -/
def execHostLineBreak (line : List Byte) (s : State) : Host.Outcome State Fault Refusal :=
  .next (s.takeDue.modHost fun h => (h.line line).lineBreak)

/-- HOST_PAUSE_MARK (R183). -/
def execHostPauseMark (s : State) : Host.Outcome State Fault Refusal := .next (s.takeDue.modHost HostLink.pause)

/-- HOST_RESUME_MARK (R183). -/
def execHostResumeMark (s : State) : Host.Outcome State Fault Refusal := .next (s.takeDue.modHost HostLink.resume)

/-- OUTBOUND_FRAME_SENT (R183). -/
def execOutboundFrameSent (s : State) : Host.Outcome State Fault Refusal :=
  .next (s.takeDue.modHost HostLink.frameSent)

/-- REPLY_ENTERS_OUTBOUND (R183, R186). -/
def execReplyEntersOutbound (s : State) : Host.Outcome State Fault Refusal := .next s.takeReply

/-- HOST_START_MARK_INSIDE_FRAME (R185): these bytes, then an unescaped start mark. -/
def execHostStartMarkInsideFrame (line : List Byte) (s : State) : Host.Outcome State Fault Refusal :=
  .next (s.takeDue.modHost fun h => h.line (line ++ [startMark]))

/-- HOST_CONTENT_PAST_245_BYTES (R185): the bytes up to the one that makes the content too long. -/
def execHostContentPast245Bytes (line : List Byte) (s : State) : Host.Outcome State Fault Refusal :=
  .next (s.takeDue.modHost fun h => h.line line)

end Sys2Proof.Machine
end

