-- ==== Sys2Proof/Machine/Loop.lean ====
section
/-! DEFINITION. Loop: the station loop controllers: polling and announcements (R78, R90), the replies and the five ends
of a poll (R79–R84), the events of a STATUS (R3, R8–R11, R64, R85–R87), and the commands of this family. -/

namespace Sys2Proof.Machine

/-! ## Sending (R78, R90) -/

/-- R78: the station at an address of a loop is one that a cycle of this count polls. -/
def toPoll (s : State) (l : LoopId) (cycle a : Nat) : Bool :=
  (s.stationDef (stationAt l a)).isSome && ((pick s.stations (stationAt l a)).state != .offline || cycle == 0)

/-- R78: the lowest address to be polled above the last one polled in the cycle. -/
def nextAddress (s : State) (l : LoopId) (cycle : Nat) (last : Option Nat) : Option Nat :=
  (numbers 48).find? fun a => decide (last.getD 0 < a) && toPoll s l cycle a

/-- R78: the loop has a defined station. -/
def loopUsed (s : State) (l : LoopId) : Bool := (numbers 48).any fun a => (s.stationDef (stationAt l a)).isSome

/-- R90 step 1: the GROUP SET of a zone owed. -/
def zoneFrame (s : State) (l : LoopId) (z : Nat) : List LoopFrame := match s.zoneDef z with
  | some d => [.groupSet d.pattern d.mask (pick (s.loop l).announcements z)]
  | none => []

/-- R90 step 2: the GROUP SET of a station owed. -/
def stationFrame (s : State) (l : LoopId) (n : Nat) : List LoopFrame := match s.stationDef n with
  | some d => [.groupSet (addressOf n) 63 (pick (s.loop l).announcements d.zone)]
  | none => []

/-- R90: the pending announcements, with one APPLY, if there are any. -/
def pendingFrames (s : State) (l : LoopId) : List LoopFrame :=
  let owed := (s.loop l).zonesOwed.flatMap (zoneFrame s l) ++ (s.loop l).stationsOwed.flatMap (stationFrame s l)
  if (s.loop l).zonesOwed.isEmpty && (s.loop l).stationsOwed.isEmpty then [] else owed ++ [.apply]

/-- R78, R88: the POLL of a station, with the values as they stand. -/
def pollFrame (s : State) (n : Nat) : LoopFrame :=
  let x := pick s.stations n
  .poll (addressOf n) x.ackThrough x.rejected x.lamp

/-- R78, R90: the pending announcements sent, the two sets then empty. A loop with no defined station sends nothing. -/
def State.sendPending (s : State) (l : LoopId) : State :=
  match loopUsed s l, pendingFrames s l with
  | true, f :: fs => s.modLoop l fun x => { x with zonesOwed := [], stationsOwed := [], sent := f :: fs }
  | _, _ => s

/-- R78: the pending announcements and a POLL sent to an address; the poll is outstanding. -/
def State.sendPoll (s : State) (l : LoopId) (a : Nat) : State :=
  let frames := pendingFrames s l ++ [pollFrame s (stationAt l a)]
  s.modLoop l fun x =>
    { x with last := some a, polled := some (stationAt l a), started := false, receiver := .outside
             zonesOwed := [], stationsOwed := [], sent := frames }

/-- R78: the cycle ends and the next begins, with no address polled. -/
def State.endCycle (s : State) (l : LoopId) : State :=
  s.modLoop l fun x => { x with cycle := wrap 7 x.cycle, last := none }

/-- R78: the next step of a loop that has no poll outstanding. Where no address is left the cycle ends; where the next
cycle has none either, it runs idle, and the pending announcements are sent at its start (DEDUCED, log entry 13). -/
def State.pollStep (s : State) (l : LoopId) : State :=
  match nextAddress s l (s.loop l).cycle (s.loop l).last with
  | some a => s.sendPoll l a
  | none =>
    if (s.loop l).last.isNone then s
    else
      let t := s.endCycle l
      match nextAddress t l (t.loop l).cycle none with
      | some a => t.sendPoll l a
      | none => t.sendPending l

/-- R78: the loop runs a cycle in which no station is to be polled, as one with no defined station always does. -/
def idleCycle (s : State) (l : LoopId) : Bool :=
  (s.loop l).polled.isNone && (s.loop l).last.isNone && (nextAddress s l (s.loop l).cycle none).isNone

/-- R78: an idle cycle ends; the pending announcements are sent at the start of a further idle one (DEDUCED, log entry
13). -/
def State.endIdleCycle (s : State) (l : LoopId) : State :=
  let t := s.endCycle l
  if idleCycle t l then t.sendPending l else t

/-! ## A station's state (R80, R82–R84) -/

/-- R94: a STATION notice on a change from the state before. -/
def State.stationNotice (s : State) (n : Nat) (before : StationState) : State :=
  let x := pick s.stations n
  s.notify (.station n (loopOf n) (addressOf n) before x.state x.misses (stationCalls s n))

/-- R83: a station becomes ONLINE from UNKNOWN or OFFLINE. -/
def State.becomeOnline (s : State) (n : Nat) : State :=
  let before := (pick s.stations n).state
  let s := s.modStation n fun x => { x with state := .online }
  let s := if before = .offline then s.handOn [.station n] else s
  let s := s.modLoop (loopOf n) fun x => { x with stationsOwed := insertAscending n x.stationsOwed }
  s.stationNotice n before

/-- R83: the station heard is made ONLINE if it is not. -/
def State.heardFrom (s : State) (n : Nat) : State :=
  if (pick s.stations n).state = .online then s else s.becomeOnline n

/-- R84: a station goes OFFLINE. -/
def State.goOffline (s : State) (n : Nat) : State :=
  let before := (pick s.stations n).state
  let s := s.modStation n fun x =>
    { x with state := .offline, missRun := 0, holdRun := 0, ackThrough := none, rejected := false }
  let s := s.modLoop (loopOf n) fun x => { x with stationsOwed := x.stationsOwed.erase n }
  let s := ((s.handOn [.station n]).dropOrphans n).clearWaiting n
  s.stationNotice n before

/-- R80: a miss. -/
def State.miss (s : State) (n : Nat) : State :=
  let s := s.modStation n fun x => { x with misses := saturate 65535 1 x.misses }
  if (pick s.stations n).state = .offline then s
  else if (pick s.stations n).missRun + 1 < (loopSettings s (loopOf n)).missLimit then
    s.modStation n fun x => { x with missRun := x.missRun + 1 }
  else s.goOffline n

/-- R82: a HOLD. -/
def State.takeHold (s : State) (n : Nat) : State :=
  if (pick s.stations n).holdRun + 1 < 8 then
    (s.modStation n fun x =>
      { x with holdRun := x.holdRun + 1, goodReplies := saturate 65535 1 x.goodReplies }).heardFrom n
  else (s.modStation n fun x => { x with holdRun := 0 }).miss n

/-! ## Events (R3, R8–R11, R64, R85, R86) -/

/-- R3: the exact entry matches a code. -/
def ExactEntry.covers (e : ExactEntry) (code : Nat) : Bool := e.inUse && e.code == code

/-- R3: the range entry matches a code. -/
def RangeEntry.covers (e : RangeEntry) (code : Nat) : Bool := e.inUse && within e.low e.high code

/-- R3: the class the code map gives a code, if any. -/
def CodeMap.classOf (m : CodeMap) (code : Nat) : Option Nat :=
  match m.exact.find? fun e => e.covers code with
  | some e => some e.cls
  | none => match m.ranges.find? fun e => e.covers code with
    | some e => some e.cls
    | none => m.unmatched

/-- R1: the class is a stopping class. -/
def stopping (s : State) (cls : Nat) : Bool := (s.classDef cls).stop != .none

/-- R11, R18–R20, R87: a CALL event of a class. -/
def State.takeCall (s : State) (n cls : Nat) : State × Verdict :=
  match callFrom s (.station n) cls with
  | some c => ((s.repeatCall c).clearWaiting n, .accepted)
  | none =>
    if hasRoom s cls then
      let waited := if stopping s cls then (pick s.stations n).waiting else none
      let zone := match s.stationDef n with
        | some d => d.zone
        | none => 0
      ((s.createCall (.station n) cls zone waited).clearWaiting n, .accepted)
    else (if stopping s cls then s.markWaiting n else s, .refused)

/-- R9: the call a selector names among those of the station; a selector of no class finds none (log entry 15). -/
def selected (s : State) (n selector : Nat) : Option Call :=
  if selector = 15 then (callsOfStation s n).head?
  else if within 1 8 selector then callFrom s (.station n) selector
  else none

/-- R64: a RESTART event of the station. -/
def State.takeRestart (s : State) (n : Nat) : State × Verdict :=
  let sec := sectionOfStation s n
  let leader := match s.stationDef n with
    | some d => d.leader
    | none => false
  if leader && !heldOtherwise s sec && (pick s.stops sec).pending then (s.giveRestart sec, .accepted)
  else (s, .rejected)

/-- R9, R14–R16: what an ANSWER, CARRY or CLEAR does to the call its selector finds. -/
def State.takeSelected (s : State) (n selector : Nat) (act : State → Call → State) : State × Verdict :=
  match selected s n selector with
  | some c => (act s c, .accepted)
  | none => (s, .rejected)

/-- R8, R86: one event of a station, with its verdict. -/
def State.takeEvent (s : State) (n : Nat) (e : Event) : State × Verdict :=
  match e.kind with
  | .call => match s.defs.codeMap.classOf e.operand with
    | some cls => s.takeCall n cls
    | none => (s.clearWaiting n, .rejected)
  | .answer => s.takeSelected n e.operand State.answerCall
  | .carry => s.takeSelected n e.operand fun s c => if carriable s c then s.carryCall c else s
  | .clear => s.takeSelected n e.operand fun s c => s.closeCall .cleared true c
  | .restart => s.takeRestart n

/-- R85: an event of this sequence is new against the running value. -/
def isNew (running : Option Nat) (seq : Nat) : Bool := match running with
  | none => true
  | some r => within 1 4 ((seq + 8 - r) % 8)

/-- R86: the station's rejected events counter rises by 1. -/
def State.countRejected (s : State) (n : Nat) : State :=
  s.modStation n fun x => { x with rejectedEvents := saturate 65535 1 x.rejectedEvents }

/-- R85, R86: the walk through the events, with the running value and whether an event taken was rejected. `all` says that
every event is new. -/
def walkEvents (n : Nat) (all : Bool) : List Event → Option Nat → Bool → State → State × Option Nat × Bool
  | [], running, rejected, s => (s, running, rejected)
  | e :: rest, running, rejected, s =>
    if all || isNew running e.seq then
      match s.takeEvent n e with
      | (t, .accepted) => walkEvents n all rest (some e.seq) rejected t
      | (t, .rejected) => walkEvents n all rest (some e.seq) true (t.countRejected n)
      | (t, .refused) => (t, running, rejected)
    else walkEvents n all rest running rejected s

/-- R81, R85, R86: a good STATUS. After OFFLINE or UNKNOWN the acknowledgement is absent. In that STATUS R25, R83 and the
last sentence of R85 take every event as new, where R85's walk would judge the second against the first: where its
sequence does not follow (against R74), the model takes it all the same (DESIGN CHOICE, log entry 22). -/
def State.takeStatus (s : State) (n : Nat) (events : List Event) : State :=
  let running := if (pick s.stations n).state = .online then (pick s.stations n).ackThrough else none
  let s := s.modStation n fun x =>
    { x with goodReplies := saturate 65535 1 x.goodReplies, missRun := 0, holdRun := 0 }
  let walked := walkEvents n running.isNone events running false (s.heardFrom n)
  walked.1.modStation n fun x => { x with ackThrough := walked.2.1, rejected := walked.2.2 }

/-! ## Receiving (R72, R79) -/

/-- R79: the outstanding poll has ended. -/
def State.endPoll (s : State) (l : LoopId) : State :=
  s.modLoop l fun x => { x with polled := none, started := false, receiver := .outside }

/-- R79: a frame that has ended while a poll of station n is outstanding. -/
def State.judgeReply (s : State) (l : LoopId) (n : Nat) (content : List Byte) (bad : Bool) : State :=
  let s := s.endPoll l
  match readLoopFrame content bad with
  | some (.status a events) => if a = addressOf n then s.takeStatus n events else s.miss n
  | some (.hold a) => if a = addressOf n then s.takeHold n else s.miss n
  | none => s.miss n

/-- R72, R79: one byte on a loop. Bytes are disregarded while no poll is outstanding. -/
def State.loopByte (l : LoopId) (s : State) (b : Byte) : State :=
  match (s.loop l).polled with
  | none => s
  | some n =>
    let r := loopReceive (s.loop l).receiver b
    match r.2 with
    | .ended content bad => s.judgeReply l n content bad
    | .began _ => s.modLoop l fun x => { x with receiver := r.1, started := true }
    | _ => s.modLoop l fun x => { x with receiver := r.1 }

/-- R72: bytes on a loop. -/
def State.loopLine (s : State) (l : LoopId) (line : List Byte) : State := line.foldl (State.loopByte l) s

/-! ## The commands -/

/-- POLL_SENT (R78): a loop with no poll outstanding takes the next step of its cycle. -/
def execPollSent (l : LoopId) (s : State) : Host.Outcome State Fault Refusal :=
  let s := s.takeDue
  .next (if s.mode = .run ∧ (s.loop l).polled = none then s.pollStep l else s)

/-- IDLE_CYCLE_END (R78). -/
def execIdleCycleEnd (l : LoopId) (s : State) : Host.Outcome State Fault Refusal :=
  let s := s.takeDue
  .next (if s.mode = .run ∧ idleCycle s l = true then s.endIdleCycle l else s)

/-- STATUS_RECEIVED (R81): the bytes of a STATUS. -/
def execStatusReceived (l : LoopId) (line : List Byte) (s : State) : Host.Outcome State Fault Refusal :=
  .next (s.takeDue.loopLine l line)

/-- HOLD_RECEIVED (R82): the bytes of a HOLD. -/
def execHoldReceived (l : LoopId) (line : List Byte) (s : State) : Host.Outcome State Fault Refusal :=
  .next (s.takeDue.loopLine l line)

/-- LOOP_BAD_REPLY (R79): the bytes of a bad, foreign or unexpected frame. -/
def execLoopBadReply (l : LoopId) (line : List Byte) (s : State) : Host.Outcome State Fault Refusal :=
  .next (s.takeDue.loopLine l line)

/-- LOOP_LINE_BREAK (R72): the bytes before the break are heard, and the part of a frame received so far is
discarded; the poll stays outstanding (DESIGN CHOICE, log entry 11). -/
def execLoopLineBreak (l : LoopId) (line : List Byte) (s : State) : Host.Outcome State Fault Refusal :=
  .next ((s.takeDue.loopLine l line).modLoop l fun x => { x with receiver := .outside })

/-- POLL_RESPONSE_TIMEOUT (R79): no start mark has come within the response timeout. -/
def execPollResponseTimeout (l : LoopId) (s : State) : Host.Outcome State Fault Refusal :=
  let s := s.takeDue
  match (s.loop l).polled, (s.loop l).started with
  | some n, false => .next ((s.endPoll l).miss n)
  | _, _ => .next s

/-- LOOP_REPLY_FRAME_TIMEOUT (R79): the frame begun has not ended within 64 character times of its start mark. -/
def execLoopReplyFrameTimeout (l : LoopId) (s : State) : Host.Outcome State Fault Refusal :=
  let s := s.takeDue
  match (s.loop l).polled, (s.loop l).started with
  | some n, true => .next ((s.endPoll l).miss n)
  | _, _ => .next s

end Sys2Proof.Machine
end

