-- ==== Sys2Proof/Machine/Calls.lean ====
section
/-! DEFINITION. Calls: the requests of the call table and of stop logic, kinds 48 to 53 (R28–R30, R44, R65). -/

namespace Sys2Proof.Machine

/-- R28: the reply body of RAISE CALL, from the record of a number. -/
def raisedBody (s : State) (isNew : Bool) (number : Nat) : ReplyBody := match s.callOf number with
  | some c => .callRaised isNew number c.state c.zone
  | none => .empty

/-- R28: a call raised for an origin tag, in a defined zone. -/
def raiseCall (tag cls zone : Nat) (s : State) : Handled :=
  match callFrom s (.tag tag) cls with
  | some c =>
    let s := s.repeatCall c
    done s (raisedBody s false c.number)
  | none =>
    if hasRoom s cls then
      let s := s.createCall (.tag tag) cls zone none
      done s (raisedBody s true s.lastNumber)
    else refuse s .full

/-- R28: RAISE CALL. -/
def raiseCallNow (body : List Byte) : State → Handled :=
  ofLength 3 body <| inMode .run fun s =>
    if within 1 32 (byteAt body 0) && within 1 8 (byteAt body 1) && within 1 24 (byteAt body 2) then
      if (s.zoneDef (byteAt body 2)).isSome then raiseCall (byteAt body 0) (byteAt body 1) (byteAt body 2) s
      else refuse s .notFound
    else refuse s .badValue

/-- R29: one action applied to a standing call. -/
def actOn (c : Call) (a : CallAction) (s : State) : Handled :=
  match a with
  | .answer => done (s.answerCall c) (.callActed c.number c.state)
  | .carry => if carriable s c then done (s.carryCall c) (.callActed c.number .carried) else refuse s .wrongState
  | .clear => done (s.closeCall .cleared true c) (.callClosed c.number .cleared)
  | .cancel => done (s.closeCall .cancelled true c) (.callClosed c.number .cancelled)

/-- R29: ACT ON CALL. -/
def actOnCallNow (body : List Byte) : State → Handled :=
  ofLength 3 body <| inMode .run fun s =>
    match within 1 9999 (wordAt body 0), readAction (byteAt body 2) with
    | true, some a => match s.callOf (wordAt body 0) with
      | some c => actOn c a s
      | none => refuse s .notFound
    | _, _ => refuse s .badValue

/-- R65: RESTART SECTION of a defined section. -/
def restartGiven (n : Nat) (s : State) : Handled :=
  if heldOtherwise s n then refuse s .wrongState
  else
    let was := (pick s.stops n).pending
    let s := if was then s.giveRestart n else s
    done s (.restarted n (pick s.stops n).request was)

/-- R65: RESTART SECTION; its mode check stands after NOT FOUND. -/
def restartSectionNow (body : List Byte) : State → Handled :=
  ofLength 1 body fun s =>
    if within 1 4 (byteAt body 0) then
      if (s.sectionDef (byteAt body 0)).isSome then inMode .run (restartGiven (byteAt body 0)) s
      else refuse s .notFound
    else refuse s .badValue

/-! ## Reading -/

/-- R30: a record at a rank within the scope. -/
def callReport (s : State) (rank : Nat) (c : Call) : CallReport :=
  { rank := rank, number := c.number, origin := c.origin, cls := c.cls, zone := c.zone, sec := c.sec
    state := c.state, raised := c.raised, answered := c.answered, firstHold := c.firstHold, distance := c.distance
    holdRank := holdRank s c, heldTime := c.heldTime, level := c.level, timer := c.timer, repeats := c.repeats
    carried := c.carried }

/-- R30: the bytes of a record in the reply (log entry 4). -/
def CallReport.size (r : CallReport) : Nat :=
  Config.callEntryBytes
    [r.answered.isSome, r.firstHold.isSome, r.distance.isSome, r.holdRank.isSome, r.timer.isSome]

/-- R150: the records taken one after another up to the first that would carry a reply body of `used` bytes beyond
238. -/
def takeFitting {α : Type} (size : α → Nat) (used : Nat) : List α → List α
  | [] => []
  | r :: rest =>
    if used + size r ≤ Config.replyListBytes then r :: takeFitting size (used + size r) rest else []

/-- R30: READ CALLS. -/
def readCallsNow (body : List Byte) : State → Handled :=
  ofLength 3 body fun s =>
    match readScope (byteAt body 0) (byteAt body 1), within 1 64 (byteAt body 2) with
    | some scope, true =>
      let start := byteAt body 2
      let all := callsInScope s scope
      let wanted := ((all.drop (start - 1)).take 16).mapIdx fun i c => callReport s (start + i) c
      done s (.calls all.length start (takeFitting CallReport.size Config.callHeadBytes wanted))
    | _, _ => refuse s .badValue

/-- R44: the report of a defined section. -/
def sectionReport (s : State) (n : Nat) (d : SectionDef) : SectionReport :=
  let x := pick s.stops n
  { definition := d, tracker := pick s.trackers n
    syncLevel := sensorLevel s d.syncInput, passLevel := sensorLevel s d.passInput
    runInLevel := sensorLevel s d.runInput, runLevel := runLevel s n
    request := x.request, overflow := x.overflow, pending := x.pending, holding := x.holdOrder.length
    armed := (s.calls.filter fun c => c.sec == n && c.distance.isSome).length
    coast := x.coast, unattributed := x.unattributed }

/-- R44: READ SECTION. -/
def readSectionNow (body : List Byte) : State → Handled :=
  ofLength 1 body fun s =>
    if within 1 4 (byteAt body 0) then
      match s.sectionDef (byteAt body 0) with
      | some d => done s (.sec (sectionReport s (byteAt body 0) d))
      | none => refuse s .notFound
    else refuse s .badValue

/-! ## The commands -/

/-- RAISE_CALL (R28). -/
def execRaiseCall (tag : Byte) (body : List Byte) (s : State) : Host.Outcome State Fault Refusal :=
  serve 48#8 tag body (raiseCallNow body) s

/-- ACT_ON_CALL (R29). -/
def execActOnCall (tag : Byte) (body : List Byte) (s : State) : Host.Outcome State Fault Refusal :=
  serve 49#8 tag body (actOnCallNow body) s

/-- RESTART_SECTION (R65). -/
def execRestartSection (tag : Byte) (body : List Byte) (s : State) : Host.Outcome State Fault Refusal :=
  serve 51#8 tag body (restartSectionNow body) s

/-- READ_CALLS (R30). -/
def execReadCalls (tag : Byte) (body : List Byte) (s : State) : Host.Outcome State Fault Refusal :=
  serve 52#8 tag body (readCallsNow body) s

/-- READ_SECTION (R44). -/
def execReadSection (tag : Byte) (body : List Byte) (s : State) : Host.Outcome State Fault Refusal :=
  serve 53#8 tag body (readSectionNow body) s

end Sys2Proof.Machine
end

