-- ==== Sys2Proof/Machine/Panels.lean ====
section
/-! DEFINITION. Panels: the requests on flags, texts, stations, boards and history, kinds 56 to 62 (R93, R114, R150,
R152, R169, R180, R181). -/

namespace Sys2Proof.Machine

/-! ## Flags and texts -/

/-- R113: the flag is owned by a defined equation. -/
def flagOwned (s : State) (f : Nat) : Bool := (numbers 48).any fun i => match s.equationDef i with
  | some e => e.target == .flag f
  | none => false

/-- R114: a host flag takes a value; a change is handed to the equation unit. -/
def State.setFlag (s : State) (f : Nat) (value : Bool) : State :=
  if pick s.flags f = value then s
  else { s with flags := alter s.flags f fun _ => value }.handOn [.flag f]

/-- R114: SET FLAG; its mode check stands after the ranges. -/
def setFlagNow (body : List Byte) : State → Handled :=
  ofLength 2 body fun s =>
    match within 1 32 (byteAt body 0), readMark (byteAt body 1) with
    | true, some value =>
      inMode .run (fun s =>
        if flagOwned s (byteAt body 0) then refuse s .badValue
        else done (s.setFlag (byteAt body 0) value) (.flag (byteAt body 0) value)) s
    | _, _ => refuse s .badValue

/-- R169: the body fits its text length, which is at most 232. -/
def textFits (body : List Byte) : Bool :=
  decide (3 ≤ body.length) && body.length == 3 + byteAt body 2 && decide (byteAt body 2 ≤ 232)

/-- R169: a field's text replaced, and the field recomposed. -/
def State.setText (s : State) (b f : Nat) (t : Text) : State :=
  recomposeField (s.modField b f fun x => { x with text := t }) b f

/-- R155: the field is of kind TEXT. -/
def FieldKind.isText : FieldKind → Bool
  | .text => true
  | _ => false

/-- R169: SET TEXT. -/
def setTextNow (body : List Byte) (s : State) : Handled :=
  if textFits body then
    let b := byteAt body 0
    let f := byteAt body 1
    if within 1 8 b && within 1 12 f then
      inMode .run (fun s => match s.fieldDef b f with
        | none => refuse s .notFound
        | some d =>
          if d.kind.isText then
            let kept := textAt body 3 (min 32 (byteAt body 2))
            doneOr (decide (32 < byteAt body 2)) (s.setText b f kept) (.text b f kept.length)
          else refuse s .badValue) s
    else refuse s .badValue
  else refuse s .badFormat

/-! ## Stations -/

/-- R93: the summary of a loop. -/
def loopReport (s : State) (l : LoopId) : LoopReport :=
  { settings := loopSettings s l, cycle := (s.loop l).cycle, online := stationsIn s l .online
    unknown := stationsIn s l .unknown, offline := stationsIn s l .offline }

/-- R93: the entry of a station; none for an undefined one. -/
def stationEntry (s : State) (n : Nat) : Nat × Option StationReport :=
  (n, (s.stationDef n).map fun d =>
    { loop := loopOf n, address := addressOf n, definition := d, record := pick s.stations n
      calls := stationCalls s n })

/-- R93: the bytes of an entry in the reply (log entry 4). -/
def stationEntrySize (e : Nat × Option StationReport) : Nat :=
  Config.stationEntryBytes (e.2.map fun r => [r.record.ackThrough.isSome, r.record.waiting.isSome])

/-- R93: the entries of a run of `count` stations from the first on. -/
def stationRun (s : State) (first count : Nat) : List (Nat × Option StationReport) :=
  takeFitting stationEntrySize Config.stationHeadBytes
    (((numbers 96).filter fun n => decide (first ≤ n) && decide (n < first + count)).map (stationEntry s))

/-- R93: the counters of a station set to 0. -/
def State.clearStation (s : State) (n : Nat) : State :=
  s.modStation n fun x => { x with goodReplies := 0, misses := 0, rejectedEvents := 0 }

/-- R93: READ STATIONS. -/
def readStationsNow (body : List Byte) : State → Handled :=
  ofLength 3 body fun s =>
    match within 1 96 (byteAt body 0) && within 1 16 (byteAt body 1), readMark (byteAt body 2) with
    | true, some clear =>
      let entries := stationRun s (byteAt body 0) (byteAt body 1)
      done (if clear then (entries.map (·.1)).foldl State.clearStation s else s)
        (.stations (loopReport s .a) (loopReport s .b) entries)
    | _, _ => refuse s .badValue

/-! ## Boards -/

/-- R181: the frame in flight: its board, its field (none for a PROBE) and its attempt count. R173 gives attempt counts to
queued frames alone: that of a PROBE is reported as a free value (log entry 20). -/
def Flight.report (s : State) : Flight → Nat × Option Nat × Nat
  | .field b fr _ => (b, some fr.field, fr.attempts)
  | .probe b => (b, none, Config.probeAttempts b (pick s.boards b).timeoutRun)

/-- R181: the link part of the reply. -/
def linkReport (s : State) : LinkReport :=
  { responseMs := s.defs.links.boardResponseMs, position := s.link.position
    inFlight := s.link.inFlight.map (Flight.report s) }

/-- R181: the entry of a board; none for an undefined one. -/
def boardEntry (s : State) (b : Nat) : Nat × Option BoardReport :=
  (b, (s.boardDepth b).map fun depth =>
    let x := pick s.boards b
    { number := b, state := x.state, toggle := x.toggle, timeoutRun := x.timeoutRun, retry := pick s.defs.links.retry b
      probeTimer := x.probeTimer, probeDue := x.probeDue, depth := depth, queued := x.queue.length
      head := x.queue.head?.map fun fr => (fr.field, fr.attempts)
      reconfirms := (x.queue.filter fun fr => fr.reconfirm).length, owed := x.owed, clearing := x.clearing
      marked := ((pick s.fields b).toList.filter fun f => f.marked).length, lastOutcome := x.lastOutcome
      lastRefusal := x.lastRefusal, delivered := x.delivered, refused := x.refused, failed := x.failed })

/-- R181: the counters of every board set to 0. -/
def State.clearBoards (s : State) : State :=
  { s with boards := alterAll s.boards fun _ x => { x with delivered := 0, refused := 0, failed := 0 } }

/-- R181: READ BOARDS. -/
def readBoardsNow (body : List Byte) : State → Handled :=
  ofLength 1 body fun s => match readMark (byteAt body 0) with
    | some clear =>
      done (if clear then s.clearBoards else s) (.boards (linkReport s) ((numbers 8).map (boardEntry s)))
    | none => refuse s .badValue

/-- R180: a board refreshed, its last outcome FLUSHED. -/
def State.flushBoard (s : State) (b : Nat) : State :=
  (s.refreshBoard b).modBoard b fun x => { x with lastOutcome := some .flushed }

/-- R180: FLUSH BOARD; its mode check stands after the range. -/
def flushBoardNow (body : List Byte) : State → Handled :=
  ofLength 1 body fun s =>
    let b := byteAt body 0
    if within 1 8 b then
      inMode .run (fun s =>
        if (s.boardDepth b).isSome then
          done (s.flushBoard b) (.flushed b (pick s.boards b).state (pick s.boards b).queue.length)
        else refuse s .notFound) s
    else refuse s .badValue

/-! ## History -/

/-- R150: the bytes of a FETCH HISTORY reply body before its first record: the count, the oldest and the newest
sequence in two bytes each, and the number of records. -/
def historyHeadBytes : Nat := 6

/-- R150: FETCH HISTORY. -/
def fetchHistoryNow (body : List Byte) : State → Handled :=
  ofLength 1 body fun s =>
    if within 1 8 (byteAt body 0) then
      done s (.history s.history.length (oldestSeq s) (newestSeq s)
        (takeFitting (fun r => r.bytes.length) historyHeadBytes (s.history.take (byteAt body 0))))
    else refuse s .badValue

/-- R152: how many records a release through the sequence removes, if that sequence is present. -/
def releaseCount (s : State) (seq : Nat) : Option Nat :=
  let place := (seq + 65536 - oldestSeq s) % 65536
  if place < s.history.length then some (place + 1) else none

/-- R152: the oldest records removed; the stale timer is removed with the last. -/
def State.releaseRecords (s : State) (k : Nat) : State :=
  let kept := s.history.drop k
  { s with history := kept, staleTimer := if kept.isEmpty then none else s.staleTimer }

/-- R152: the reply body after a release of k records. -/
def releasedBody (s : State) (k : Nat) : ReplyBody := .released k s.history.length (oldestSeq s) (newestSeq s)

/-- R152: RELEASE HISTORY. -/
def releaseHistoryNow (body : List Byte) : State → Handled :=
  ofLength 2 body <| inMode .run fun s => match releaseCount s (wordAt body 0) with
    | some k => done (s.releaseRecords k) (releasedBody (s.releaseRecords k) k)
    | none => ⟨s, some (.notFound, releasedBody s 0)⟩

/-! ## The commands -/

/-- SET_FLAG (R114). -/
def execSetFlag (tag : Byte) (body : List Byte) (s : State) : Host.Outcome State Fault Refusal :=
  serve 56#8 tag body (setFlagNow body) s

/-- SET_TEXT (R169). -/
def execSetText (tag : Byte) (body : List Byte) (s : State) : Host.Outcome State Fault Refusal :=
  serve 57#8 tag body (setTextNow body) s

/-- READ_STATIONS (R93). -/
def execReadStations (tag : Byte) (body : List Byte) (s : State) : Host.Outcome State Fault Refusal :=
  serve 58#8 tag body (readStationsNow body) s

/-- READ_BOARDS (R181). -/
def execReadBoards (tag : Byte) (body : List Byte) (s : State) : Host.Outcome State Fault Refusal :=
  serve 59#8 tag body (readBoardsNow body) s

/-- FETCH_HISTORY (R150). -/
def execFetchHistory (tag : Byte) (body : List Byte) (s : State) : Host.Outcome State Fault Refusal :=
  serve 60#8 tag body (fetchHistoryNow body) s

/-- RELEASE_HISTORY (R152). -/
def execReleaseHistory (tag : Byte) (body : List Byte) (s : State) : Host.Outcome State Fault Refusal :=
  serve 61#8 tag body (releaseHistoryNow body) s

/-- FLUSH_BOARD (R180). -/
def execFlushBoard (tag : Byte) (body : List Byte) (s : State) : Host.Outcome State Fault Refusal :=
  serve 62#8 tag body (flushBoardNow body) s

end Sys2Proof.Machine
end

