-- ==== Sys2Proof/Machine/Shift.lean ====
section
/-! DEFINITION. Shift: the shift and account requests, kinds 40 to 45 (R122–R140). R122: BAD FORMAT, then BAD VALUE,
then WRONG MODE, then WRONG STATE; only then are values clamped. -/

namespace Sys2Proof.Machine

/-- R122: the checks of the mode and of a running shift. -/
def withShift (handle : Shift → State → Handled) : State → Handled :=
  inMode .run fun s =>
    match s.shift with
    | some sh => if s.shiftState = .none then refuse s .wrongState else handle sh s
    | none => refuse s .wrongState

/-! ## START SHIFT (R123, R124) -/

/-- R123: a period with its length clamped into 1–600 minutes. -/
def clampPeriod (p : Period) : Period := { p with minutes := clamp 1 600 p.minutes }

/-- R124: the shift as it begins with a plan, its takt and its volume. -/
def newShift (plan : List Period) (takt volume now : Nat) : Shift :=
  { plan := plan, index := some 1, remaining := some ((plan.head?.map (·.minutes)).getD 0 * 600), start := now
    takt := takt, volume := volume, worked := 0, target := 0, fraction := 0, actual := 0
    andonStop := Vector.replicate 4 0, otherStop := Vector.replicate 4 0 }

/-- R124: the shift state of a plan's first period. -/
def firstState (plan : List Period) : ShiftState := match plan.head? with
  | some p => p.kind.toShift
  | none => .none

/-- R124: a shift begins. -/
def State.beginShift (s : State) (plan : List Period) (takt volume : Nat) : State :=
  let s := { s with shift := some (newShift plan takt volume s.timeOfDay), shiftState := firstState plan
                    stops := alterAll s.stops fun _ x => { x with unattributed := 0 } }
  s.shiftChanged.shiftNotice .start

/-- R123: the planned working time, in tenths. -/
def plannedTenths (plan : List Period) : Nat :=
  ((plan.filter fun p => p.kind == .work).map fun p => p.minutes * 600).sum

/-- R123: the body fits its period count. -/
def planFits (body : List Byte) : Bool := !body.isEmpty && body.length == 3 * byteAt body 0 + 5

/-- R123: START SHIFT. -/
def startShiftNow (body : List Byte) (s : State) : Handled :=
  if planFits body then
    match readPlan body with
    | none => refuse s .badValue
    | some asked =>
      inMode .run (fun s =>
        if s.shiftState = .none then
          let place := 3 * byteAt body 0 + 1
          let plan := asked.map clampPeriod
          let takt := clamp 300 3000 (wordAt body place)
          let volume := clamp 0 9999 (wordAt body (place + 2))
          doneOr (plan != asked || takt != wordAt body place || volume != wordAt body (place + 2))
            (s.beginShift plan takt volume)
            (.shiftStarted (firstState plan) plan.length (plannedTenths plan) takt volume)
        else refuse s .wrongState) s
  else refuse s .badFormat

/-! ## END SHIFT (R136–R138) -/

/-- R138: the section entries, one for each defined section. -/
def sectionEntries (s : State) (sh : Shift) : List SectionEntry :=
  ((numbers 4).filter fun n => (s.sectionDef n).isSome).map fun n =>
    ⟨n, pick sh.andonStop n, (pick s.stops n).unattributed, pick sh.otherStop n⟩

/-- R138: the SHIFT CLOSED record. -/
def shiftRecord (s : State) (sh : Shift) : HistoryEntry :=
  .shiftClosed { start := sh.start, finish := s.timeOfDay, worked := sh.worked, volume := sh.volume, takt := sh.takt
                 target := sh.target, actual := sh.actual, entries := sectionEntries s sh }

/-- R136: the running shift closed. The END notice carries the figures just frozen (R139). -/
def State.finishShift (s : State) (sh : Shift) : State :=
  let report := { shiftReport s.shiftState sh with state := .none }
  let s := { s with previous := some (freeze s.shiftState sh s.timeOfDay) }.appendRecord (shiftRecord s sh)
  let s := { s with shiftState := .none, shift := none }.shiftChanged
  s.notify (.shift .ended report)

/-- R136: END SHIFT. -/
def endShiftNow (body : List Byte) : State → Handled :=
  ofLength 0 body <| withShift fun sh s =>
    done (s.finishShift sh) (.shiftEnded (freeze s.shiftState sh s.timeOfDay))

/-! ## SET TAKT, SET VOLUME, CORRECT ACTUAL (R130, R134, R135) -/

/-- R134: the shift with a new takt. -/
def Shift.setTakt (sh : Shift) (t : Nat) : Shift :=
  { sh with takt := t, fraction := if t ≤ sh.fraction then t - 1 else sh.fraction }

/-- R134: SET TAKT. -/
def setTaktNow (body : List Byte) : State → Handled :=
  ofLength 2 body <| withShift fun sh s =>
    let takt := clamp 300 3000 (wordAt body 0)
    let sh := sh.setTakt takt
    doneOr (takt != wordAt body 0) ({ s with shift := some sh }.recompose FieldKind.readsAccount)
      (.takt sh.takt sh.fraction sh.target)

/-- R135: the shift with a new plan volume. -/
def Shift.setVolume (sh : Shift) (v : Nat) : Shift :=
  { sh with volume := v, target := min sh.target v, fraction := if v ≤ sh.target then 0 else sh.fraction }

/-- R141, R131: the running shift replaced, and its receivers told. -/
def State.replaceShift (s : State) (sh : Shift) : State :=
  ({ s with shift := some sh }.handBehind s).recompose FieldKind.readsAccount

/-- R135: SET VOLUME. -/
def setVolumeNow (body : List Byte) : State → Handled :=
  ofLength 2 body <| withShift fun sh s =>
    let volume := clamp 0 9999 (wordAt body 0)
    let sh := sh.setVolume volume
    doneOr (volume != wordAt body 0) (s.replaceShift sh) (.volume sh.volume sh.target sh.fraction)

/-- R130: the amount clamped into −99 to +99. -/
def clampAmount (a : Int) : Int := max (-99) (min 99 a)

/-- R130: the actual after a correction, clamped into 0–9,999. -/
def corrected (actual : Nat) (amount : Int) : Nat := min 9999 ((actual : Int) + amount).toNat

/-- R130: CORRECT ACTUAL. -/
def correctActualNow (body : List Byte) : State → Handled :=
  ofLength 2 body <| withShift fun sh s =>
    let amount := clampAmount (signedAt body 0)
    let after := corrected sh.actual amount
    doneOr (amount != signedAt body 0 || (after : Int) != (sh.actual : Int) + amount)
      (s.replaceShift { sh with actual := after }) (.corrected amount sh.actual after)

/-! ## READ ACCOUNT (R140) -/

/-- R140: the current-shift group. -/
def currentReport (s : State) (sh : Shift) : CurrentReport :=
  { shift := sh, kind := (runningPeriod sh).map (·.kind), delta := delta sh.actual sh.target
    attainment := attainment sh.actual sh.target, plannedLeft := plannedLeft s.shiftState sh
    projection := projection s.shiftState sh, unattributed := s.stops.toList.map (·.unattributed) }

/-- R140: READ ACCOUNT. -/
def readAccountNow (body : List Byte) : State → Handled :=
  ofLength 0 body fun s =>
    done s (.account s.shiftState s.defs.counting s.defs.source (s.shift.map (currentReport s)) s.previous)

/-! ## The commands -/

/-- START_SHIFT (R123, R124). -/
def execStartShift (tag : Byte) (body : List Byte) (s : State) : Host.Outcome State Fault Refusal :=
  serve 40#8 tag body (startShiftNow body) s

/-- END_SHIFT (R136). -/
def execEndShift (tag : Byte) (body : List Byte) (s : State) : Host.Outcome State Fault Refusal :=
  serve 41#8 tag body (endShiftNow body) s

/-- SET_TAKT (R134). -/
def execSetTakt (tag : Byte) (body : List Byte) (s : State) : Host.Outcome State Fault Refusal :=
  serve 42#8 tag body (setTaktNow body) s

/-- SET_VOLUME (R135). -/
def execSetVolume (tag : Byte) (body : List Byte) (s : State) : Host.Outcome State Fault Refusal :=
  serve 43#8 tag body (setVolumeNow body) s

/-- CORRECT_ACTUAL (R130). -/
def execCorrectActual (tag : Byte) (body : List Byte) (s : State) : Host.Outcome State Fault Refusal :=
  serve 44#8 tag body (correctActualNow body) s

/-- READ_ACCOUNT (R140). -/
def execReadAccount (tag : Byte) (body : List Byte) (s : State) : Host.Outcome State Fault Refusal :=
  serve 45#8 tag body (readAccountNow body) s

end Sys2Proof.Machine
end

