-- ==== Sys2Proof/Machine/Time.lean ====
section
/-! DEFINITION. Time: the tick and what it makes due (R67, R98, R112, R126–R128, R148, R168, R179, R194), the blink
sources (R102), and the commands of this family. -/

namespace Sys2Proof.Machine

/-- A timer lowered by one tick. -/
def lower (t : Option Nat) : Option Nat := t.map (· - 1)

/-- The greatest count of tenths that the controller's times hold. -/
def maxTenths : Nat := 999999

/-- R67: a tick attributed at one section. -/
def State.attribute (s : State) (n : Nat) : State :=
  let x := pick s.stops n
  if x.request then
    match x.holdOrder with
    | first :: _ => s.modCall first fun c => { c with heldTime := saturate maxTenths 1 c.heldTime }
    | [] => s.modStop n fun x => { x with unattributed := saturate maxTenths 1 x.unattributed }
  else s

/-- R98: the escalation timers lowered, unless the shift state is PAUSE. -/
def State.lowerEscalation (s : State) : State :=
  if s.shiftState = .pause then s else { s with calls := s.calls.map fun c => { c with timer := lower c.timer } }

/-- R128: the section's andon-stop time rises. -/
def andonStops (s : State) (n : Nat) : Bool := (s.sectionDef n).isSome && (pick s.stops n).request

/-- R128: the section's other-stop time rises. -/
def otherStops (s : State) (n : Nat) : Bool :=
  (s.sectionDef n).isSome && !(pick s.stops n).request && runLevel s n == some false

/-- R127, R128: a shift after one tick of working time. A fraction that fills the takt stands there until its unit is
taken (R127, log entry 1). -/
def accrued (s : State) (sh : Shift) : Shift :=
  { sh with
    worked := saturate maxTenths 1 sh.worked
    fraction := if sh.target < sh.volume then sh.fraction + 1 else sh.fraction
    andonStop := alterAll sh.andonStop fun n t => if andonStops s n then saturate maxTenths 1 t else t
    otherStop := alterAll sh.otherStop fun n t => if otherStops s n then saturate maxTenths 1 t else t }

/-- R126, R127: the running shift after a tick. -/
def State.accrue (s : State) : State :=
  match s.shiftState with
  | .none => s
  | .work => s.modShift fun sh => { accrued s sh with remaining := lower sh.remaining }
  | .pause => s.modShift fun sh => { sh with remaining := lower sh.remaining }
  | .overtime => s.modShift (accrued s)

/-- R112, R168, R179: the delay timers, the refresh timer and the probe timers lowered, in RUN. -/
def State.lowerRunTimers (s : State) : State :=
  if s.mode = .run then
    { s with equations := alterAll s.equations fun _ e => { e with timer := lower e.timer }
             refreshTimer := lower s.refreshTimer
             boards := alterAll s.boards fun _ b => { b with probeTimer := lower b.probeTimer } }
  else s

/-- R163: the fields a tick recomposes: with the account's figures in WORK and OVERTIME, the SHIFT fields in PAUSE. -/
def State.composeTick (s : State) : State :=
  match s.shiftState with
  | .none => s
  | .pause => if periodDue s then s else s.recompose FieldKind.isShift
  | _ => s.composeAccount

/-- R67, R98, R112, R126–R128, R148, R168, R179, R194: one tick. -/
def State.tick (s : State) : State :=
  let s := ((numbers 4).foldl State.attribute s).lowerEscalation.accrue.lowerRunTimers
  { s with staleTimer := lower s.staleTimer, tenths := s.tenths + 1 }.composeTick

/-- R102: one turn of the FAST source; every fourth turns SLOW with it (DESIGN CHOICE for the count, log entry 14). -/
def State.blinkTurn (s : State) : State :=
  let turnsSlow := decide (3 ≤ s.blinkPhase)
  { s with blinkFast := !s.blinkFast, blinkSlow := s.blinkSlow != turnsSlow
           blinkPhase := if turnsSlow then 0 else s.blinkPhase + 1 }.handOn [.blink]

/-! ## The commands -/

/-- TICK (R194). -/
def execTick (s : State) : Host.Outcome State Fault Refusal := .next s.takeDue.tick

/-- TARGET_UNIT_DUE (R127). -/
def execTargetUnitDue (s : State) : Host.Outcome State Fault Refusal := .next s.takeTarget

/-- PERIOD_END (R126). -/
def execPeriodEnd (s : State) : Host.Outcome State Fault Refusal := .next s.takePeriod

/-- SECOND_ROLLOVER (R194). -/
def execSecondRollover (s : State) : Host.Outcome State Fault Refusal := .next s.takeSecond

/-- BLINK_TURN (R102). -/
def execBlinkTurn (s : State) : Host.Outcome State Fault Refusal := .next s.takeDue.blinkTurn

/-- ESCALATION_TIMER_EXPIRY (R98, R99). -/
def execEscalationTimerExpiry (s : State) : Host.Outcome State Fault Refusal := .next s.takeEscalation

/-- EQUATION_DELAY_EXPIRY (R112). -/
def execEquationDelayExpiry (s : State) : Host.Outcome State Fault Refusal := .next s.takeDelays

/-- STALE_TIMER_EXPIRY (R148). -/
def execStaleTimerExpiry (s : State) : Host.Outcome State Fault Refusal := .next s.takeStale

/-- REFRESH_TIMER_EXPIRY (R168). -/
def execRefreshTimerExpiry (s : State) : Host.Outcome State Fault Refusal := .next s.takeRefresh

/-- PROBE_TIMER_EXPIRY (R179). -/
def execProbeTimerExpiry (b : Nat) (s : State) : Host.Outcome State Fault Refusal :=
  if within 1 8 b then .next (s.takeProbe b) else .fault (.noSuchLine b)

end Sys2Proof.Machine
end

