-- ==== Sys2Proof/Machine/Dispatch.lean ====
section
/-! DEFINITION. Dispatch: one arm for each command. -/

namespace Sys2Proof.Machine

/-- The effect of a command on everything but the queue of commands. -/
def exec (i : Instr) (s : State) : Host.Outcome State Fault Refusal :=
  match i with
  | .reset strap1 strap2 => Sys2Proof.Machine.execReset strap1 strap2 s
  | .readStatus tag body => Sys2Proof.Machine.execReadStatus tag body s
  | .enterConfig tag body => Sys2Proof.Machine.execEnterConfig tag body s
  | .enterRun tag body => Sys2Proof.Machine.execEnterRun tag body s
  | .storeSettings tag body => Sys2Proof.Machine.execStoreSettings tag body s
  | .storeComplete agrees => Sys2Proof.Machine.execStoreComplete agrees s
  | .recallSettings tag body => Sys2Proof.Machine.execRecallSettings tag body s
  | .restart tag body => Sys2Proof.Machine.execRestart tag body s
  | .setClock tag body => Sys2Proof.Machine.execSetClock tag body s
  | .setReports tag body => Sys2Proof.Machine.execSetReports tag body s
  | .defineSection tag body => Sys2Proof.Machine.execDefineSection tag body s
  | .defineZone tag body => Sys2Proof.Machine.execDefineZone tag body s
  | .defineStation tag body => Sys2Proof.Machine.execDefineStation tag body s
  | .defineClass tag body => Sys2Proof.Machine.execDefineClass tag body s
  | .defineCodeMap tag body => Sys2Proof.Machine.execDefineCodeMap tag body s
  | .defineLadder tag body => Sys2Proof.Machine.execDefineLadder tag body s
  | .defineEquation tag body => Sys2Proof.Machine.execDefineEquation tag body s
  | .defineBoard tag body => Sys2Proof.Machine.execDefineBoard tag body s
  | .defineField tag body => Sys2Proof.Machine.execDefineField tag body s
  | .defineLinks tag body => Sys2Proof.Machine.execDefineLinks tag body s
  | .defineAccount tag body => Sys2Proof.Machine.execDefineAccount tag body s
  | .readDefinition tag body => Sys2Proof.Machine.execReadDefinition tag body s
  | .startShift tag body => Sys2Proof.Machine.execStartShift tag body s
  | .endShift tag body => Sys2Proof.Machine.execEndShift tag body s
  | .setTakt tag body => Sys2Proof.Machine.execSetTakt tag body s
  | .setVolume tag body => Sys2Proof.Machine.execSetVolume tag body s
  | .correctActual tag body => Sys2Proof.Machine.execCorrectActual tag body s
  | .readAccount tag body => Sys2Proof.Machine.execReadAccount tag body s
  | .raiseCall tag body => Sys2Proof.Machine.execRaiseCall tag body s
  | .actOnCall tag body => Sys2Proof.Machine.execActOnCall tag body s
  | .restartSection tag body => Sys2Proof.Machine.execRestartSection tag body s
  | .readCalls tag body => Sys2Proof.Machine.execReadCalls tag body s
  | .readSection tag body => Sys2Proof.Machine.execReadSection tag body s
  | .setFlag tag body => Sys2Proof.Machine.execSetFlag tag body s
  | .setText tag body => Sys2Proof.Machine.execSetText tag body s
  | .readStations tag body => Sys2Proof.Machine.execReadStations tag body s
  | .readBoards tag body => Sys2Proof.Machine.execReadBoards tag body s
  | .fetchHistory tag body => Sys2Proof.Machine.execFetchHistory tag body s
  | .releaseHistory tag body => Sys2Proof.Machine.execReleaseHistory tag body s
  | .flushBoard tag body => Sys2Proof.Machine.execFlushBoard tag body s
  | .unknownKind tag kind body => Sys2Proof.Machine.execUnknownKind tag kind body s
  | .hostFrameReceived line => Sys2Proof.Machine.execHostFrameReceived line s
  | .hostLineBreak line => Sys2Proof.Machine.execHostLineBreak line s
  | .hostPauseMark => Sys2Proof.Machine.execHostPauseMark s
  | .hostResumeMark => Sys2Proof.Machine.execHostResumeMark s
  | .outboundFrameSent => Sys2Proof.Machine.execOutboundFrameSent s
  | .replyEntersOutbound => Sys2Proof.Machine.execReplyEntersOutbound s
  | .tick => Sys2Proof.Machine.execTick s
  | .targetUnitDue => Sys2Proof.Machine.execTargetUnitDue s
  | .periodEnd => Sys2Proof.Machine.execPeriodEnd s
  | .secondRollover => Sys2Proof.Machine.execSecondRollover s
  | .blinkTurn => Sys2Proof.Machine.execBlinkTurn s
  | .escalationTimerExpiry => Sys2Proof.Machine.execEscalationTimerExpiry s
  | .equationDelayExpiry => Sys2Proof.Machine.execEquationDelayExpiry s
  | .staleTimerExpiry => Sys2Proof.Machine.execStaleTimerExpiry s
  | .refreshTimerExpiry => Sys2Proof.Machine.execRefreshTimerExpiry s
  | .probeTimerExpiry board => Sys2Proof.Machine.execProbeTimerExpiry board s
  | .encoderForwardPulse sec => Sys2Proof.Machine.execEncoderForwardPulse sec s
  | .encoderReversePulse sec => Sys2Proof.Machine.execEncoderReversePulse sec s
  | .stopDistanceExpiry sec => Sys2Proof.Machine.execStopDistanceExpiry sec s
  | .rawInputChange input level => Sys2Proof.Machine.execRawInputChange input level s
  | .inputDebounceExpiry input => Sys2Proof.Machine.execInputDebounceExpiry input s
  | .pollSent loop => Sys2Proof.Machine.execPollSent loop s
  | .idleCycleEnd loop => Sys2Proof.Machine.execIdleCycleEnd loop s
  | .statusReceived loop line => Sys2Proof.Machine.execStatusReceived loop line s
  | .holdReceived loop line => Sys2Proof.Machine.execHoldReceived loop line s
  | .loopBadReply loop line => Sys2Proof.Machine.execLoopBadReply loop line s
  | .loopLineBreak loop line => Sys2Proof.Machine.execLoopLineBreak loop line s
  | .pollResponseTimeout loop => Sys2Proof.Machine.execPollResponseTimeout loop s
  | .loopReplyFrameTimeout loop => Sys2Proof.Machine.execLoopReplyFrameTimeout loop s
  | .boardFrameSent => Sys2Proof.Machine.execBoardFrameSent s
  | .boardAckReceived line => Sys2Proof.Machine.execBoardAckReceived line s
  | .boardRefuseReceived line => Sys2Proof.Machine.execBoardRefuseReceived line s
  | .probeAckReceived line => Sys2Proof.Machine.execProbeAckReceived line s
  | .boardBadReply line => Sys2Proof.Machine.execBoardBadReply line s
  | .boardLineBreak line => Sys2Proof.Machine.execBoardLineBreak line s
  | .boardResponseTimeout => Sys2Proof.Machine.execBoardResponseTimeout s
  | .boardReplyFrameTimeout => Sys2Proof.Machine.execBoardReplyFrameTimeout s
  | .hostStartMarkInsideFrame line => Sys2Proof.Machine.execHostStartMarkInsideFrame line s
  | .hostContentPast245 line => Sys2Proof.Machine.execHostContentPast245Bytes line s

end Sys2Proof.Machine
end

