-- ==== Sys2Proof/Machine/Step.lean ====
section
/-! DEFINITION. Step: the command at the front of the queue is taken; on an empty queue what is due is taken, and
otherwise the block idles (log entry 1). -/

namespace Sys2Proof.Machine

/-- One step. -/
def step (s : State) : Host.Outcome State Fault Refusal :=
  match s.pending with
  | c :: rest => exec c { s with pending := rest }
  | [] => .next s.takeDue

/-- The state with the command that a word spells put at the front of its queue; no row of the table has bits, so no
word spells one. -/
def State.withFetchWord (s : State) (nbits w : Nat) : State :=
  match decodeTableWord nbits w with
  | some c => { s with pending := c :: s.pending }
  | none => s

end Sys2Proof.Machine
end

