-- ==== Sys2Proof/WellFormed.lean ====
section
/-! DEFINITION. WellFormed: the commands that spell an event or a request of the controller: numbers in their ranges,
bodies a host frame can carry, and bytes that make the event the row names. -/

namespace Sys2Proof

open Machine

/-- What a receiver makes of a line heard from outside a frame: the frames that ended, each with its content and
whether it was already bad, and the receiver at the end. -/
def heardBy (receive : Receiver → Byte → Receiver × Heard) (line : List Byte) : List (List Byte × Bool) × Receiver :=
  line.foldl (fun acc b =>
    let r := receive acc.2 b
    match r.2 with
    | .ended content bad => (acc.1 ++ [(content, bad)], r.1)
    | _ => (acc.1, r.1)) ([], .outside)

/-- The line holds one frame, which ends with it; what `read` makes of it satisfies `p`. -/
def oneFrame {α : Type} (receive : Receiver → Byte → Receiver × Heard) (read : List Byte → Bool → α) (p : α → Bool)
    (line : List Byte) : Bool :=
  match heardBy receive line with
  | ([(content, bad)], .outside) => p (read content bad)
  | _ => false

/-- The line holds no end of a frame. -/
def noFrame (receive : Receiver → Byte → Receiver × Heard) (line : List Byte) : Bool :=
  (heardBy receive line).1.isEmpty

/-- A good STATUS. -/
def isStatus : Option LoopReply → Bool
  | some (.status ..) => true
  | _ => false

/-- A good HOLD. -/
def isHold : Option LoopReply → Bool
  | some (.hold _) => true
  | _ => false

/-- A good ACK. -/
def isAck : Option BoardReply → Bool
  | some (.ack ..) => true
  | _ => false

/-- A good REFUSE. -/
def isRefuse : Option BoardReply → Bool
  | some (.refuse ..) => true
  | _ => false

/-- The length of the content received so far. -/
def contentLength : Receiver → Nat
  | .inside content _ _ => content.length
  | .outside => 0

/-- R185: the body is one that a host frame can carry. -/
def bodyFits (body : List Byte) : Bool := decide (body.length ≤ Config.bodyCapacity)

/-- The command spells an event or a request of the controller. -/
def Instr.wellFormed : Instr → Bool
  | .reset _ _ => true
  | .readStatus _ body => bodyFits body
  | .enterConfig _ body => bodyFits body
  | .enterRun _ body => bodyFits body
  | .storeSettings _ body => bodyFits body
  | .storeComplete _ => true
  | .recallSettings _ body => bodyFits body
  | .restart _ body => bodyFits body
  | .setClock _ body => bodyFits body
  | .setReports _ body => bodyFits body
  | .defineSection _ body => bodyFits body
  | .defineZone _ body => bodyFits body
  | .defineStation _ body => bodyFits body
  | .defineClass _ body => bodyFits body
  | .defineCodeMap _ body => bodyFits body
  | .defineLadder _ body => bodyFits body
  | .defineEquation _ body => bodyFits body
  | .defineBoard _ body => bodyFits body
  | .defineField _ body => bodyFits body
  | .defineLinks _ body => bodyFits body
  | .defineAccount _ body => bodyFits body
  | .readDefinition _ body => bodyFits body
  | .startShift _ body => bodyFits body
  | .endShift _ body => bodyFits body
  | .setTakt _ body => bodyFits body
  | .setVolume _ body => bodyFits body
  | .correctActual _ body => bodyFits body
  | .readAccount _ body => bodyFits body
  | .raiseCall _ body => bodyFits body
  | .actOnCall _ body => bodyFits body
  | .restartSection _ body => bodyFits body
  | .readCalls _ body => bodyFits body
  | .readSection _ body => bodyFits body
  | .setFlag _ body => bodyFits body
  | .setText _ body => bodyFits body
  | .readStations _ body => bodyFits body
  | .readBoards _ body => bodyFits body
  | .fetchHistory _ body => bodyFits body
  | .releaseHistory _ body => bodyFits body
  | .flushBoard _ body => bodyFits body
  | .unknownKind _ kind body => decide (kind.toNat ∉ requestKinds) && bodyFits body
  | .hostFrameReceived line => oneFrame hostReceive hostRequest (fun _ => true) line
  | .hostLineBreak line => noFrame hostReceive line
  | .hostPauseMark => true
  | .hostResumeMark => true
  | .outboundFrameSent => true
  | .replyEntersOutbound => true
  | .tick => true
  | .targetUnitDue => true
  | .periodEnd => true
  | .secondRollover => true
  | .blinkTurn => true
  | .escalationTimerExpiry => true
  | .equationDelayExpiry => true
  | .staleTimerExpiry => true
  | .refreshTimerExpiry => true
  | .probeTimerExpiry board => within 1 8 board
  | .encoderForwardPulse sec => within 1 4 sec
  | .encoderReversePulse sec => within 1 4 sec
  | .stopDistanceExpiry sec => within 1 4 sec
  | .rawInputChange input _ => within 1 16 input
  | .inputDebounceExpiry input => within 1 16 input
  | .pollSent _ => true
  | .idleCycleEnd _ => true
  | .statusReceived _ line => oneFrame loopReceive readLoopFrame isStatus line
  | .holdReceived _ line => oneFrame loopReceive readLoopFrame isHold line
  | .loopBadReply _ line => oneFrame loopReceive readLoopFrame (fun _ => true) line
  | .loopLineBreak _ line => noFrame loopReceive line
  | .pollResponseTimeout _ => true
  | .loopReplyFrameTimeout _ => true
  | .boardFrameSent => true
  | .boardAckReceived line => oneFrame loopReceive readBoardFrame isAck line
  | .boardRefuseReceived line => oneFrame loopReceive readBoardFrame isRefuse line
  | .probeAckReceived line => oneFrame loopReceive readBoardFrame isAck line
  | .boardBadReply line => oneFrame loopReceive readBoardFrame (fun _ => true) line
  | .boardLineBreak line => noFrame loopReceive line
  | .boardResponseTimeout => true
  | .boardReplyFrameTimeout => true
  | .hostStartMarkInsideFrame line =>
    noFrame hostReceive line && (heardBy hostReceive line).2 != .outside
  | .hostContentPast245 line =>
    noFrame hostReceive line && decide (contentLength (heardBy hostReceive line).2 = Config.contentCapacity + 1)

end Sys2Proof
end

