-- ==== Sys2Proof/Safety.lean ====
section
/-! DEFINITION. Safety: the terms that statements about the machine use: a state at rest, a request at its turn, the
state after a reply, and the invariants the spec's rules give. -/

namespace Sys2Proof.Machine

/-- R186: the request is at its turn in a state where nothing is due, and its reply finds room. -/
def atTurn (kind tag : Byte) (body : List Byte) (s : State) : Prop :=
  settled s = true ∧ s.host.turn ⟨tag, kind, body⟩ = true ∧ s.host.outbound.length < Config.outboundCapacity
    ∧ body.length ≤ Config.bodyCapacity

/-- R186: the host link with the request among those queued while it is served. -/
def HostLink.holding (h : HostLink) (kind tag : Byte) (body : List Byte) : HostLink :=
  if h.requests.isEmpty then h.receive ⟨tag, kind, body⟩ else h

/-- R183, R186: the host link after a request has been answered, where handling it sent nothing else. -/
def HostLink.answered (h : HostLink) (kind tag : Byte) (body : List Byte) (result : Result) (reply : ReplyBody) :
    HostLink :=
  (h.holding kind tag body).answer (.reply tag kind result reply)

/-- R183, R186: the request was answered as the last frame of the outbound queue, after the notices its handling sent,
and has left the request queue. -/
def answeredLast (kind tag : Byte) (result : Result) (reply : ReplyBody) (s t : State) : Prop :=
  (∃ notices, t.host.outbound = s.host.outbound ++ notices ++ [.reply tag kind result reply])
    ∧ t.host.requests = s.host.requests.drop 1 ∧ t.host.serving = .free

/-- R30, R93, R150: `got` is the longest run from the start of `whole` that a reply body of 238 bytes holds after a head of
`head` bytes. -/
def longestRun {α : Type} (size : α → Nat) (head : Nat) (whole got : List α) : Prop :=
  got <+: whole ∧ (got ≠ [] → head + (got.map size).sum ≤ 238)
    ∧ ∀ x, whole[got.length]? = some x → 238 < head + (got.map size).sum + size x

/-- R93: the entries that READ STATIONS has to list: up to `count` stations from `first` on, to station 96. -/
def stationsWanted (s : State) (first count : Nat) : List (Nat × Option StationReport) :=
  (List.range' first (min count (97 - first))).map (stationEntry s)

/-- The states agree on all but the host link. -/
def sameButHost (s t : State) : Prop := t = { s with host := t.host }

/-- R107, R163, R183: the states agree on all but what a change is shown in. The equation unit and its outputs may
differ; of a board, its queue and its refresh owed; of a field, its last content; of the host link, its two queues and
what the sending and receiving of frames change. -/
def sameButShown (s t : State) : Prop :=
  t = { s with equations := t.equations, flags := t.flags, relays := t.relays, tunes := t.tunes
               boards := t.boards, fields := t.fields, host := t.host }
    ∧ (∀ b, 1 ≤ b → b ≤ 8 → pick t.boards b =
        { pick s.boards b with queue := (pick t.boards b).queue, owed := (pick t.boards b).owed })
    ∧ (∀ b f, 1 ≤ b → b ≤ 8 → 1 ≤ f → f ≤ 12 → pick (pick t.fields b) f =
        { pick (pick s.fields b) f with last := (pick (pick t.fields b) f).last })
    ∧ t.host = { s.host with
        requests := t.host.requests, serving := t.host.serving, outbound := t.host.outbound
        sending := t.host.sending, selfPaused := t.host.selfPaused, lastMark := t.host.lastMark
        lostNotices := t.host.lostNotices }

/-- The bytes of an ASCII text. -/
def bytesOf (text : String) : Text := text.toList.map fun c => BitVec.ofNat 8 c.toNat

/-- R89: the announcements of the defined zones from s to t, in RUN. A zone whose section's stop request, or with the
shift state any zone, has changed has on both loops the text of the state it is now in, and is owed on a loop where that
text is another than before and the zone has a defined station there. The other zones keep their texts, and are owed as
before. -/
def zonesAnnounced (s t : State) : Prop :=
  s.mode = .run → ∀ (l : LoopId) (z : Nat) (d : ZoneDef), 1 ≤ z → z ≤ 24 → s.zoneDef z = some d → 1 ≤ d.sec →
    d.sec ≤ 4 →
    (t.shiftState ≠ s.shiftState ∨ (pick t.stops d.sec).request ≠ (pick s.stops d.sec).request →
      pick (t.loop l).announcements z =
        (if (pick t.stops d.sec).request = true then bytesOf "STOP"
        else if t.shiftState = .pause then bytesOf "PAUS" else List.replicate 4 0x20#8)
      ∧ (z ∈ (t.loop l).zonesOwed ↔ z ∈ (s.loop l).zonesOwed
        ∨ (pick (t.loop l).announcements z ≠ pick (s.loop l).announcements z
          ∧ ∃ n x, 1 ≤ n ∧ n ≤ 96 ∧ loopOf n = l ∧ s.stationDef n = some x ∧ x.zone = z)))
    ∧ (t.shiftState = s.shiftState → (pick t.stops d.sec).request = (pick s.stops d.sec).request →
      pick (t.loop l).announcements z = pick (s.loop l).announcements z
      ∧ (z ∈ (t.loop l).zonesOwed ↔ z ∈ (s.loop l).zonesOwed))

/-- R89: of the loops, the zone announcements and the zones owed alone have changed, as R89 has them change. -/
def loopsAnnounce (s t : State) : Prop :=
  (∀ l, t.loop l = { s.loop l with
    announcements := (t.loop l).announcements, zonesOwed := (t.loop l).zonesOwed }) ∧ zonesAnnounced s t

/-- R6: the standing calls with the record of c's number replaced. -/
def withRecord (s : State) (c now : Call) : List Call := s.calls.map fun x => if x.number = c.number then now else x

/-- R26, R88: of the stations, the lamp of the origin of c alone has been recomputed. -/
def lampFollows (c : Call) (s t : State) : Prop :=
  ∀ n, 1 ≤ n → n ≤ 96 → pick t.stations n =
    if c.origin = .station n then { pick s.stations n with lamp := lampOf t n } else pick s.stations n

/-- R59, R61: the hold order of section n ends with one call more, which asserts the stop request: the coast count is 0 if
the request was released. The other sections are unchanged. -/
def holdEntered (n number : Nat) (s t : State) : Prop :=
  ∀ m, 1 ≤ m → m ≤ 4 → pick t.stops m =
    if m = n then { pick s.stops m with
      holdOrder := (pick s.stops m).holdOrder ++ [number], request := true
      coast := if (pick s.stops m).request then (pick s.stops m).coast else 0 }
    else pick s.stops m

/-- R143, R146: the history queue with these records appended in order, each with the next sequence, the oldest dropped
beyond 128 and counted. -/
def recordsAppended (es : List HistoryEntry) (s t : State) : Prop :=
  t.history = (s.history ++ es.mapIdx fun i e => { seq := (s.nextSeq + i) % 65536, entry := e : HistoryRecord }).drop
      (s.history.length + es.length - 128)
    ∧ t.nextSeq = (s.nextSeq + es.length) % 65536
    ∧ t.overflowCount = min 255 (s.overflowCount + (s.history.length + es.length - 128))

/-- R144: the CALL CLOSED record of a call that is closed as the state stands. -/
def closingOf (s : State) (outcome : Closing) (c : Call) : HistoryEntry :=
  .callClosed
    { number := c.number, origin := c.origin, cls := c.cls, zone := c.zone, sec := c.sec, raised := c.raised
      answered := c.answered, firstHold := c.firstHold, closed := s.timeOfDay, outcome := outcome, level := c.level
      repeats := c.repeats, heldTime := c.heldTime, carried := c.carried }

/-- R15: the record of a call that a CARRY has made CARRIED. -/
def carriedNow (s : State) (c : Call) : Call :=
  { c with
    state := .carried, distance := none, carried := true, answered := some (c.answered.getD s.timeOfDay)
    timer := if c.answered = none ∧ (ladderOf s c.cls).map (·.basis) = some .unanswered then none else c.timer }

/-- R58, R61, R62: the call c has left its section's hold order: restart pending is set if no cause is left in a MANUAL
section, and the stop request stands exactly with its causes. The other sections are unchanged. -/
def holdLeft (c : Call) (s t : State) : Prop :=
  (∀ n, 1 ≤ n → n ≤ 4 → n ≠ c.sec → pick t.stops n = pick s.stops n)
    ∧ (1 ≤ c.sec → c.sec ≤ 4 →
      (pick t.stops c.sec).holdOrder = (pick s.stops c.sec).holdOrder.erase c.number
      ∧ (pick t.stops c.sec).overflow = (pick s.stops c.sec).overflow
      ∧ (pick t.stops c.sec).waiting = (pick s.stops c.sec).waiting
      ∧ (pick t.stops c.sec).unattributed = (pick s.stops c.sec).unattributed
      ∧ (pick t.stops c.sec).coast = (if (pick s.stops c.sec).request = false ∧ (pick t.stops c.sec).request = true
          then 0 else (pick s.stops c.sec).coast)
      ∧ ((pick t.stops c.sec).pending = true ↔ (pick s.stops c.sec).pending = true
        ∨ ((pick t.stops c.sec).holdOrder = [] ∧ (pick s.stops c.sec).overflow = false
          ∧ ∃ d, s.sectionDef c.sec = some d ∧ d.restart = .manual))
      ∧ ((pick t.stops c.sec).request = true ↔ (pick t.stops c.sec).holdOrder ≠ []
        ∨ (pick t.stops c.sec).overflow = true ∨ (pick t.stops c.sec).pending = true))

/-- R79: the poll of a station has ended. -/
def pollEnded (s : State) (l : LoopId) : State :=
  s.modLoop l fun x => { x with polled := none, started := false, receiver := .outside }

/-- R79, R81: the poll of station n has ended with a good STATUS, its events not yet taken and its last verdict
ACCEPTED. -/
def statusHeard (s : State) (l : LoopId) (n : Nat) : State :=
  (pollEnded s l).modStation n fun x => { x with
    goodReplies := min 65535 (x.goodReplies + 1), missRun := 0, holdRun := 0, rejected := false }

/-- R86: station n has its event of this sequence acknowledged; its lamp follows its calls, and the other stations are
as they were. -/
def eventAcknowledged (heard t : State) (n seq : Nat) : Prop :=
  ∀ m, 1 ≤ m → m ≤ 96 → pick t.stations m =
    if m = n then { pick heard.stations m with ackThrough := some seq, lamp := (pick t.stations m).lamp }
    else pick heard.stations m

/-- R62, R63: a "stop call waiting" mark of a station of section n has been cleared, the hold order standing as given: the
waiting count falls, and with the last mark the overflow hold clears, restart pending is set if no cause is left in a
MANUAL section, and the stop request stands with its causes. The other sections are unchanged. -/
def markLeft (n : Nat) (s t : State) : Prop :=
  (∀ m, 1 ≤ m → m ≤ 4 → m ≠ n → pick t.stops m = pick s.stops m)
    ∧ (pick t.stops n).holdOrder = (pick s.stops n).holdOrder
    ∧ (pick t.stops n).waiting = (pick s.stops n).waiting - 1
    ∧ (pick t.stops n).unattributed = (pick s.stops n).unattributed
    ∧ (pick t.stops n).coast = (if (pick s.stops n).request = false ∧ (pick t.stops n).request = true then 0
        else (pick s.stops n).coast)
    ∧ (2 ≤ (pick s.stops n).waiting →
      pick t.stops n = { pick s.stops n with waiting := (pick s.stops n).waiting - 1 })
    ∧ ((pick s.stops n).waiting ≤ 1 →
      (pick t.stops n).overflow = false
      ∧ ((pick t.stops n).pending = true ↔ (pick s.stops n).pending = true
        ∨ ((pick s.stops n).holdOrder = [] ∧ ∃ d, s.sectionDef n = some d ∧ d.restart = .manual))
      ∧ ((pick t.stops n).request = true ↔
        (pick t.stops n).holdOrder ≠ [] ∨ (pick t.stops n).pending = true))

/-- R9: the selector of an ANSWER, CARRY or CLEAR of station n finds the call c. -/
def selectorFinds (s : State) (n selector : Nat) (c : Call) : Prop :=
  (1 ≤ selector ∧ selector ≤ 8 ∧ callFrom s (.station n) selector = some c)
    ∨ (selector = 15 ∧ (callsOfStation s n).head? = some c)

/-! ### A station gone OFFLINE; the invariants of the calls, the hold orders and the stop requests -/

/-- R6, R7, R11, R17: the standing calls have numbers of 1 to 9999, all different, one call for each origin and class,
and stand in ascending arrival order, below the arrival count. -/
def callsInOrder (s : State) : Prop :=
  (s.calls.map (·.number)).Nodup ∧ (s.calls.map fun c => (c.origin, c.cls)).Nodup
    ∧ s.calls.Pairwise (fun c x => c.arrival < x.arrival) ∧ s.arrivalCount ≤ 4294967295
    ∧ ∀ c ∈ s.calls, 1 ≤ c.number ∧ c.number ≤ 9999 ∧ c.arrival < s.arrivalCount

/-- R52, R53, R60: each section's hold order lists exactly the numbers of its HOLDING calls, without repeats, and only an
OPEN call has a stop distance. -/
def holdOrdersAgree (s : State) : Prop :=
  (∀ c ∈ s.calls, c.state ≠ .opened → c.distance = none)
    ∧ ∀ n, 1 ≤ n → n ≤ 4 → (pick s.stops n).holdOrder.Nodup
      ∧ ∀ k, k ∈ (pick s.stops n).holdOrder ↔ ∃ c ∈ s.calls, c.number = k ∧ c.sec = n ∧ c.state = .holding

/-- R61: each section's stop request is asserted exactly while it has a HOLDING call, its overflow hold is set, or its
restart is pending. -/
def requestsHaveCauses (s : State) : Prop :=
  ∀ n, 1 ≤ n → n ≤ 4 → (pick s.stops n).request = (pick s.stops n).hasCause

/-- R24: the calls of station n whose class has the orphan policy DROP, in display order. -/
def orphans (s : State) (n : Nat) : List Call :=
  (callsOfStation s n).filter fun c => decide ((s.classDef c.cls).orphan = .drop)

/-- R24, R62, R63, R84: stop logic after station n has gone OFFLINE. Each section's hold order has lost the calls closed;
the section of a station that was marked has one mark less, and with the last its overflow hold clears; where a cause has
left and none stands in a MANUAL section, restart pending is set; the stop request stands with its causes. -/
def stopsAfterOffline (n : Nat) (s t : State) : Prop :=
  ∀ m, 1 ≤ m → m ≤ 4 → ∀ marked : Bool,
    marked = ((pick s.stations n).waiting.isSome && decide (sectionOfStation s n = m)) →
    (pick t.stops m).holdOrder = (pick s.stops m).holdOrder.filter (fun k => (orphans s n).all fun c => c.number != k)
    ∧ (pick t.stops m).waiting = (if marked then (pick s.stops m).waiting - 1 else (pick s.stops m).waiting)
    ∧ (pick t.stops m).overflow =
      ((pick s.stops m).overflow && (!marked || decide (2 ≤ (pick s.stops m).waiting)))
    ∧ (pick t.stops m).unattributed = (pick s.stops m).unattributed
    ∧ (pick t.stops m).coast = (if (pick s.stops m).request = false ∧ (pick t.stops m).request = true then 0
        else (pick s.stops m).coast)
    ∧ ((pick t.stops m).pending = true ↔ (pick s.stops m).pending = true
      ∨ (((pick t.stops m).holdOrder ≠ (pick s.stops m).holdOrder
          ∨ (marked = true ∧ (pick s.stops m).waiting ≤ 1))
        ∧ (pick t.stops m).holdOrder = [] ∧ (pick t.stops m).overflow = false
        ∧ ∃ d, s.sectionDef m = some d ∧ d.restart = .manual))
    ∧ ((pick t.stops m).request = true ↔
      (pick t.stops m).holdOrder ≠ [] ∨ (pick t.stops m).overflow = true ∨ (pick t.stops m).pending = true)

/-- R84, R94: the STATION notice of a station that has gone OFFLINE is the last frame, unless its kind is off or it found
no room. -/
def offlineNotice (n : Nat) (s t : State) : Prop :=
  ∀ frame, frame = HostFrame.notice s.timeOfDay (.station n (loopOf n) (addressOf n) (pick s.stations n).state .offline
      (pick t.stations n).misses (stationCalls t n)) →
    (pick s.host.reports 3 = true → (∃ others, t.host.outbound = s.host.outbound ++ others ++ [frame])
      ∨ (24 ≤ t.host.outbound.length
        ∧ (s.host.lostNotices < t.host.lostNotices ∨ 65535 ≤ t.host.lostNotices)))
    ∧ (orphans s n = [] → (pick s.stations n).waiting = none →
      (pick s.host.reports 3 = false → t.host = s.host)
      ∧ (pick s.host.reports 3 = true → s.host.outbound.length < 24 →
        t.host.outbound = s.host.outbound ++ [frame]))

/-- R84, R24: station n, heard on loop l, has gone OFFLINE by a miss: its runs at 0, its acknowledgement absent, its
verdict ACCEPTED, its mark cleared and handed to stop logic, its calls of policy DROP closed as DROPPED with their
records, one after another in display order. What follows for the stations, the history queue, stop logic and the zone
announcements is stated of the states of the invariants alone (call numbers distinct, hold orders and requests as their
rules have them). -/
def goneOffline (l : LoopId) (n : Nat) (s t : State) : Prop :=
  sameButShown { pollEnded s l with
      calls := s.calls.filter (fun x => (orphans s n).all fun c => c.number != x.number)
      stations := t.stations, stops := t.stops, loopA := t.loopA, loopB := t.loopB
      history := t.history, nextSeq := t.nextSeq, overflowCount := t.overflowCount, staleTimer := t.staleTimer } t
    ∧ pick t.stations n = { pick s.stations n with
        state := .offline, missRun := 0, holdRun := 0, ackThrough := none, rejected := false, waiting := none
        misses := min 65535 ((pick s.stations n).misses + 1), lamp := (pick t.stations n).lamp }
    ∧ (orphans s n = [] → (pick t.stations n).lamp = (pick s.stations n).lamp)
    ∧ (callsInOrder s → orphans s n ≠ [] → (pick t.stations n).lamp = lampOf t n)
    ∧ (callsInOrder s → ∀ m, 1 ≤ m → m ≤ 96 → m ≠ n → pick t.stations m = pick s.stations m)
    ∧ (∀ k, t.loop k = { (pollEnded s l).loop k with
        zonesOwed := (t.loop k).zonesOwed, announcements := (t.loop k).announcements
        stationsOwed := if k = loopOf n then ((s.loop k).stationsOwed).erase n else (s.loop k).stationsOwed })
    ∧ (callsInOrder s → s.history.length ≤ 128 → s.nextSeq < 65536 → s.overflowCount ≤ 255 →
      recordsAppended ((orphans s n).map (closingOf s .dropped)) s t)
    ∧ (orphans s n = [] → t.staleTimer = s.staleTimer)
    ∧ (callsInOrder s → holdOrdersAgree s → requestsHaveCauses s → stopsAfterOffline n s t ∧ zonesAnnounced s t)
    ∧ offlineNotice n s t

/-! ### Rising edges (R38–R43) -/

/-- R39: the edge of input k that finds the section's sync sensor there makes the phase jump forward. -/
def jumpsForward (k : Nat) (d : SectionDef) (x : Tracker) : Prop :=
  d.syncInput = k ∧ x.phase ≠ 0 ∧ d.pitch / 2 ≤ x.phase

/-- R40: … backward. -/
def jumpsBackward (k : Nat) (d : SectionDef) (x : Tracker) : Prop :=
  d.syncInput = k ∧ x.phase ≠ 0 ∧ x.phase < d.pitch / 2

/-- R38–R41: a section's tracker after a rising edge of input k. -/
def edgeTracker (k : Nat) (d : SectionDef) (x y : Tracker) : Prop :=
  (d.syncInput ≠ k → y = { x with passCount := y.passCount })
    ∧ (d.syncInput = k → y.debt = 0 ∧ y.saturated = false ∧ y.phase = 0
      ∧ (x.phase = 0 → y.lastSync = some (.aligned, 0))
      ∧ (jumpsForward k d x → y.lastSync = some (.forward, d.pitch - x.phase))
      ∧ (jumpsBackward k d x → y.lastSync = some (.backward, x.phase))
      ∧ (jumpsForward k d x → y.pitchCount = if x.pitchCount < 65535 then x.pitchCount + 1 else 0)
      ∧ (¬ jumpsForward k d x → y.pitchCount = x.pitchCount))
    ∧ y.passCount = if d.passInput = k then (if x.passCount < 65535 then x.passCount + 1 else 0) else x.passCount

/-- R55, R57: the stop distance of a call of a section after a rising edge of input k. -/
def edgeDistance (k : Nat) (d : SectionDef) (x : Tracker) (old new : Option Nat) : Prop :=
  (jumpsForward k d x → new = old.map (· - (d.pitch - x.phase)))
    ∧ (jumpsBackward k d x → new = old.map fun y => min (y + x.phase) (d.pitch + d.runOn - 1))
    ∧ (¬ jumpsForward k d x → ¬ jumpsBackward k d x → new = old)

/-! ### The term lists of the equations (R103, R104) -/

/-- R104: how many groups are open after a term list that starts with d open; none where an END GROUP finds none. -/
def groupsAfter : List Term → Nat → Option Nat
  | [], d => some d
  | .group _ :: ts, d => groupsAfter ts (d + 1)
  | .endGroup :: ts, d => if d = 0 then none else groupsAfter ts (d - 1)
  | .operand _ _ :: ts, d => groupsAfter ts d
  | .elseChain :: ts, d => groupsAfter ts d

/-- R104: every group of the list is opened and closed in it. -/
def balanced (ts : List Term) : Prop := groupsAfter ts 0 = some 0

/-- R103: no ELSE of the list stands outside its groups, d groups being open at its start. -/
def oneChain : List Term → Nat → Prop
  | [], _ => True
  | .group _ :: ts, d => oneChain ts (d + 1)
  | .endGroup :: ts, d => oneChain ts (d - 1)
  | .operand _ _ :: ts, d => oneChain ts d
  | .elseChain :: ts, d => d ≠ 0 ∧ oneChain ts d

/-! ### Numbers on a board -/

/-- The number a text of decimal digits spells. -/
def spelled (t : Text) : Nat := t.foldl (fun n b => n * 10 + (b.toNat - 48)) 0

/-- R157: a number in w positions: right-aligned, or '*' where it is longer. -/
def numberIn (w : Nat) (t : Text) : Text :=
  if t.length ≤ w then List.replicate (w - t.length) 0x20#8 ++ t else List.replicate w 0x2A#8

/-- R157: a line of words in w positions: cut, or followed by spaces. -/
def lineIn (w : Nat) (t : Text) : Text := (t ++ List.replicate w 0x20#8).take w

/-- R158: a number with one decimal, from its tenths. -/
def tenthsText (n : Nat) : Text := decimal (n / 10) ++ [0x2E#8] ++ decimal (n % 10)

/-- R158, R161: a number below 100 in two digits. -/
def twoPlaces (n : Nat) : Text := [BitVec.ofNat 8 (48 + n / 10), BitVec.ofNat 8 (48 + n % 10)]

/-- R158: what a COUNT field writes for a figure; none is dashes. -/
def figureWritten (p : PreviousShift) : Figure → Option Text → Prop
  | .target, t => t = some (decimal p.target)
  | .actual, t => t = some (decimal p.actual)
  | .volume, t => t = some (decimal p.volume)
  | .projection, t => t = some (decimal p.projection)
  | .delta, t => (0 < p.delta → t = some (0x2B#8 :: decimal p.delta.toNat))
      ∧ (p.delta < 0 → t = some (0x2D#8 :: decimal (-p.delta).toNat)) ∧ (p.delta = 0 → t = some [0x30#8])
  | .attainment, t => t = p.attainment.map fun a => tenthsText a ++ [0x25#8]
  | .takt, t => t = some (tenthsText p.takt)
  | .andonStop n, t => t = some (decimal (pick p.andonStop n / 600))
  | .otherStop n, t => t = some (decimal (pick p.otherStop n / 600))
  | .workTime, t => t = some (decimal (p.worked / 36000) ++ [0x3A#8] ++ twoPlaces (p.worked / 600 % 60))

/-- R159: the colour and blink that show a call. -/
def shownAs (s : State) (c : Call) (x : Content) : Prop :=
  (c.state = .holding → x.colour = .red ∧ x.blink = .fast)
    ∧ (c.state ≠ .holding → x.colour = (s.classDef c.cls).colour
      ∧ x.blink = if c.answered = none then .slow else .steady)

/-! ### The board queues (R164–R167, R177) -/

/-- R165: the queue splits at its newest frame x of the lowest priority. -/
def newestLowest (q before : List BoardFrame) (x : BoardFrame) (after : List BoardFrame) : Prop :=
  q = before ++ x :: after ∧ (∀ y ∈ q, x.priority ≤ y.priority) ∧ ∀ y ∈ after, y.priority ≠ x.priority

/-- R164, R165, R178: a content for a field, as the new frame fr of it, enters the queue q of the depth, which becomes q';
`dropped` says that a frame was dropped. -/
def entersQueue (depth : Nat) (fr : BoardFrame) (q q' : List BoardFrame) (dropped : Bool) : Prop :=
  (∀ before x after, q = before ++ x :: after → x.field = fr.field →
    dropped = false ∧ q' = before ++
      { x with content := fr.content, reconfirm := x.reconfirm || decide (0 < x.attempts) } :: after)
  ∧ ((∀ y ∈ q, y.field ≠ fr.field) →
    (q.length < depth → dropped = false ∧ q' = q ++ [fr])
    ∧ (depth ≤ q.length → dropped = true
      ∧ ((∀ y ∈ q, fr.priority ≤ y.priority) → q' = q)
      ∧ ∀ before x after, newestLowest q before x after → x.priority < fr.priority →
        q' = before ++ after ++ [fr]))

/-- R167: the frame of a field served or recomposed as the state stands. -/
def frameOf (s : State) (b f : Nat) : BoardFrame := match s.fieldDef b f with
  | some d => { field := f, priority := d.kind.priority, content := some (contentOf s b f d), attempts := 0
                reconfirm := false }
  | none => clearFrame

/-- R167: the marked fields of a board, highest priority first and in ascending number within a priority. -/
def servingOrder (s : State) (b : Nat) (fs : List Nat) : Prop :=
  (∀ f, f ∈ fs ↔ 1 ≤ f ∧ f ≤ 12 ∧ (pick (pick s.fields b) f).marked = true ∧ (s.fieldDef b f).isSome = true)
    ∧ fs.Pairwise fun f g => (frameOf s b g).priority < (frameOf s b f).priority
      ∨ ((frameOf s b g).priority = (frameOf s b f).priority ∧ f < g)

/-- R167: with the queue q, as many marked fields of board b as have room have been served: each one's content entered
the queue (in place where a frame of the field stood there), became its last content, and its mark is clear. -/
def marksServed (s t : State) (b : Nat) (q : List BoardFrame) : Prop :=
  ∃ fs served, servingOrder s b fs ∧ served = fs.take ((s.boardDepth b).getD 0 - q.length)
    ∧ (pick t.boards b).queue =
      q.map (fun x => if x.field ∈ served then
          { x with content := (frameOf s b x.field).content, reconfirm := x.reconfirm || decide (0 < x.attempts) }
        else x) ++ (served.filter fun f => q.all fun x => x.field != f).map (frameOf s b)
    ∧ (∀ f, 1 ≤ f → f ≤ 12 → pick (pick t.fields b) f =
      if f ∈ served then { pick (pick s.fields b) f with last := (frameOf s b f).content, marked := false }
      else pick (pick s.fields b) f)
    ∧ ∀ m f, 1 ≤ m → m ≤ 8 → m ≠ b → pick (pick t.fields m) f = pick (pick s.fields m) f

/-- R177: a frame put back at the head of the queue q of the depth, which becomes q'; `dropped` says that a frame was
dropped, `lost` that it was the frame put back. -/
def backAtHead (depth : Nat) (fr : BoardFrame) (q q' : List BoardFrame) (dropped lost : Bool) : Prop :=
  (∀ before x after, q = before ++ x :: after → x.field = fr.field →
    dropped = false ∧ lost = false ∧ q' =
      { fr with content := x.content, priority := x.priority
                reconfirm := fr.reconfirm || decide (0 < fr.attempts) } :: (before ++ after))
  ∧ ((∀ y ∈ q, y.field ≠ fr.field) →
    (q.length < depth → dropped = false ∧ lost = false ∧ q' = fr :: q)
    ∧ (depth ≤ q.length → dropped = true
      ∧ ((∀ y ∈ q, fr.priority < y.priority) → lost = true ∧ q' = q)
      ∧ ∀ before x after, newestLowest q before x after → x.priority ≤ fr.priority →
        lost = false ∧ q' = fr :: (before ++ after)))

/-- R164, R177: a queue of at most one frame a field, priorities 0 to 3. -/
def queueSound (q : List BoardFrame) : Prop := (q.map (·.field)).Nodup ∧ ∀ fr ∈ q, fr.priority ≤ 3

/-- R175: the attempt in flight has ended. -/
def flightEnded (s : State) : State :=
  { s with link := { s.link with inFlight := none, started := false, receiver := .outside } }

/-- R72, R170: the bytes of one frame that is bad or not awaited: no content in `good` followed by its check, or a
frame with an unescaped flow mark in it. -/
def wrongFrame (good : List Byte → Prop) (line : List Byte) : Prop :=
  (∃ content, line = [startMark] ++ escape content ++ [endMark] ∧ ∀ x, good x → content ≠ x ++ checkBytes x)
    ∨ ∃ before mark after, (mark = 0xF3#8 ∨ mark = 0xF4#8)
      ∧ line = [startMark] ++ escape before ++ [mark] ++ escape after ++ [endMark]

/-- R72, R73, R79: the content x, without its check, is a HOLD, or a STATUS of up to four events of sequences 0 to 7 and
kinds 1 to 5, from the polled station n. -/
def repliesToPoll (n : Nat) (x : List Byte) : Prop :=
  ∃ a : Byte, a.toNat = addressOf n
    ∧ (x = [a, 18#8]
      ∨ ∃ count events, x = a :: 17#8 :: count :: events ∧ count.toNat ≤ 4 ∧ events.length = 3 * count.toNat
        ∧ ∀ k, k < count.toNat → byteAt events (3 * k) ≤ 7
          ∧ 1 ≤ byteAt events (3 * k + 1) ∧ byteAt events (3 * k + 1) ≤ 5)

/-- R79: the commands that make the poll of station n on loop l a miss: a frame that is bad by R72 (its check or its
length does not fit, or it spells no STATUS and no HOLD) or from another address, no start mark in time, or no end of
the frame in time. -/
def missesPoll (s : State) (l : LoopId) (n : Nat) (i : Instr) : Prop :=
  (∃ line, i = .loopBadReply l line ∧ (s.loop l).receiver = .outside ∧ wrongFrame (repliesToPoll n) line)
    ∨ (i = .pollResponseTimeout l ∧ (s.loop l).started = false)
    ∨ (i = .loopReplyFrameTimeout l ∧ (s.loop l).started = true)

/-- R170, R171, R175: the content x, without its check, is an ACK from the addressed board with the toggle sent (to a PROBE
with any toggle), or, to a FIELD, such a REFUSE of reason 1 or 2. -/
def answersFlight : Flight → List Byte → Prop
  | .field b _ toggle, x => ∃ a : Byte, a.toNat = b ∧ (x = [a, 17#8, if toggle then 1#8 else 0#8]
      ∨ x = [a, 18#8, if toggle then 1#8 else 0#8, 1#8] ∨ x = [a, 18#8, if toggle then 1#8 else 0#8, 2#8])
  | .probe b, x => ∃ a : Byte, a.toNat = b ∧ (x = [a, 17#8, 0#8] ∨ x = [a, 17#8, 1#8])

/-- R175: the commands that make the attempt in flight on the board link fail: a frame that is bad by R170 (its check or
its length does not fit, or it spells no ACK and no REFUSE), from another address, with another toggle, or a REFUSE to a
PROBE; no start mark in time, or no end of the frame in time. -/
def failsAttempt (s : State) (i : Instr) : Prop :=
  (∃ line flight, i = .boardBadReply line ∧ s.link.receiver = .outside ∧ s.link.inFlight = some flight
      ∧ wrongFrame (answersFlight flight) line)
    ∨ (i = .boardResponseTimeout ∧ s.link.started = false)
    ∨ (i = .boardReplyFrameTimeout ∧ s.link.started = true)

/-! ## Invariants -/

/-- R142, R183, R186, R17: no queue or table holds more than its capacity. -/
def withinCapacity (s : State) : Prop :=
  s.calls.length ≤ Config.callCapacity ∧ s.history.length ≤ Config.historyCapacity
    ∧ s.host.outbound.length ≤ Config.outboundCapacity ∧ s.host.requests.length ≤ Config.requestCapacity

/-- R17: at most 56 of the standing calls are of class behaviour NONE. -/
def noneWithinCapacity (s : State) : Prop := noneCount s ≤ Config.noneCapacity

/-- R153: every defined board has a queue depth of 4 to 16. -/
def depthsInRange (d : Definitions) : Prop :=
  ∀ b, 1 ≤ b → b ≤ 8 → ∀ depth, pick d.boards b = some depth → 4 ≤ depth ∧ depth ≤ 16

/-- R153, R165, R174, R177: each board queue holds no more frames than its depth and never two for one field, none in
CONFIG; what is in flight is for a defined board; priorities are 0 to 3; the depths of the working definitions and of the
stored copy are in their range; and in CONFIG no refresh timer runs (R162). -/
def boardQueuesFit (s : State) : Prop :=
  depthsInRange s.defs ∧ (∀ d, s.store = some d → depthsInRange d)
    ∧ (s.mode = .config → s.link.inFlight = none ∧ s.refreshTimer = none)
    ∧ (∀ b fr toggle, s.link.inFlight = some (.field b fr toggle) →
      1 ≤ b ∧ b ≤ 8 ∧ (s.boardDepth b).isSome = true ∧ fr.priority ≤ 3)
    ∧ (∀ b, s.link.inFlight = some (.probe b) → 1 ≤ b ∧ b ≤ 8 ∧ (s.boardDepth b).isSome = true)
    ∧ ∀ b, 1 ≤ b → b ≤ 8 →
      (s.mode = .config → (pick s.boards b).queue = [])
      ∧ (pick s.boards b).queue.length ≤ (s.boardDepth b).getD 0
      ∧ ((pick s.boards b).queue.map (·.field)).Nodup
      ∧ ∀ fr ∈ (pick s.boards b).queue, fr.priority ≤ 3

/-- R142: each record's sequence is one more, modulo 65536, than that of the record before it, and the next sequence
one more than the newest. -/
def sequencesRun : List HistoryRecord → Nat → Prop
  | [], next => next < 65536
  | [r], next => r.seq < 65536 ∧ next = (r.seq + 1) % 65536
  | r :: q :: rest, next => r.seq < 65536 ∧ q.seq = (r.seq + 1) % 65536 ∧ sequencesRun (q :: rest) next

/-- R142: the history queue is in order. -/
def historyInOrder (s : State) : Prop := sequencesRun s.history s.nextSeq

/-- R31, R32: a section's attributes lie in their ranges. -/
def sectionInRange (d : SectionDef) : Prop := 16 ≤ d.pitch ∧ 1 ≤ d.runOn ∧ d.runOn < d.pitch

/-- R31: every defined section of the definitions has its attributes in their ranges. -/
def sectionsInRange (d : Definitions) : Prop :=
  ∀ n, 1 ≤ n → n ≤ 4 → ∀ x, pick d.sections n = some x → sectionInRange x

/-- R33: each defined section's phase lies between 0 and P−1, and its rollback debt between 0 and P; and the working
definitions and the stored copy have their sections in range. -/
def trackersInRange (s : State) : Prop :=
  sectionsInRange s.defs ∧ (∀ d, s.store = some d → sectionsInRange d)
    ∧ ∀ n, 1 ≤ n → n ≤ 4 → ∀ x, s.sectionDef n = some x →
      (pick s.trackers n).phase < x.pitch ∧ (pick s.trackers n).debt ≤ x.pitch

/-- R117: the equation unit is idle. -/
def equationsIdle (s : State) : Prop :=
  s.equations = Vector.replicate 48 startEquation ∧ s.flags = Vector.replicate 32 false
    ∧ s.relays = Vector.replicate 8 false ∧ s.tunes = Vector.replicate 4 0

/-- R23, R92, R117, R173, R188: in CONFIG no call stands, no shift runs, no poll is outstanding, nothing is in flight to
a board, and the equation unit is idle. -/
def configIdle (s : State) : Prop :=
  s.mode = .config → s.calls = [] ∧ s.shiftState = .none ∧ s.shift = none ∧ s.loopA.polled = none
    ∧ s.loopB.polled = none ∧ s.link.inFlight = none ∧ equationsIdle s

/-- R113, R115, R116: the outputs of the equation unit stand as the outputs of its equations have them: an owned flag has
its equation's output, a relay is energized exactly while a defined equation that targets it has its output true, and a
tune channel carries the tune number of the lowest such equation, or 0. -/
def outputsFollow (s : State) : Prop :=
  (∀ i e f, 1 ≤ i → i ≤ 48 → s.equationDef i = some e → e.target = .flag f → 1 ≤ f → f ≤ 32 →
    pick s.flags f = (pick s.equations i).output)
  ∧ (∀ r, 1 ≤ r → r ≤ 8 → (pick s.relays r = true ↔
    ∃ i e, 1 ≤ i ∧ i ≤ 48 ∧ s.equationDef i = some e ∧ e.target = .relay r ∧ (pick s.equations i).output = true))
  ∧ (∀ c, 1 ≤ c → c ≤ 4 →
    (∀ i e number, 1 ≤ i → i ≤ 48 → s.equationDef i = some e → e.target = .tune c number →
      (pick s.equations i).output = true →
      (∀ j x k, 1 ≤ j → j < i → s.equationDef j = some x → x.target = .tune c k →
        (pick s.equations j).output = false) → pick s.tunes c = number)
    ∧ ((∀ i e number, 1 ≤ i → i ≤ 48 → s.equationDef i = some e → e.target = .tune c number →
        (pick s.equations i).output = false) → pick s.tunes c = 0))

/-- R189: in RUN the working definitions pass the checks of ENTER RUN. -/
def definitionsAgree (s : State) : Prop := s.mode = .run → configCheck s.defs = none

/-- R120: the current-shift part is absent in the shift state NONE, and present in the others. -/
def shiftPresent (s : State) : Prop := s.shiftState = .none ↔ s.shift = none

end Sys2Proof.Machine
end

