-- ==== Sys2Proof/Certificates/Slice0/Obligations.lean ====
section
/-! DEFINITION. Obligations: the statements for the provers. In all of them `atTurn` says that a request is at its turn
in a state where nothing is due and its reply finds room; the widths and codes of the bodies are the model's convention
(DESIGN CHOICE, log entry 8), and a state where nothing is due is the model's form of a finished tick or pulse (DESIGN
CHOICE, log entry 1). -/

open Sys2Proof Sys2Proof.Machine

/-! ## The queue of commands -/

/-- The model's own queue: a step with a command at the front of the queue is that command's effect on the state with
the queue's rest. DESIGN CHOICE (log entry 1): with an empty queue the step does what is due, and where nothing is due
the block idles. -/
def Obligations.StepRunsFrontCommand : Prop :=
  (∀ (c : Instr) (rest : List Instr) (s : State), s.pending = c :: rest → step s = exec c { s with pending := rest })
    ∧ (∀ s : State, s.pending = [] → step s = .next s.takeDue)
    ∧ (∀ s : State, s.pending = [] → settled s = true → step s = .next s)

/-! ## Requests that read (R30, R44, R93, R140, R150, R181, R191, R195) -/

/-- Each read, with KEEP where it has a clear option, is answered DONE from the state as it stands, and changes nothing
but the host link. READ DEFINITION carries the item code and the indices; of an undefined item it returns the mark
UNDEFINED with the attributes 0 (names of spaces, no leader, the term count 0). READ CALLS, READ STATIONS and FETCH
HISTORY carry the longest run of their entries that a reply body of 238 bytes holds: of records of 29 bytes and of 21
and 10 for each section entry after a head of 6; for the calls and the stations the sizes are open constants (log entry
4). -/
def Obligations.ReadsChangeHostLinkAlone : Prop :=
  ∀ (tag : Byte) (body : List Byte) (s : State),
    (atTurn 16#8 tag body s → body = [0#8] →
      exec (.readStatus tag body) s =
        .next { s with host := s.host.answered 16#8 tag body Result.done (.status (statusReport s)) })
    ∧ (∀ d, atTurn 35#8 tag body s → body.length = 3 →
      definitionItem s (byteAt body 0) (byteAt body 1) (byteAt body 2) = some d →
      exec (.readDefinition tag body) s =
        .next { s with host := (s.host.answered 35#8 tag body Result.done
          (.definition (byteAt body 0) (byteAt body 1) (byteAt body 2) d)) })
    ∧ (∀ n j, 1 ≤ n →
      (n ≤ 4 → s.sectionDef n = none → definitionItem s 3 n j = some (.sec false ⟨0, 0, 0, 0, 0, 0⟩))
      ∧ (n ≤ 24 → s.zoneDef n = none →
        definitionItem s 4 n j = some (.zone false ⟨List.replicate 8 0x20#8, 0, 0, 0, 0⟩))
      ∧ (n ≤ 96 → s.stationDef n = none → definitionItem s 5 n j =
        some (.station false (loopOf n) (addressOf n) ⟨0, List.replicate 6 0x20#8, false⟩))
      ∧ (n ≤ 8 → s.ladderDef n = none →
        definitionItem s 6 n j = some (.ladder false ⟨0, 0, Vector.replicate 4 0⟩))
      ∧ (n ≤ 48 → s.equationDef n = none → ∃ d, d.terms = []
        ∧ definitionItem s 8 n j = some (.equation false d (pick s.equations n)))
      ∧ (n ≤ 8 → s.boardDepth n = none → definitionItem s 10 n j = some (.board false 0)))
    ∧ (atTurn 45#8 tag body s → body = [] →
      exec (.readAccount tag body) s =
        .next { s with host := (s.host.answered 45#8 tag body Result.done
          (.account s.shiftState s.defs.counting s.defs.source (s.shift.map (currentReport s)) s.previous)) })
    ∧ (∀ scope, atTurn 52#8 tag body s → body.length = 3 → readScope (byteAt body 0) (byteAt body 1) = some scope →
      within 1 64 (byteAt body 2) = true →
      ∃ records, exec (.readCalls tag body) s =
          .next { s with host := (s.host.answered 52#8 tag body Result.done
            (.calls (callsInScope s scope).length (byteAt body 2) records)) }
        ∧ longestRun CallReport.size Config.callHeadBytes
            ((((callsInScope s scope).drop (byteAt body 2 - 1)).take 16).mapIdx fun i c =>
              callReport s (byteAt body 2 + i) c) records)
    ∧ (∀ d, atTurn 53#8 tag body s → body.length = 1 → within 1 4 (byteAt body 0) = true →
      s.sectionDef (byteAt body 0) = some d →
      exec (.readSection tag body) s =
        .next { s with host := s.host.answered 53#8 tag body Result.done (.sec (sectionReport s (byteAt body 0) d)) })
    ∧ (atTurn 58#8 tag body s → body.length = 3 → within 1 96 (byteAt body 0) = true →
      within 1 16 (byteAt body 1) = true → byteAt body 2 = 0 →
      ∃ entries, exec (.readStations tag body) s =
          .next { s with host := (s.host.answered 58#8 tag body Result.done
            (.stations (loopReport s .a) (loopReport s .b) entries)) }
        ∧ longestRun stationEntrySize Config.stationHeadBytes
            (stationsWanted s (byteAt body 0) (byteAt body 1)) entries)
    ∧ (atTurn 59#8 tag body s → body = [0#8] →
      exec (.readBoards tag body) s =
        .next { s with host := (s.host.answered 59#8 tag body Result.done
          (.boards (linkReport s) ((numbers 8).map (boardEntry s)))) })
    ∧ (atTurn 60#8 tag body s → body.length = 1 → within 1 8 (byteAt body 0) = true →
      ∃ records, exec (.fetchHistory tag body) s =
          .next { s with host := (s.host.answered 60#8 tag body Result.done
            (.history s.history.length (oldestSeq s) (newestSeq s) records)) }
        ∧ longestRun (fun r => r.bytes.length) 6 (s.history.take (byteAt body 0)) records)
    ∧ ∀ r : HistoryRecord, (∀ c, r.entry = .callClosed c → r.bytes.length = 29)
      ∧ (∀ c, r.entry = .shiftClosed c → r.bytes.length = 21 + 10 * c.entries.length)

/-- The three reads with CLEAR: the counters become 0 after the reply, which shows the values before, and all else but
the host link stays. READ STATIONS lists the longest run of entries that fits (their sizes are open constants: log entry
4), and clears the stations listed. -/
def Obligations.ReadsThatClearCounters : Prop :=
  ∀ (tag : Byte) (body : List Byte) (s : State),
    (atTurn 16#8 tag body s → body = [1#8] →
      ∃ t, exec (.readStatus tag body) s = .next t ∧ answeredLast 16#8 tag Result.done (.status (statusReport s)) s t
        ∧ t = { s with overflowCount := 0, host := t.host }
        ∧ t.host.badFrames = 0 ∧ t.host.lostRequests = 0 ∧ t.host.lostNotices = 0)
    ∧ (atTurn 58#8 tag body s → body.length = 3 → within 1 96 (byteAt body 0) = true →
      within 1 16 (byteAt body 1) = true → byteAt body 2 = 1 →
      ∃ t entries, exec (.readStations tag body) s = .next t
        ∧ answeredLast 58#8 tag Result.done (.stations (loopReport s .a) (loopReport s .b) entries) s t
        ∧ longestRun stationEntrySize Config.stationHeadBytes (stationsWanted s (byteAt body 0) (byteAt body 1)) entries
        ∧ t = { s with stations := t.stations, host := t.host }
        ∧ ∀ n, 1 ≤ n → n ≤ 96 → pick t.stations n =
            if n ∈ entries.map (·.1) then { pick s.stations n with goodReplies := 0, misses := 0, rejectedEvents := 0 }
            else pick s.stations n)
    ∧ (atTurn 59#8 tag body s → body = [1#8] →
      ∃ t, exec (.readBoards tag body) s = .next t
        ∧ answeredLast 59#8 tag Result.done (.boards (linkReport s) ((numbers 8).map (boardEntry s))) s t
        ∧ t = { s with boards := t.boards, host := t.host }
        ∧ ∀ b, 1 ≤ b → b ≤ 8 → pick t.boards b = { pick s.boards b with delivered := 0, refused := 0, failed := 0 })

/-! ## Definitions (R2, R4, R32, R33, R51, R76, R96, R105, R121, R154, R156, R190) -/

/-- DEFINE SECTION in CONFIG: the section's definition is replaced and its tracker takes its starting values; nothing
else changes but the host link. -/
def Obligations.DefineSectionTaken : Prop :=
  ∀ (tag : Byte) (body : List Byte) (s : State) (n : Nat) (d : Option SectionDef),
    atTurn 24#8 tag body s → s.mode = .config → body.length = 10 → readSectionDef body = some (n, d) →
    exec (.defineSection tag body) s =
        .next { s with
          defs := { s.defs with sections := alter s.defs.sections n fun _ => d }
          trackers := alter s.trackers n fun _ => startTracker
          host := s.host.answered 24#8 tag body Result.done .empty }
      ∧ ∀ x, d = some x → sectionInRange x

/-- DEFINE ZONE, DEFINE STATION, DEFINE CLASS, DEFINE CODE MAP and DEFINE ACCOUNT in CONFIG: the one definition is
replaced and nothing else changes but the host link. -/
def Obligations.SimpleDefinitionsTaken : Prop :=
  ∀ (tag : Byte) (body : List Byte) (s : State), s.mode = .config →
    (∀ n d, atTurn 25#8 tag body s → body.length = 15 → readZoneDef body = some (n, d) →
      exec (.defineZone tag body) s =
        .next { s with defs := { s.defs with zones := alter s.defs.zones n fun _ => d }
                       host := s.host.answered 25#8 tag body Result.done .empty })
    ∧ (∀ n d, atTurn 26#8 tag body s → body.length = 10 → readStationDef body = some (n, d) →
      exec (.defineStation tag body) s =
        .next { s with defs := { s.defs with stations := alter s.defs.stations n fun _ => d }
                       host := s.host.answered 26#8 tag body Result.done .empty })
    ∧ (∀ n d, atTurn 27#8 tag body s → body.length = 14 → readClass body = some (n, d) →
      exec (.defineClass tag body) s =
        .next { s with defs := { s.defs with classes := alter s.defs.classes n fun _ => d }
                       host := s.host.answered 27#8 tag body Result.done .empty })
    ∧ (∀ m, atTurn 28#8 tag body s → body.length = 21 → readCodeMap body = some m →
      exec (.defineCodeMap tag body) s =
        .next { s with defs := { s.defs with codeMap := m }
                       host := s.host.answered 28#8 tag body Result.done .empty })
    ∧ (∀ n a, atTurn 34#8 tag body s → body.length = 2 → readAccountDef body = some (n, a) →
      exec (.defineAccount tag body) s =
        .next { s with defs := { s.defs with counting := n, source := a }
                       host := s.host.answered 34#8 tag body Result.done .empty })

/-- DEFINE LADDER in CONFIG: the ladder takes its attributes, a delay of a level in use clamped into 10–36,000 and one
beyond the level count stored as 0, and the reply is ADJUSTED exactly when a delay was clamped. -/
def Obligations.DefineLadderTaken : Prop :=
  ∀ (tag : Byte) (body : List Byte) (s : State) (basis : Basis), atTurn 29#8 tag body s → s.mode = .config →
    body.length = 12 → 1 ≤ byteAt body 0 → byteAt body 0 ≤ 8 → byteAt body 1 = 1 →
    readBasis (byteAt body 2) = some basis → 1 ≤ byteAt body 3 → byteAt body 3 ≤ 4 →
    ∃ (l : LadderDef) (r : Result), exec (.defineLadder tag body) s =
        .next { s with defs := { s.defs with ladders := alter s.defs.ladders (byteAt body 0) fun _ => some l }
                       host := s.host.answered 29#8 tag body r .empty }
      ∧ l.basis = basis ∧ l.levels = byteAt body 3
      ∧ (∀ k, 1 ≤ k → k ≤ 4 → pick l.delays k =
          if k ≤ byteAt body 3 then max 10 (min 36000 (wordAt body (2 * k + 2))) else 0)
      ∧ (r = .adjusted ∨ r = .done)
      ∧ (r = .adjusted ↔ ∃ k, 1 ≤ k ∧ k ≤ byteAt body 3 ∧
          (wordAt body (2 * k + 2) < 10 ∨ 36000 < wordAt body (2 * k + 2)))

/-- DEFINE EQUATION in CONFIG: an equation that passes the checks takes its definition; one with a failing term is
answered BAD VALUE with that term's index and changes nothing but the host link; for an equation number or a use mark
out of range that index is a free value (DESIGN CHOICE, log entry 6). -/
def Obligations.DefineEquationTaken : Prop :=
  ∀ (tag : Byte) (body : List Byte) (s : State), atTurn 30#8 tag body s → s.mode = .config →
    equationFits body = true →
    (∀ n e clamped, readEquation body = .defined n e clamped →
      exec (.defineEquation tag body) s =
        .next { s with defs := { s.defs with equations := alter s.defs.equations n fun _ => some e }
                       host := (s.host.answered 30#8 tag body (if clamped then .adjusted else .done)
                         (.equation n none)) })
    ∧ (∀ n, readEquation body = .undefined n →
      exec (.defineEquation tag body) s =
        .next { s with defs := { s.defs with equations := alter s.defs.equations n fun _ => none }
                       host := s.host.answered 30#8 tag body Result.done (.equation n none) })
    ∧ (∀ i, readEquation body = .badTerm i →
      exec (.defineEquation tag body) s =
        .next { s with host := s.host.answered 30#8 tag body .badValue (.equation (byteAt body 0) (some i)) })

/-- DEFINE BOARD and DEFINE FIELD in CONFIG: a defined board has a queue depth of 4–16 and keeps its fields; an
undefined one loses them; a defined field takes its definition and its text is emptied. A field is composed by its kind,
to its width: ZONE shows the zone and its first call, LIST the call at a rank of its scope, COUNT a figure of the
running or the previous shift (dashes where there is none), CLOCK hours and minutes (dashes while unset), SHIFT the
shift state with the minutes left, TEXT its text; numbers are right-aligned or '*', lines of words cut or filled with
spaces. -/
def Obligations.DefineBoardAndFieldTaken : Prop :=
  (∀ (tag : Byte) (body : List Byte) (s : State), s.mode = .config → 1 ≤ byteAt body 0 → byteAt body 0 ≤ 8 →
    (atTurn 31#8 tag body s → body.length = 3 → byteAt body 1 = 1 →
      exec (.defineBoard tag body) s =
        .next { s with
          defs := { s.defs with
            boards := alter s.defs.boards (byteAt body 0) fun _ => some (max 4 (min 16 (byteAt body 2))) }
          host := (s.host.answered 31#8 tag body
            (if 4 ≤ byteAt body 2 ∧ byteAt body 2 ≤ 16 then .done else .adjusted) .empty) })
    ∧ (atTurn 31#8 tag body s → body.length = 3 → byteAt body 1 = 0 →
      exec (.defineBoard tag body) s =
        .next { s with
          defs := { s.defs with
            boards := alter s.defs.boards (byteAt body 0) fun _ => none
            fields := alter s.defs.fields (byteAt body 0) fun _ => Vector.replicate 12 none }
          host := s.host.answered 31#8 tag body Result.done .empty })
    ∧ (∀ d, atTurn 32#8 tag body s → body.length = 9 → 1 ≤ byteAt body 1 → byteAt body 1 ≤ 12 →
      byteAt body 2 = 1 → (s.boardDepth (byteAt body 0)).isSome = true → readFieldDef body = some d →
      exec (.defineField tag body) s =
        .next { s with
          defs := { s.defs with
            fields := alter s.defs.fields (byteAt body 0) fun row => alter row (byteAt body 1) fun _ => some d }
          fields := alter s.fields (byteAt body 0) fun row => alter row (byteAt body 1) fun x => { x with text := [] }
          host := s.host.answered 32#8 tag body Result.done .empty }))
  ∧ (∀ n, n < 10000000000 → spelled (decimal n) = n ∧ (∀ x ∈ decimal n, 48 ≤ x.toNat ∧ x.toNat ≤ 57)
      ∧ (n ≠ 0 → (decimal n).head? ≠ some 0x30#8) ∧ decimal n ≠ [])
  ∧ (∀ name, ∃ k, name = trimEnd name ++ List.replicate k 0x20#8 ∧ (trimEnd name).getLast? ≠ some 0x20#8)
  ∧ ∀ (s : State) (b f : Nat) (d : FieldDef), (contentOf s b f d).text.length = d.width
    ∧ (∀ z zone, d.kind = .zone z → s.zoneDef z = some zone →
      (callsInScope s (.zone z) = [] →
        contentOf s b f d = ⟨lineIn d.width (trimEnd zone.name ++ [0x20#8, 0x52#8, 0x55#8, 0x4E#8]), d.colour, .steady⟩)
      ∧ (∀ c rest, callsInScope s (.zone z) = c :: rest → shownAs s c (contentOf s b f d)
        ∧ (contentOf s b f d).text = lineIn d.width (trimEnd zone.name ++ [0x20#8] ++ trimEnd (s.classDef c.cls).name
          ++ if c.level = 0 then [] else 0x2B#8 :: decimal c.level)))
    ∧ (∀ scope k, d.kind = .list scope k → 1 ≤ k →
      ((callsInScope s scope).length < k →
        contentOf s b f d = ⟨List.replicate d.width 0x20#8, d.colour, .steady⟩)
      ∧ (∀ c, (callsInScope s scope)[k - 1]? = some c → shownAs s c (contentOf s b f d)
        ∧ ∃ origin age, (∀ n x, c.origin = .station n → s.stationDef n = some x → origin = lineIn 6 x.name)
          ∧ (∀ n, c.origin = .tag n → origin = lineIn 6 (0x4C#8 :: decimal n))
          ∧ (c.raised ≤ s.timeOfDay → age = (s.timeOfDay - c.raised) / 60)
          ∧ (s.timeOfDay < c.raised → age = (s.timeOfDay + 86400 - c.raised) / 60)
          ∧ (contentOf s b f d).text = lineIn d.width (origin ++ [0x20#8] ++ lineIn 8 (s.classDef c.cls).name
            ++ [0x20#8] ++ numberIn 3 (decimal age))))
    ∧ (∀ figure p, d.kind = .count figure →
      ((s.shiftState = .none ∧ s.previous = some p)
        ∨ (s.shiftState ≠ .none ∧ s.shift.map (fun sh => freeze s.shiftState sh s.timeOfDay) = some p) →
      ∃ t, figureWritten p figure t ∧ contentOf s b f d =
        ⟨(t.map (numberIn d.width)).getD (List.replicate d.width 0x2D#8), d.colour, .steady⟩))
    ∧ (∀ figure, d.kind = .count figure → s.shiftState = .none → s.previous = none →
      contentOf s b f d = ⟨List.replicate d.width 0x2D#8, d.colour, .steady⟩)
    ∧ (d.kind = .clock → s.timeOfDay < 86400 → contentOf s b f d =
      ⟨if s.clockSet then numberIn d.width (twoPlaces (s.timeOfDay / 3600) ++ [0x3A#8]
          ++ twoPlaces (s.timeOfDay / 60 % 60))
        else List.replicate d.width 0x2D#8, d.colour, .steady⟩)
    ∧ (d.kind = .shift → ∃ word, contentOf s b f d = ⟨lineIn d.width word, d.colour, .steady⟩
      ∧ (s.shiftState = .none → word = bytesOf "NO SHIFT") ∧ (s.shiftState = .overtime → word = bytesOf "OVERTIME")
      ∧ (∀ sh left, s.shift = some sh → sh.remaining = some left →
        (s.shiftState = .work → word = bytesOf "WORK " ++ decimal ((left + 599) / 600))
        ∧ (s.shiftState = .pause → word = bytesOf "BREAK " ++ decimal ((left + 599) / 600))))
    ∧ (d.kind = .text → contentOf s b f d =
      ⟨lineIn d.width (pick (pick s.fields b) f).text, d.colour, .steady⟩)

/-- DEFINE LINKS in CONFIG: the link settings are replaced; besides them only the inputs being timed, the free-value
counter and the host link may change, an input that is not being timed stays as it is, and one being timed whose
debounce time becomes 0 is taken; of the others being timed whether they are is a free value (DESIGN CHOICE, log entry
5). -/
def Obligations.DefineLinksTaken : Prop :=
  ∀ (tag : Byte) (body : List Byte) (s : State) (l : LinkSettings) (clamped : Bool),
    atTurn 33#8 tag body s → s.mode = .config → body.length = 81 → readLinks body = some (l, clamped) →
    ∃ t, exec (.defineLinks tag body) s = .next t
      ∧ t = { s with defs := { s.defs with links := l }, inputs := t.inputs, freeCount := t.freeCount, host := t.host }
      ∧ answeredLast 33#8 tag (if clamped then .adjusted else .done) .empty s t
      ∧ ∀ k, 1 ≤ k → k ≤ 16 → (pick t.inputs k).raw = (pick s.inputs k).raw
        ∧ ((pick s.inputs k).timing = false → pick t.inputs k = pick s.inputs k)
        ∧ ((pick s.inputs k).timing = true → (pick l.inputs k).debounceMs = 0 →
          (pick s.defs.links.inputs k).debounceMs ≠ 0 →
          pick t.inputs k = ⟨(pick s.inputs k).raw, (pick s.inputs k).raw, false⟩)

/-- The DEFINE requests of one body length: a body of any other length is answered BAD FORMAT, and in RUN a body of the
right length is answered WRONG MODE; either way nothing changes but the host link. -/
def Obligations.DefinesRefused : Prop :=
  ∀ (tag : Byte) (body : List Byte) (s : State) (kind : Byte) (length : Nat) (i : Instr),
    (kind, length, i) ∈ [(24#8, 10, Instr.defineSection tag body), (25#8, 15, .defineZone tag body),
      (26#8, 10, .defineStation tag body), (27#8, 14, .defineClass tag body), (28#8, 21, .defineCodeMap tag body),
      (29#8, 12, .defineLadder tag body), (31#8, 3, .defineBoard tag body), (32#8, 9, .defineField tag body),
      (33#8, 81, .defineLinks tag body), (34#8, 2, .defineAccount tag body)] →
    atTurn kind tag body s →
    (body.length ≠ length →
      exec i s = .next { s with host := s.host.answered kind tag body .badFormat .empty })
    ∧ (body.length = length → s.mode = .run →
      exec i s = .next { s with host := s.host.answered kind tag body .wrongMode .empty })

/-! ## Modes, reset, store, clock (R184, R188, R189, R192–R194) -/

/-- A reset in every state. With an INVALID store it ends in CONFIG with the empty definitions, every volatile field at
its starting value. With a VALID one its copy becomes the working definitions; if a check of ENTER RUN fails it ends in
CONFIG with that reason and index; if they pass it ends in RUN with the starting steps taken: every defined board has a
CLEAR queued and its defined fields marked, and the full pass has settled each equation from its idle values. The strap
pins select the baud rate, and each input's debounced state is its raw state. RESTART with an empty body is that reset,
the pins read as they stand (the model's free value: log entry 7), and nothing is answered; with any other body it is
answered BAD FORMAT and no reset is taken (that the empty body is the one of the right length: DESIGN CHOICE, log entry
30). -/
def Obligations.ResetTaken : Prop :=
  ∀ (s base : State) (a b : Bool),
    base = { State.reset with
      store := s.store, straps := (a, b), freeCount := s.freeCount, pending := s.pending
      inputs := alterAll s.inputs (fun _ x => ⟨x.raw, x.raw, false⟩)
      host := { startHost with
        baud := if a then (if b then 115200 else 57600) else (if b then 38400 else 19200) } } →
    (s.store = none → exec (.reset a b) s = .next base)
    ∧ (∀ d r k, s.store = some d → configCheck d = some (r, k) →
      exec (.reset a b) s = .next { base with defs := d, startNote := .rejected r k })
    ∧ (∀ d, s.store = some d → configCheck d = none →
      ∃ t, exec (.reset a b) s = .next t
        ∧ t = { base with
            defs := d, mode := .run, startNote := .loaded, refreshTimer := refreshLoad t, boards := t.boards
            fields := t.fields, equations := t.equations, flags := t.flags, relays := t.relays, tunes := t.tunes }
        ∧ (∀ n, 1 ≤ n → n ≤ 8 → pick t.boards n =
          if (t.boardDepth n).isSome = true then { startBoard with queue := [clearFrame], clearing := true }
          else startBoard)
        ∧ (∀ n f, 1 ≤ n → n ≤ 8 → 1 ≤ f → f ≤ 12 → pick (pick t.fields n) f = { startField with
            marked := (t.boardDepth n).isSome && (t.fieldDef n f).isSome })
        ∧ (∀ i, 1 ≤ i → i ≤ 48 →
          (∀ e, t.equationDef i = some e →
            pick t.equations i = takeRaw e.delay startEquation (rawValue t e.terms))
          ∧ (t.equationDef i = none → pick t.equations i = startEquation))
        ∧ outputsFollow t)
    ∧ (∀ tag : Byte, atTurn 21#8 tag [] s → (a, b) = Config.strapLevels s.freeCount →
      ∃ t, exec (.restart tag []) s = .next t
        ∧ exec (.reset a b) { s with freeCount := s.freeCount + 1 } = .next t)
    ∧ (∀ (tag : Byte) (body : List Byte), atTurn 21#8 tag body s → body ≠ [] →
      exec (.restart tag body) s = .next { s with host := s.host.answered 21#8 tag body .badFormat .empty })

/-- The state that State.reset names is the state a reset leaves, with an INVALID store and the strap pins and inputs
low (DESIGN CHOICE for the store, the pins and the inputs: log entry 7; for the unused code map entries: log entry 27;
for the model's own fields: log entry 17). -/
def Obligations.ResetStateIsAfterReset : Prop :=
  exec (.reset false false) State.reset = .next State.reset

/-- ENTER RUN with definitions that agree: the mode is RUN, the trackers, stop logic (its unattributed times kept), the
loop controllers, the defined stations and the board link are at their starting values, every defined board has a CLEAR
queued and its defined fields marked, and the full pass takes each equation's raw value, which is that of its terms in
the state it leaves, through its delay, the flags, relays and tune channels following; with definitions that do not
agree it is answered BAD CONFIG with the reason and the index, and nothing changes but the host link. That the
unattributed time of an undefined section is kept too is the model's choice (DESIGN CHOICE, log entry 25: R68 and R71
against R52). -/
def Obligations.EnterRunTaken : Prop :=
  ∀ (tag : Byte) (s : State), atTurn 18#8 tag [] s → s.mode = .config →
    (configCheck s.defs = none →
      ∃ t, exec (.enterRun tag []) s = .next t ∧ answeredLast 18#8 tag Result.done .empty s t
        ∧ t = { s with mode := .run, shiftState := .none, shift := none
                       trackers := Vector.replicate 4 startTracker, loopA := startLoop, loopB := startLoop
                       link := startBoardLink, refreshTimer := refreshLoad s, stops := t.stops
                       stations := t.stations, boards := t.boards, fields := t.fields, equations := t.equations
                       flags := t.flags, relays := t.relays, tunes := t.tunes, host := t.host }
        ∧ (∀ n, 1 ≤ n → n ≤ 4 → pick t.stops n = { startStop with unattributed := (pick s.stops n).unattributed })
        ∧ (∀ n, 1 ≤ n → n ≤ 96 → (s.stationDef n).isSome = true → pick t.stations n = startStation)
        ∧ (∀ b, 1 ≤ b → b ≤ 8 → (s.boardDepth b).isSome = true →
          pick t.boards b = { startBoard with queue := [clearFrame], clearing := true })
        ∧ (∀ b f, 1 ≤ b → b ≤ 8 → 1 ≤ f → f ≤ 12 → pick (pick t.fields b) f = { pick (pick s.fields b) f with
            marked := (pick (pick s.fields b) f).marked || ((s.boardDepth b).isSome && (s.fieldDef b f).isSome) })
        ∧ (∀ i e, 1 ≤ i → i ≤ 48 → s.equationDef i = some e →
          pick t.equations i = takeRaw e.delay (pick s.equations i) (rawValue t e.terms))
        ∧ (outputsFollow s → outputsFollow t))
    ∧ (∀ r k, configCheck s.defs = some (r, k) →
      exec (.enterRun tag []) s =
        .next { s with host := s.host.answered 18#8 tag [] .badConfig (.badConfig r k) })

/-- ENTER CONFIG in the shift state NONE: every call is closed as PURGED, its record appended to the history queue in
display order (the oldest records dropped beyond 128 and counted), stop logic gives up its holds and releases its
requests, the loops stop polling, their announcements four spaces, nothing is in flight and the board queues are empty,
the equation unit is idle, and the mode is CONFIG; the trackers, the definitions, the coast and unattributed counts and
the report mask are kept. -/
def Obligations.EnterConfigTaken : Prop :=
  ∀ (tag : Byte) (s : State), atTurn 17#8 tag [] s → s.mode = .run → s.shiftState = .none →
    ∃ t, exec (.enterConfig tag []) s = .next t ∧ answeredLast 17#8 tag Result.done .empty s t
      ∧ (s.history.length ≤ 128 → s.nextSeq < 65536 → s.overflowCount ≤ 255 → (s.calls.map (·.number)).Nodup →
        recordsAppended ((displayOrder s).map (closingOf s .purged)) s t)
      ∧ t.mode = .config ∧ t.calls = [] ∧ t.arrivalCount = 0 ∧ t.lastNumber = s.lastNumber
      ∧ (∀ n, 1 ≤ n → n ≤ 4 → pick t.stops n =
          { startStop with coast := (pick s.stops n).coast, unattributed := (pick s.stops n).unattributed })
      ∧ t.loopA.polled = none ∧ t.loopB.polled = none ∧ t.loopA.zonesOwed = [] ∧ t.loopB.zonesOwed = []
      ∧ t.loopA.stationsOwed = [] ∧ t.loopB.stationsOwed = []
      ∧ (∀ l z, 1 ≤ z → z ≤ 24 → pick (t.loop l).announcements z = List.replicate 4 0x20#8)
      ∧ (∀ n, 1 ≤ n → n ≤ 96 → (s.stationDef n).isSome = true →
        pick t.stations n = { startStation with
          goodReplies := (pick s.stations n).goodReplies, misses := (pick s.stations n).misses
          rejectedEvents := (pick s.stations n).rejectedEvents })
      ∧ t.link.inFlight = none
      ∧ (∀ b, 1 ≤ b → b ≤ 8 → (pick t.boards b).queue = [] ∧ (pick t.boards b).state = .unknown
        ∧ (pick t.boards b).delivered = (pick s.boards b).delivered)
      ∧ equationsIdle t ∧ t.defs = s.defs ∧ t.store = s.store ∧ t.trackers = s.trackers ∧ t.previous = s.previous
      ∧ t.timeOfDay = s.timeOfDay ∧ t.inputs = s.inputs ∧ t.host.reports = s.host.reports

/-- The settings store: STORE SETTINGS makes the store INVALID and is not answered while the write goes on; when it ends
the store is VALID with the working definitions and the reply is DONE, or stays INVALID and the reply is STORE FAILED;
RECALL SETTINGS of a VALID store replaces the definitions, starts the trackers and empties the texts, and of an INVALID
one is answered NOT FOUND. -/
def Obligations.SettingsStoreTaken : Prop :=
  ∀ (tag : Byte) (s : State), s.mode = .config →
    (atTurn 19#8 tag [] s →
      exec (.storeSettings tag []) s =
        .next { s with store := none, host := { s.host.holding 19#8 tag [] with serving := .storing } })
    ∧ (∀ (agrees : Bool) r rest, settled s = true → s.host.serving = .storing → s.host.requests = r :: rest →
      s.host.outbound.length < Config.outboundCapacity →
      exec (.storeComplete agrees) s =
        .next { s with
          store := if agrees then some s.defs else none
          host := (s.host.enter (.reply r.tag r.kind (if agrees then .done else .storeFailed) .empty)).leave })
    ∧ (∀ d, atTurn 20#8 tag [] s → s.store = some d →
      ∃ t, exec (.recallSettings tag []) s = .next t ∧ answeredLast 20#8 tag Result.done .empty s t
        ∧ t = { s with defs := d, trackers := Vector.replicate 4 startTracker, fields := t.fields
                       inputs := t.inputs, freeCount := t.freeCount, host := t.host }
        ∧ ∀ b f, 1 ≤ b → b ≤ 8 → 1 ≤ f → f ≤ 12 →
          pick (pick t.fields b) f = { pick (pick s.fields b) f with text := [] })
    ∧ (atTurn 20#8 tag [] s → s.store = none →
      exec (.recallSettings tag []) s = .next { s with host := s.host.answered 20#8 tag [] .notFound .empty })

/-- SET CLOCK and SET REPORTS: the time of day takes the value, the tick count within the second becomes 0 and the clock
is set; the report mask takes the eight enables. SET CLOCK changes besides only what the boards are to show: the last
contents of fields, and the queues and refreshes owed of boards; in CONFIG not these. -/
def Obligations.SetClockAndReportsTaken : Prop :=
  ∀ (tag : Byte) (body : List Byte) (s : State),
    (atTurn 22#8 tag body s → body.length = 3 → tripleAt body 0 ≤ 86399 →
      ∃ t, exec (.setClock tag body) s = .next t
        ∧ t = { s with timeOfDay := tripleAt body 0, tenths := 0, clockSet := true
                       boards := t.boards, fields := t.fields, host := t.host }
        ∧ sameButShown { s with timeOfDay := tripleAt body 0, tenths := 0, clockSet := true, host := t.host } t
        ∧ t.host = s.host.answered 22#8 tag body Result.done (.clock s.timeOfDay (tripleAt body 0))
        ∧ (s.mode = .config → t.boards = s.boards ∧ t.fields = s.fields))
    ∧ (atTurn 22#8 tag body s → body.length = 3 → 86399 < tripleAt body 0 →
      exec (.setClock tag body) s = .next { s with host := s.host.answered 22#8 tag body .badValue .empty })
    ∧ (∀ mask, atTurn 23#8 tag body s → body.length = 8 → readReports body = some mask →
      ∃ t, exec (.setReports tag body) s = .next t ∧ sameButHost s t ∧ t.host.reports = mask
        ∧ answeredLast 23#8 tag Result.done (.reports mask) s t)

/-! ## The shift (R122–R138) -/

/-- START SHIFT in RUN and the shift state NONE: the plan, takt and volume are stored as clamped, every count is 0, the
first period runs, each section's unattributed stop time is 0, and the zone announcements follow the shift state. -/
def Obligations.StartShiftTaken : Prop :=
  ∀ (tag : Byte) (body : List Byte) (s : State) (asked : List Period), atTurn 40#8 tag body s → s.mode = .run →
    s.shiftState = .none → planFits body = true → readPlan body = some asked →
    ∃ t sh r reply, exec (.startShift tag body) s = .next t ∧ t.shift = some sh
      ∧ answeredLast 40#8 tag r reply s t
      ∧ (r = .done ∨ r = .adjusted)
      ∧ (r = .done ↔ (∀ p ∈ asked, 1 ≤ p.minutes ∧ p.minutes ≤ 600)
        ∧ 300 ≤ wordAt body (3 * byteAt body 0 + 1) ∧ wordAt body (3 * byteAt body 0 + 1) ≤ 3000
        ∧ wordAt body (3 * byteAt body 0 + 3) ≤ 9999)
      ∧ reply = .shiftStarted t.shiftState sh.plan.length
          ((sh.plan.filter fun p => p.kind = .work).map fun p => p.minutes * 600).sum sh.takt sh.volume
      ∧ sh.plan = asked.map clampPeriod ∧ (∀ p ∈ sh.plan, 1 ≤ p.minutes ∧ p.minutes ≤ 600)
      ∧ sh.takt = max 300 (min 3000 (wordAt body (3 * byteAt body 0 + 1)))
      ∧ sh.volume = min 9999 (wordAt body (3 * byteAt body 0 + 3))
      ∧ sh.worked = 0 ∧ sh.target = 0 ∧ sh.fraction = 0 ∧ sh.actual = 0 ∧ sh.start = s.timeOfDay
      ∧ sh.andonStop = Vector.replicate 4 0 ∧ sh.otherStop = Vector.replicate 4 0
      ∧ sh.index = some 1 ∧ (∃ p, sh.plan.head? = some p ∧ sh.remaining = some (p.minutes * 600)
        ∧ t.shiftState = p.kind.toShift)
      ∧ (∀ n, 1 ≤ n → n ≤ 4 → pick t.stops n = { pick s.stops n with unattributed := 0 })
      ∧ loopsAnnounce s t
      ∧ sameButShown { s with shift := t.shift, shiftState := t.shiftState, stops := t.stops
                              loopA := t.loopA, loopB := t.loopB } t

/-- END SHIFT: the figures are frozen as the previous shift, a SHIFT CLOSED record is appended to the history queue with
the next sequence, the oldest record dropped from a full queue and counted, the shift state is NONE and the zone
announcements follow it; the calls, the trackers and stop logic are kept. -/
def Obligations.EndShiftTaken : Prop :=
  ∀ (tag : Byte) (s : State) (sh : Shift), atTurn 41#8 tag [] s → s.mode = .run → s.shiftState ≠ .none →
    s.shift = some sh →
    ∃ t, exec (.endShift tag []) s = .next t ∧ t.shiftState = .none ∧ t.shift = none
      ∧ t.previous = some (freeze s.shiftState sh s.timeOfDay)
      ∧ answeredLast 41#8 tag Result.done (.shiftEnded (freeze s.shiftState sh s.timeOfDay)) s t
      ∧ t.history = (if s.history.length < 128 then s.history else s.history.drop 1) ++ [⟨s.nextSeq, .shiftClosed
          { start := sh.start, finish := s.timeOfDay, worked := sh.worked, volume := sh.volume, takt := sh.takt
            target := sh.target, actual := sh.actual, entries := sectionEntries s sh }⟩]
      ∧ t.nextSeq = (if s.nextSeq < 65535 then s.nextSeq + 1 else 0)
      ∧ t.overflowCount = (if s.history.length < 128 then s.overflowCount else min 255 (s.overflowCount + 1))
      ∧ loopsAnnounce s t
      ∧ sameButShown { s with
          shift := none, shiftState := .none, previous := t.previous, history := t.history, nextSeq := t.nextSeq
          overflowCount := t.overflowCount, staleTimer := t.staleTimer, loopA := t.loopA, loopB := t.loopB } t

/-- SET TAKT, SET VOLUME and CORRECT ACTUAL with a shift running: the takt, and a fraction at or above it lowered to T −
1; the volume, a target above it lowered to it and the fraction then 0; the actual plus the amount, each clamped. No
other figure changes, and of the rest only the boards, the equation unit and the host link may. -/
def Obligations.ShiftCorrectionsTaken : Prop :=
  ∀ (tag : Byte) (body : List Byte) (s : State) (sh : Shift), s.mode = .run → s.shiftState ≠ .none →
    s.shift = some sh → body.length = 2 →
    (atTurn 42#8 tag body s →
      ∃ t now, exec (.setTakt tag body) s = .next t
        ∧ now = { sh with
            takt := max 300 (min 3000 (wordAt body 0))
            fraction := min sh.fraction (max 300 (min 3000 (wordAt body 0)) - 1) }
        ∧ sameButShown { s with shift := some now } t ∧ t.equations = s.equations
        ∧ answeredLast 42#8 tag (if 300 ≤ wordAt body 0 ∧ wordAt body 0 ≤ 3000 then .done else .adjusted)
            (.takt now.takt now.fraction now.target) s t)
    ∧ (atTurn 43#8 tag body s →
      ∃ t now, exec (.setVolume tag body) s = .next t
        ∧ now = { sh with
            volume := min 9999 (wordAt body 0), target := min sh.target (min 9999 (wordAt body 0))
            fraction := if min 9999 (wordAt body 0) ≤ sh.target then 0 else sh.fraction }
        ∧ sameButShown { s with shift := some now } t
        ∧ answeredLast 43#8 tag (if wordAt body 0 ≤ 9999 then .done else .adjusted)
            (.volume now.volume now.target now.fraction) s t)
    ∧ (atTurn 44#8 tag body s → sh.actual ≤ 9999 →
      ∃ (t : State) (after : Nat), exec (.correctActual tag body) s = .next t
        ∧ (after : Int) = max 0 (min 9999 ((sh.actual : Int) + max (-99) (min 99 (signedAt body 0))))
        ∧ sameButShown { s with shift := some { sh with actual := after } } t
        ∧ answeredLast 44#8 tag
            (if (after : Int) = (sh.actual : Int) + signedAt body 0 ∧ -99 ≤ signedAt body 0 ∧ signedAt body 0 ≤ 99
              then .done else .adjusted)
            (.corrected (max (-99) (min 99 (signedAt body 0))) sh.actual after) s t)

/-- The five requests on the shift: with a body that fits, in CONFIG they are answered WRONG MODE; in RUN, START SHIFT
while a shift runs and the other four while none does are answered WRONG STATE; nothing changes but the host link. -/
def Obligations.ShiftRequestsRefused : Prop :=
  ∀ (tag : Byte) (body : List Byte) (s : State),
    (∀ asked, atTurn 40#8 tag body s → planFits body = true → readPlan body = some asked →
      (s.mode = .config →
        exec (.startShift tag body) s = .next { s with host := s.host.answered 40#8 tag body .wrongMode .empty })
      ∧ (s.mode = .run → s.shiftState ≠ .none →
        exec (.startShift tag body) s = .next { s with host := s.host.answered 40#8 tag body .wrongState .empty }))
    ∧ ∀ (kind : Byte) (length : Nat) (i : Instr),
      (kind, length, i) ∈ [(41#8, 0, Instr.endShift tag body), (42#8, 2, .setTakt tag body),
        (43#8, 2, .setVolume tag body), (44#8, 2, .correctActual tag body)] →
      atTurn kind tag body s → body.length = length →
      (s.mode = .config → exec i s = .next { s with host := s.host.answered kind tag body .wrongMode .empty })
      ∧ (s.mode = .run → s.shiftState = .none →
        exec i s = .next { s with host := s.host.answered kind tag body .wrongState .empty })


/-! ## Requests on calls and sections (R28, R29, R65) -/

/-- RAISE CALL in RUN for an origin tag, a class and a defined zone. A standing call of that origin and class is
repeated: its repeat count rises, and only that if it is not CARRIED; a CARRIED one of class FIXED is OPEN again and
re-armed, one of class IMMEDIATE is HOLDING again, last in its section's hold order, its first hold kept. Otherwise,
with room, one record is added under a number no other has, OPEN, or HOLDING and last in its section's hold order for
the class behaviour IMMEDIATE; with the arrival order 4,294,967,295 the standing records take 0, 1, 2 and so on in their
order, and the arrival count is their number; without room the answer is FULL and nothing changes but the host link.
With a stop request the zone announcements change. -/
def Obligations.RaiseCallTaken : Prop :=
  ∀ (tag : Byte) (body : List Byte) (s : State) (z : ZoneDef), atTurn 48#8 tag body s → s.mode = .run →
    body.length = 3 → 1 ≤ byteAt body 0 → byteAt body 0 ≤ 32 → 1 ≤ byteAt body 1 → byteAt body 1 ≤ 8 →
    1 ≤ byteAt body 2 → byteAt body 2 ≤ 24 → s.zoneDef (byteAt body 2) = some z →
    (∀ c, callFrom s (.tag (byteAt body 0)) (byteAt body 1) = some c → c.state ≠ .carried →
      ∃ t, exec (.raiseCall tag body) s = .next t
        ∧ answeredLast 48#8 tag .done (.callRaised false c.number c.state c.zone) s t
        ∧ sameButShown
            { s with calls := withRecord s c { c with repeats := min 15 (c.repeats + 1) }, stations := t.stations } t
        ∧ lampFollows c s t)
    ∧ (∀ c now, callFrom s (.tag (byteAt body 0)) (byteAt body 1) = some c → c.state = .carried →
      ((s.classDef c.cls).stop = .fixed →
        now = { c with repeats := min 15 (c.repeats + 1), state := .opened, distance := arming s c.zone c.sec } →
        ∃ t, exec (.raiseCall tag body) s = .next t
          ∧ answeredLast 48#8 tag .done (.callRaised false c.number .opened c.zone) s t
          ∧ sameButShown { s with calls := withRecord s c now, stations := t.stations } t ∧ lampFollows c s t)
      ∧ ((s.classDef c.cls).stop = .immediate → 1 ≤ c.sec → c.sec ≤ 4 →
        now = { c with repeats := min 15 (c.repeats + 1), state := .holding } →
        ∃ t, exec (.raiseCall tag body) s = .next t
          ∧ answeredLast 48#8 tag .done (.callRaised false c.number .holding c.zone) s t
          ∧ sameButShown { s with calls := withRecord s c now, stations := t.stations, stops := t.stops
                                  loopA := t.loopA, loopB := t.loopB } t
          ∧ lampFollows c s t ∧ holdEntered c.sec c.number s t ∧ loopsAnnounce s t))
    ∧ (callFrom s (.tag (byteAt body 0)) (byteAt body 1) = none → hasRoom s (byteAt body 1) = true →
      s.arrivalCount ≤ 4294967295 →
      ∃ (t : State) (c : Call) (all : List Call) (count : Nat), exec (.raiseCall tag body) s = .next t ∧ t.calls = all
        ∧ (s.arrivalCount < 4294967295 → all = s.calls ++ [c] ∧ count = s.arrivalCount + 1)
        ∧ (s.arrivalCount = 4294967295 →
          all = (s.calls ++ [c]).mapIdx (fun i (x : Call) => { x with arrival := i }) ∧ count = s.calls.length + 1)
        ∧ (∀ x ∈ s.calls, x.number ≠ c.number) ∧ 1 ≤ c.number ∧ c.number ≤ 9999
        ∧ c = { number := c.number, arrival := s.arrivalCount, origin := .tag (byteAt body 0)
                cls := byteAt body 1, zone := byteAt body 2, sec := z.sec
                state := if (s.classDef (byteAt body 1)).stop = .immediate then .holding else .opened
                raised := s.timeOfDay, answered := none
                firstHold := if (s.classDef (byteAt body 1)).stop = .immediate then some s.timeOfDay else none
                distance := if (s.classDef (byteAt body 1)).stop = .fixed then arming s (byteAt body 2) z.sec else none
                heldTime := 0, level := 0, timer := firstTimer s (byteAt body 1), repeats := 0, carried := false }
        ∧ answeredLast 48#8 tag .done (.callRaised true c.number c.state (byteAt body 2)) s t
        ∧ ((s.classDef (byteAt body 1)).stop ≠ .immediate →
          sameButShown { s with calls := all, lastNumber := c.number, arrivalCount := count } t)
        ∧ ((s.classDef (byteAt body 1)).stop = .immediate → 1 ≤ z.sec → z.sec ≤ 4 →
          sameButShown { s with
            calls := all, lastNumber := c.number, arrivalCount := count
            stops := t.stops, loopA := t.loopA, loopB := t.loopB } t
          ∧ loopsAnnounce s t
          ∧ ∀ n, 1 ≤ n → n ≤ 4 → pick t.stops n =
            if n = z.sec then { pick s.stops n with
              holdOrder := (pick s.stops n).holdOrder ++ [c.number], request := true
              coast := if (pick s.stops n).request then (pick s.stops n).coast else 0 }
            else pick s.stops n))
    ∧ (callFrom s (.tag (byteAt body 0)) (byteAt body 1) = none → hasRoom s (byteAt body 1) = false →
      exec (.raiseCall tag body) s = .next { s with host := s.host.answered 48#8 tag body .full .empty })

/-- ACT ON CALL in RUN for a standing call's number. ANSWER sets an absent answered field and under the basis UNANSWERED
removes the escalation timer; CARRY makes a carriable call CARRIED and answered, and takes it from the hold order; CLEAR
and CANCEL append its CALL CLOSED record, take it from the hold order and remove it; a call that is not carriable is
answered WRONG STATE and a number no call has NOT FOUND, with nothing changed but the host link. With a stop request the
zone announcements change. -/
def Obligations.ActOnCallTaken : Prop :=
  ∀ (tag : Byte) (body : List Byte) (s : State), atTurn 49#8 tag body s → s.mode = .run → body.length = 3 →
    1 ≤ wordAt body 0 → wordAt body 0 ≤ 9999 →
    (s.callOf (wordAt body 0) = none → byteAt body 2 ≤ 3 →
      exec (.actOnCall tag body) s = .next { s with host := s.host.answered 49#8 tag body .notFound .empty })
    ∧ (∀ c, s.callOf (wordAt body 0) = some c → byteAt body 2 = 0 → c.answered.isSome = true →
      exec (.actOnCall tag body) s =
        .next { s with host := s.host.answered 49#8 tag body Result.done (.callActed c.number c.state) })
    ∧ (∀ c, s.callOf (wordAt body 0) = some c → byteAt body 2 = 0 → c.answered = none →
      ∃ t, exec (.actOnCall tag body) s = .next t
        ∧ answeredLast 49#8 tag .done (.callActed c.number c.state) s t
        ∧ sameButShown { s with
            calls := withRecord s c { c with
              answered := some s.timeOfDay
              timer := if (ladderOf s c.cls).map (·.basis) = some .unanswered then none else c.timer }
            stations := t.stations } t
        ∧ lampFollows c s t)
    ∧ (∀ c, s.callOf (wordAt body 0) = some c → byteAt body 2 = 1 → carriable s c = false →
      exec (.actOnCall tag body) s = .next { s with host := s.host.answered 49#8 tag body .wrongState .empty })
    ∧ (∀ c, s.callOf (wordAt body 0) = some c → byteAt body 2 = 1 → carriable s c = true →
      ∃ t now, exec (.actOnCall tag body) s = .next t
        ∧ answeredLast 49#8 tag .done (.callActed c.number .carried) s t
        ∧ now = { c with
            state := .carried, distance := none, carried := true
            answered := some (c.answered.getD s.timeOfDay)
            timer := if c.answered = none ∧ (ladderOf s c.cls).map (·.basis) = some .unanswered then none
              else c.timer }
        ∧ sameButShown { s with calls := withRecord s c now, stations := t.stations, stops := t.stops
                                loopA := t.loopA, loopB := t.loopB } t
        ∧ lampFollows c s t
        ∧ (c.state = .holding → holdLeft c s t ∧ loopsAnnounce s t)
        ∧ (c.state ≠ .holding → t.stops = s.stops ∧ t.loopA = s.loopA ∧ t.loopB = s.loopB))
    ∧ (∀ c code outcome, (code, outcome) ∈ [(2, Closing.cleared), (3, Closing.cancelled)] →
      s.callOf (wordAt body 0) = some c → byteAt body 2 = code →
      ∃ t, exec (.actOnCall tag body) s = .next t
        ∧ answeredLast 49#8 tag .done (.callClosed c.number outcome) s t
        ∧ t.history = (if s.history.length < 128 then s.history else s.history.drop 1) ++
            [⟨s.nextSeq, .callClosed
              { number := c.number, origin := c.origin, cls := c.cls, zone := c.zone, sec := c.sec
                raised := c.raised, answered := c.answered, firstHold := c.firstHold, closed := s.timeOfDay
                outcome := outcome, level := c.level, repeats := c.repeats, heldTime := c.heldTime
                carried := c.carried }⟩]
        ∧ t.nextSeq = (if s.nextSeq < 65535 then s.nextSeq + 1 else 0)
        ∧ t.overflowCount = (if s.history.length < 128 then s.overflowCount else min 255 (s.overflowCount + 1))
        ∧ sameButShown { s with
            calls := s.calls.filter (fun x => x.number != c.number), stations := t.stations, stops := t.stops
            loopA := t.loopA, loopB := t.loopB, history := t.history, nextSeq := t.nextSeq
            overflowCount := t.overflowCount, staleTimer := t.staleTimer } t
        ∧ lampFollows c s t
        ∧ (c.state = .holding → holdLeft c s t ∧ loopsAnnounce s t)
        ∧ (c.state ≠ .holding → t.stops = s.stops ∧ t.loopA = s.loopA ∧ t.loopB = s.loopB))

/-- RESTART SECTION of a section: undefined, NOT FOUND; in CONFIG, WRONG MODE; held by a call or by its overflow hold,
WRONG STATE; with restart pending clear nothing changes but the host link, and with it set it is cleared and the stop
request released, the zone announcements following it. That an undefined section is answered NOT FOUND in CONFIG too,
the mode checked after it as R65 lists its checks, is the model's reading (DEDUCED, log entry 10: R187 might take the
mode check right after BAD FORMAT). -/
def Obligations.RestartSectionTaken : Prop :=
  ∀ (tag : Byte) (body : List Byte) (s : State), atTurn 51#8 tag body s → body.length = 1 →
    1 ≤ byteAt body 0 → byteAt body 0 ≤ 4 →
    (s.sectionDef (byteAt body 0) = none →
      exec (.restartSection tag body) s = .next { s with host := s.host.answered 51#8 tag body .notFound .empty })
    ∧ (∀ d, s.sectionDef (byteAt body 0) = some d →
      (s.mode = .config →
        exec (.restartSection tag body) s = .next { s with host := s.host.answered 51#8 tag body .wrongMode .empty })
      ∧ (s.mode = .run →
          ((pick s.stops (byteAt body 0)).holdOrder ≠ [] ∨ (pick s.stops (byteAt body 0)).overflow = true) →
        exec (.restartSection tag body) s =
          .next { s with host := s.host.answered 51#8 tag body .wrongState .empty })
      ∧ (s.mode = .run → (pick s.stops (byteAt body 0)).holdOrder = [] →
          (pick s.stops (byteAt body 0)).overflow = false →
        ((pick s.stops (byteAt body 0)).pending = false →
          exec (.restartSection tag body) s =
            .next { s with host := (s.host.answered 51#8 tag body Result.done
              (.restarted (byteAt body 0) (pick s.stops (byteAt body 0)).request false)) })
        ∧ ((pick s.stops (byteAt body 0)).pending = true →
          ∃ t, exec (.restartSection tag body) s = .next t
            ∧ answeredLast 51#8 tag .done (.restarted (byteAt body 0) false true) s t
            ∧ loopsAnnounce s t
            ∧ sameButShown { s with
                stops := alter s.stops (byteAt body 0) (fun x => { x with pending := false, request := false })
                loopA := t.loopA, loopB := t.loopB } t)))

/-- The requests with one body length, the DEFINE requests apart: a body of any other length is answered BAD FORMAT. So
are START SHIFT, DEFINE EQUATION and SET TEXT where the length does not fit the count in the body, and a SET TEXT that
gives more than 232 characters. Those of one mode that check it right after the length: in the other mode, with that
length, they are answered WRONG MODE; so are SET TEXT and FLUSH BOARD in CONFIG with their numbers in range, and DEFINE
EQUATION in RUN. Nothing changes but the host link. -/
def Obligations.RequestsRefusedByLengthOrMode : Prop :=
  ∀ (tag : Byte) (body : List Byte) (s : State) (kind : Byte) (length : Nat) (i : Instr),
    ((kind, length, i) ∈ [(16#8, 1, Instr.readStatus tag body), (17#8, 0, .enterConfig tag body),
      (18#8, 0, .enterRun tag body), (19#8, 0, .storeSettings tag body), (20#8, 0, .recallSettings tag body),
      (22#8, 3, .setClock tag body), (23#8, 8, .setReports tag body), (35#8, 3, .readDefinition tag body),
      (41#8, 0, .endShift tag body), (42#8, 2, .setTakt tag body), (43#8, 2, .setVolume tag body),
      (44#8, 2, .correctActual tag body), (45#8, 0, .readAccount tag body), (48#8, 3, .raiseCall tag body),
      (49#8, 3, .actOnCall tag body), (51#8, 1, .restartSection tag body), (52#8, 3, .readCalls tag body),
      (53#8, 1, .readSection tag body), (56#8, 2, .setFlag tag body), (58#8, 3, .readStations tag body),
      (59#8, 1, .readBoards tag body), (60#8, 1, .fetchHistory tag body), (61#8, 2, .releaseHistory tag body),
      (62#8, 1, .flushBoard tag body)] →
      atTurn kind tag body s → body.length ≠ length →
      exec i s = .next { s with host := s.host.answered kind tag body .badFormat .empty })
    ∧ ((kind, length, i) ∈ [(17#8, 0, Instr.enterConfig tag body), (48#8, 3, .raiseCall tag body),
      (49#8, 3, .actOnCall tag body), (61#8, 2, .releaseHistory tag body)] →
      atTurn kind tag body s → body.length = length → s.mode = .config →
      exec i s = .next { s with host := s.host.answered kind tag body .wrongMode .empty })
    ∧ ((kind, length, i) ∈ [(18#8, 0, Instr.enterRun tag body), (19#8, 0, .storeSettings tag body),
      (20#8, 0, .recallSettings tag body)] →
      atTurn kind tag body s → body.length = length → s.mode = .run →
      exec i s = .next { s with host := s.host.answered kind tag body .wrongMode .empty })
    ∧ (atTurn 40#8 tag body s → body = [] ∨ body.length ≠ 3 * byteAt body 0 + 5 →
      exec (.startShift tag body) s = .next { s with host := s.host.answered 40#8 tag body .badFormat .empty })
    ∧ (atTurn 30#8 tag body s → (body.length < 9 ∨ body.length ≠ 9 + 5 * byteAt body 8 →
        exec (.defineEquation tag body) s = .next { s with host := s.host.answered 30#8 tag body .badFormat .empty })
      ∧ (9 ≤ body.length → body.length = 9 + 5 * byteAt body 8 → s.mode = .run →
        exec (.defineEquation tag body) s = .next { s with host := s.host.answered 30#8 tag body .wrongMode .empty }))
    ∧ (atTurn 57#8 tag body s → (body.length < 3 ∨ body.length ≠ 3 + byteAt body 2 ∨ 232 < byteAt body 2 →
        exec (.setText tag body) s = .next { s with host := s.host.answered 57#8 tag body .badFormat .empty })
      ∧ (3 ≤ body.length → body.length = 3 + byteAt body 2 → byteAt body 2 ≤ 232 → 1 ≤ byteAt body 0 →
        byteAt body 0 ≤ 8 → 1 ≤ byteAt body 1 → byteAt body 1 ≤ 12 → s.mode = .config →
        exec (.setText tag body) s = .next { s with host := s.host.answered 57#8 tag body .wrongMode .empty }))
    ∧ (atTurn 62#8 tag body s → body.length = 1 → 1 ≤ byteAt body 0 → byteAt body 0 ≤ 8 → s.mode = .config →
      exec (.flushBoard tag body) s = .next { s with host := s.host.answered 62#8 tag body .wrongMode .empty })

/-! ## Flags, texts, boards, history, and a kind that is none (R114, R152, R169, R180, R187) -/

/-- SET FLAG of a flag and a value in range: in CONFIG, WRONG MODE; in RUN for a flag that a defined equation targets,
BAD VALUE (the mode checked first of these two, as R114 lists them: DEDUCED, log entry 10); otherwise the flag takes the
value, and besides the flags only the equation unit, its outputs and the host link may change. The other flags that no
equation targets stay, and the owned flags, the relays and the tune channels go on following their equations' outputs. A
flag that has the value already leads to no change at all but the answer. -/
def Obligations.SetFlagTaken : Prop :=
  ∀ (tag : Byte) (body : List Byte) (s : State) (value : Bool), atTurn 56#8 tag body s → body.length = 2 →
    1 ≤ byteAt body 0 → byteAt body 0 ≤ 32 → byteAt body 1 = (if value then 1 else 0) →
    (s.mode = .config →
      exec (.setFlag tag body) s = .next { s with host := s.host.answered 56#8 tag body .wrongMode .empty })
    ∧ (∀ i e, s.mode = .run → 1 ≤ i → i ≤ 48 → s.equationDef i = some e → e.target = .flag (byteAt body 0) →
      exec (.setFlag tag body) s = .next { s with host := s.host.answered 56#8 tag body .badValue .empty })
    ∧ (s.mode = .run →
      (∀ i e, 1 ≤ i → i ≤ 48 → s.equationDef i = some e → e.target ≠ .flag (byteAt body 0)) →
      ∃ t, exec (.setFlag tag body) s = .next t
        ∧ t = { s with
            equations := t.equations, flags := t.flags, relays := t.relays, tunes := t.tunes
            host := s.host.answered 56#8 tag body Result.done (.flag (byteAt body 0) value) }
        ∧ pick t.flags (byteAt body 0) = value
        ∧ (∀ f, 1 ≤ f → f ≤ 32 → f ≠ byteAt body 0 →
          (∀ i e, 1 ≤ i → i ≤ 48 → s.equationDef i = some e → e.target ≠ .flag f) → pick t.flags f = pick s.flags f)
        ∧ (definitionsAgree s → outputsFollow s → outputsFollow t)
        ∧ (pick s.flags (byteAt body 0) = value →
          t.equations = s.equations ∧ t.flags = s.flags ∧ t.relays = s.relays ∧ t.tunes = s.tunes))

/-- SET TEXT of a TEXT field in RUN: the field's text becomes the first 32 characters, those outside 32–126 as '?'; of
the rest only that field's last content, its board's queue and refresh owed, and the host link may change. A changed
content of a field not marked for refresh enters the queue: it takes the place of a queued frame of the field, or stands
at the end, or at a full queue the newest frame of the lowest priority gives way to a higher one, else it is dropped; a
drop makes a refresh owed. So does any field's content enter a queue (enqueue). FLUSH BOARD of a defined board in RUN:
its queue is one CLEAR, its fields are marked, its last outcome is FLUSHED; nothing else changes but the host link. -/
def Obligations.SetTextAndFlushTaken : Prop :=
  (∀ (depth : Nat) (fr : BoardFrame) (c : Content) (x : Board), fr.content = some c → queueSound x.queue →
      1 ≤ depth →
      ∃ dropped, entersQueue depth fr x.queue (enqueue depth fr c x).queue dropped
        ∧ enqueue depth fr c x = { x with
            queue := (enqueue depth fr c x).queue, owed := x.owed || dropped })
  ∧ ∀ (tag : Byte) (body : List Byte) (s : State), s.mode = .run → 1 ≤ byteAt body 0 → byteAt body 0 ≤ 8 →
    (s.boardDepth (byteAt body 0)).isSome = true →
    (∀ d, atTurn 57#8 tag body s → 3 ≤ body.length → byteAt body 2 ≤ 232 → body.length = 3 + byteAt body 2 →
      1 ≤ byteAt body 1 → byteAt body 1 ≤ 12 → s.fieldDef (byteAt body 0) (byteAt body 1) = some d →
      d.kind = .text →
      ∃ t, exec (.setText tag body) s = .next t
        ∧ t = { s with
            boards := t.boards, fields := t.fields
            host := (s.host.answered 57#8 tag body (if 32 < byteAt body 2 then .adjusted else .done)
              (.text (byteAt body 0) (byteAt body 1) (min 32 (byteAt body 2)))) }
        ∧ (pick (pick t.fields (byteAt body 0)) (byteAt body 1)).text =
            ((body.drop 3).take 32).map (fun x => if 32 ≤ x.toNat ∧ x.toNat ≤ 126 then x else 0x3F#8)
        ∧ (pick (pick t.fields (byteAt body 0)) (byteAt body 1)).marked =
            (pick (pick s.fields (byteAt body 0)) (byteAt body 1)).marked
        ∧ (∀ b f, 1 ≤ b → b ≤ 8 → 1 ≤ f → f ≤ 12 → (b, f) ≠ (byteAt body 0, byteAt body 1) →
          pick (pick t.fields b) f = pick (pick s.fields b) f)
        ∧ ∀ b, 1 ≤ b → b ≤ 8 → pick t.boards b =
          if b = byteAt body 0 then
            { pick s.boards b with queue := (pick t.boards b).queue, owed := (pick t.boards b).owed }
          else pick s.boards b)
    ∧ (∀ (d : FieldDef) (depth : Nat) (c : Content), atTurn 57#8 tag body s → 3 ≤ body.length → byteAt body 2 ≤ 232 →
      body.length = 3 + byteAt body 2 → 1 ≤ byteAt body 1 → byteAt body 1 ≤ 12 →
      s.fieldDef (byteAt body 0) (byteAt body 1) = some d → d.kind = .text →
      s.boardDepth (byteAt body 0) = some depth →
      c = ⟨(((body.drop 3).take 32).map (fun x => if 32 ≤ x.toNat ∧ x.toNat ≤ 126 then x else 0x3F#8)
        ++ List.replicate d.width 0x20#8).take d.width, d.colour, .steady⟩ →
      ∃ t, exec (.setText tag body) s = .next t
        ∧ (pick (pick t.fields (byteAt body 0)) (byteAt body 1)).last = some c
        ∧ ((pick (pick s.fields (byteAt body 0)) (byteAt body 1)).last = some c
            ∨ (pick (pick s.fields (byteAt body 0)) (byteAt body 1)).marked = true →
          pick t.boards (byteAt body 0) = pick s.boards (byteAt body 0))
        ∧ ((pick (pick s.fields (byteAt body 0)) (byteAt body 1)).last ≠ some c →
          (pick (pick s.fields (byteAt body 0)) (byteAt body 1)).marked = false →
          queueSound (pick s.boards (byteAt body 0)).queue →
          ∃ dropped, entersQueue depth ⟨byteAt body 1, 1, some c, 0, false⟩ (pick s.boards (byteAt body 0)).queue
              (pick t.boards (byteAt body 0)).queue dropped
            ∧ (pick t.boards (byteAt body 0)).owed = ((pick s.boards (byteAt body 0)).owed || dropped)))
    ∧ (atTurn 62#8 tag body s → body.length = 1 →
      exec (.flushBoard tag body) s =
        .next { s with
          boards := alter s.boards (byteAt body 0) (fun x =>
            { x with queue := [clearFrame], clearing := true, owed := false, lastOutcome := some .flushed })
          fields := alter s.fields (byteAt body 0) (fun row => alterAll row fun f x =>
            if (s.fieldDef (byteAt body 0) f).isSome then { x with marked := true } else x)
          host := (s.host.answered 62#8 tag body Result.done (.flushed (byteAt body 0)
            (pick s.boards (byteAt body 0)).state (pick s.boards (byteAt body 0)).queue.length)) })

/-- RELEASE HISTORY in RUN, the history queue being in order: a sequence that a record has removes that record and all
before it, and the stale timer with the last; a sequence that none has is answered NOT FOUND. Nothing else changes but
the host link. -/
def Obligations.ReleaseHistoryTaken : Prop :=
  ∀ (tag : Byte) (body : List Byte) (s : State), atTurn 61#8 tag body s → s.mode = .run → body.length = 2 →
    historyInOrder s → s.history.length ≤ 128 →
    (∀ i r, s.history[i]? = some r → r.seq = wordAt body 0 →
      ∃ t, exec (.releaseHistory tag body) s = .next t
        ∧ t = { s with
            history := s.history.drop (i + 1)
            staleTimer := if s.history.length = i + 1 then none else s.staleTimer
            host := t.host }
        ∧ ∃ oldest, answeredLast 61#8 tag .done
            (.released (i + 1) (s.history.length - (i + 1)) oldest ((s.nextSeq + 65535) % 65536)) s t)
    ∧ ((∀ r ∈ s.history, r.seq ≠ wordAt body 0) →
      exec (.releaseHistory tag body) s =
        .next { s with host := (s.host.answered 61#8 tag body .notFound
          (.released 0 s.history.length (oldestSeq s) (newestSeq s))) })

/-- A request of a kind that is no request kind is answered UNKNOWN KIND, with no body, and changes nothing but the host
link. -/
def Obligations.UnknownKindTaken : Prop :=
  ∀ (tag kind : Byte) (body : List Byte) (s : State), atTurn kind tag body s →
    ¬ (16 ≤ kind.toNat ∧ kind.toNat ≤ 35) → ¬ (40 ≤ kind.toNat ∧ kind.toNat ≤ 45) →
    kind.toNat ∉ [48, 49, 51, 52, 53] → ¬ (56 ≤ kind.toNat ∧ kind.toNat ≤ 62) →
    exec (.unknownKind tag kind body) s = .next { s with host := s.host.answered kind tag body .unknownKind .empty }

/-! ## The host line (R183, R185, R186) -/

/-- HOST FRAME RECEIVED, from outside a frame: the bytes of the frame that carries a tag, a kind and a body of up to 240
bytes put exactly that request at the end of the request queue, whatever bytes they are, with a pause mark at the sixth;
at a queue of 8 the request is lost and counted. -/
def Obligations.HostFrameCarriesRequest : Prop :=
  ∀ (tag kind : Byte) (body : List Byte) (s : State), settled s = true → s.host.receiver = .outside →
    body.length ≤ 240 →
    (s.host.requests.length < 8 →
      exec (.hostFrameReceived (frameBytes (tag :: kind :: BitVec.ofNat 8 body.length :: body))) s =
        .next { s with host := { s.host with
          requests := s.host.requests ++ [⟨tag, kind, body⟩]
          selfPaused := s.host.selfPaused || decide (s.host.requests.length = 5)
          lastMark := if s.host.selfPaused = false ∧ s.host.requests.length = 5 then some .pause
            else s.host.lastMark } })
    ∧ (8 ≤ s.host.requests.length →
      exec (.hostFrameReceived (frameBytes (tag :: kind :: BitVec.ofNat 8 body.length :: body))) s =
        .next { s with host := { s.host with lostRequests := min 65535 (s.host.lostRequests + 1) } })

/-- A host frame that is damaged counts as one bad frame and brings no request: one ended by a line break, one discarded
by a start mark inside it (a new frame then begins), one whose content grows past 245 bytes, one with a literal-next
mark before a byte that needs none, and one whose content is shorter than 5 bytes, does not end with the check of what
stands before, or has another body length than its length byte says, or one above 240. A line break outside a frame
changes nothing. That a frame with such a literal-next mark, or a length byte above 240, is received to its end mark and
counted there is the model's choice (DESIGN CHOICE, log entry 29). -/
def Obligations.DamagedHostFramesCounted : Prop :=
  ∀ (content : List Byte) (s counted : State), settled s = true → s.host.receiver = .outside →
    counted = { s with host := { s.host with badFrames := min 65535 (s.host.badFrames + 1) } } →
    exec (.hostLineBreak []) s = .next s
    ∧ (content.length ≤ 245 →
      exec (.hostLineBreak ([startMark] ++ escape content)) s = .next counted
      ∧ exec (.hostStartMarkInsideFrame ([startMark] ++ escape content)) s =
          .next { s with host := { s.host with
            receiver := .inside [] false false, badFrames := min 65535 (s.host.badFrames + 1) } }
      ∧ (content.length < 5
          ∨ (∃ x check, content = x ++ check ∧ check.length = 2 ∧ check ≠ checkBytes x)
          ∨ (∃ tag kind len body x, x = tag :: kind :: len :: body ∧ content = x ++ checkBytes x
            ∧ (body.length ≠ len.toNat ∨ 240 < len.toNat)) →
        exec (.hostFrameReceived ([startMark] ++ escape content ++ [endMark])) s = .next counted))
    ∧ (∀ (before : List Byte) (b : Byte) (after : List Byte), content = before ++ b :: after → content.length ≤ 245 →
      (b.toNat < 0xF0 ∨ 0xF4 < b.toNat) →
      exec (.hostFrameReceived ([startMark] ++ escape before ++ [literalMark, b] ++ escape after ++ [endMark])) s =
        .next counted)
    ∧ (content.length = 246 → exec (.hostContentPast245 ([startMark] ++ escape content)) s = .next counted)

/-- The flow of the outbound queue: a pause mark pauses output; a resume mark ends the pause, and the head begins; a
frame sent leaves the queue and the next begins unless output is paused; a reply that waited enters where there is room,
and its request leaves: where the count of requests so falls to 2 while self-paused, the self-pause ends with a resume
mark. Nothing else changes. That a frame sent while none is being sent, and a reply entering while none waits, change
nothing is the model's choice (DESIGN CHOICE, log entry 3). -/
def Obligations.OutboundQueueFlows : Prop :=
  ∀ s : State,
    (settled s = true →
      exec .hostPauseMark s = .next { s with host := { s.host with paused := true } }
      ∧ exec .hostResumeMark s =
          .next { s with host := { s.host with
            paused := false, sending := s.host.sending || !s.host.outbound.isEmpty } }
      ∧ (s.host.sending = false → exec .outboundFrameSent s = .next s)
      ∧ (∀ f rest, s.host.sending = true → s.host.outbound = f :: rest →
        exec .outboundFrameSent s =
          .next { s with host := { s.host with
            outbound := rest, sending := !s.host.paused && !rest.isEmpty } })
      ∧ exec .replyEntersOutbound s = .next s)
    ∧ (∀ f, s.host.serving = .replyWaits f → s.host.outbound.length < 32 →
      exec .replyEntersOutbound s = .next { s with host := { s.host with
        outbound := s.host.outbound ++ [f], requests := s.host.requests.drop 1, serving := .free
        sending := s.host.sending || !s.host.paused
        selfPaused := s.host.selfPaused && decide (s.host.requests.length ≠ 3)
        lastMark := if s.host.selfPaused = true ∧ s.host.requests.length = 3 then some .resume
          else s.host.lastMark } })

/-! ## Time (R67, R98, R99, R102, R112, R126–R128, R148, R168, R179, R194) -/

/-- TICK, nothing being due: each asserted stop request books the tick to its section's first holder, or to unattributed
time without one; the escalation timers fall by 1 outside PAUSE, the stale timer always, and the delay, refresh and
probe timers in RUN; the tick count rises by 1. -/
def Obligations.TickTaken : Prop :=
  ∀ s : State, settled s = true →
    ∃ t, exec .tick s = .next t
      ∧ t = { s with
          calls := t.calls, stops := t.stops, shift := t.shift, equations := t.equations
          refreshTimer := if s.mode = .run then s.refreshTimer.map (· - 1) else s.refreshTimer
          boards := t.boards, fields := t.fields
          staleTimer := s.staleTimer.map (· - 1), tenths := s.tenths + 1 }
      ∧ (∀ n, 1 ≤ n → n ≤ 4 → pick t.stops n =
          if (pick s.stops n).request = true ∧ (pick s.stops n).holdOrder = [] then
            { pick s.stops n with unattributed := min 999999 ((pick s.stops n).unattributed + 1) }
          else pick s.stops n)
      ∧ t.calls = s.calls.map (fun c => { c with
          heldTime := [1, 2, 3, 4].foldl (fun held n =>
            if (pick s.stops n).request = true ∧ (pick s.stops n).holdOrder.head? = some c.number then
              min 999999 (held + 1) else held) c.heldTime
          timer := if s.shiftState = .pause then c.timer else c.timer.map (· - 1) })
      ∧ (∀ i, 1 ≤ i → i ≤ 48 → pick t.equations i =
          if s.mode = .run then { pick s.equations i with timer := (pick s.equations i).timer.map (· - 1) }
          else pick s.equations i)
      ∧ (∀ b, 1 ≤ b → b ≤ 8 → pick t.boards b = { pick s.boards b with
          queue := (pick t.boards b).queue, owed := (pick t.boards b).owed
          probeTimer := if s.mode = .run then (pick s.boards b).probeTimer.map (· - 1)
            else (pick s.boards b).probeTimer })
      ∧ (∀ b f, 1 ≤ b → b ≤ 8 → 1 ≤ f → f ≤ 12 → pick (pick t.fields b) f =
          { pick (pick s.fields b) f with last := (pick (pick t.fields b) f).last })

/-- The shift account at a TICK, nothing being due: in WORK and OVERTIME the working time rises, the fraction rises
while the target is below the volume (the unit it may fill is due at once: DESIGN CHOICE, log entry 1), and a defined
section gains andon-stop time while its request is asserted, other-stop time while it is released and its run level
INACTIVE; the remaining time falls in WORK and PAUSE; nothing else of the shift changes, and in NONE, where no shift is
present, none comes to be. -/
def Obligations.TickAccrues : Prop :=
  ∀ s : State, settled s = true → (s.shift = none → ∃ t, exec .tick s = .next t ∧ t.shift = none) ∧ ∀ sh : Shift,
    s.shift = some sh → ∃ t sh', exec .tick s = .next t ∧ t.shift = some sh'
      ∧ (s.shiftState = .none → sh' = sh)
      ∧ (s.shiftState = .pause → sh' = { sh with remaining := sh.remaining.map (· - 1) })
      ∧ (s.shiftState = .work ∨ s.shiftState = .overtime →
        sh' = { sh with
          worked := min 999999 (sh.worked + 1)
          fraction := if sh.target < sh.volume then sh.fraction + 1 else sh.fraction
          remaining := if s.shiftState = .work then sh.remaining.map (· - 1) else sh.remaining
          andonStop := sh'.andonStop, otherStop := sh'.otherStop }
        ∧ ∀ n, 1 ≤ n → n ≤ 4 →
          pick sh'.andonStop n =
            (if (s.sectionDef n).isSome = true ∧ (pick s.stops n).request = true then
              min 999999 (pick sh.andonStop n + 1) else pick sh.andonStop n)
          ∧ pick sh'.otherStop n =
            (if (s.sectionDef n).isSome = true ∧ (pick s.stops n).request = false ∧ runLevel s n = some false then
              min 999999 (pick sh.otherStop n + 1) else pick sh.otherStop n))

/-- TARGET UNIT DUE: a fraction that fills the takt raises the target by one and falls by the takt, and is 0 where the
target reaches the volume; where none is filled nothing changes. PERIOD END: a remaining time of 0 brings the next
period of the plan with its length and its kind, or OVERTIME after the last, and with a new shift state the zone
announcements; at any other it changes nothing. That these are commands of their own, and change nothing where nothing
is due, is the model's choice (DESIGN CHOICE, log entries 1 and 3). -/
def Obligations.TargetUnitAndPeriodTaken : Prop :=
  ∀ (s : State) (sh : Shift), s.shift = some sh →
    (sh.takt ≤ sh.fraction → sh.target < sh.volume →
      ∃ t, exec .targetUnitDue s = .next t
        ∧ sameButShown { s with shift := some { sh with
            target := sh.target + 1
            fraction := if sh.target + 1 = sh.volume then 0 else sh.fraction - sh.takt } } t
        ∧ t.host = s.host)
    ∧ (sh.fraction < sh.takt ∨ sh.volume ≤ sh.target → exec .targetUnitDue s = .next s)
    ∧ (∀ i, sh.fraction < sh.takt ∨ sh.volume ≤ sh.target → sh.remaining = some 0 → sh.index = some i →
      ∃ t, exec .periodEnd s = .next t
        ∧ sameButShown { s with shift := t.shift, shiftState := t.shiftState, loopA := t.loopA, loopB := t.loopB } t
        ∧ loopsAnnounce s t
        ∧ (∀ p, sh.plan[i]? = some p → t.shiftState = p.kind.toShift
          ∧ t.shift = some { sh with index := some (i + 1), remaining := some (p.minutes * 600) })
        ∧ (sh.plan[i]? = none → t.shiftState = .overtime
          ∧ t.shift = some { sh with index := none, remaining := none }))
    ∧ (sh.fraction < sh.takt ∨ sh.volume ≤ sh.target → sh.remaining ≠ some 0 → exec .periodEnd s = .next s)

/-- SECOND ROLLOVER after the tenth tick: the time of day rises by 1, from 86399 to 0, and the tick count is 0; before
it nothing changes (the model's choice: DESIGN CHOICE, log entries 1 and 3). BLINK TURN, nothing being due: FAST turns,
and every fourth turn SLOW turns too. -/
def Obligations.SecondAndBlinkTaken : Prop :=
  ∀ s : State,
    (s.tenths = 10 →
      ∃ t, exec .secondRollover s = .next t ∧ t.host = s.host ∧ t.equations = s.equations ∧ t.flags = s.flags
        ∧ t.relays = s.relays ∧ t.tunes = s.tunes
        ∧ sameButShown { s with
            timeOfDay := if s.timeOfDay < 86399 then s.timeOfDay + 1 else 0, tenths := 0 } t)
    ∧ (s.tenths < 10 → exec .secondRollover s = .next s)
    ∧ (settled s = true →
      ∃ t, exec .blinkTurn s = .next t
        ∧ t = { s with
            blinkFast := !s.blinkFast
            blinkSlow := if 3 ≤ s.blinkPhase then !s.blinkSlow else s.blinkSlow
            blinkPhase := if 3 ≤ s.blinkPhase then 0 else s.blinkPhase + 1
            equations := t.equations, flags := t.flags, relays := t.relays, tunes := t.tunes }
        ∧ (s.mode = .config → t.equations = s.equations ∧ t.flags = s.flags ∧ t.relays = s.relays
          ∧ t.tunes = s.tunes))

/-- ESCALATION TIMER EXPIRY: the first call, in arrival order, whose timer has expired climbs one level; its timer is
loaded with the ladder's delay of the next level, or removed at the last. With none expired nothing changes. That one
command takes the first expiry alone, and that it changes nothing with none, are the model's choices (DESIGN CHOICE, log
entries 1 and 3). -/
def Obligations.EscalationTaken : Prop :=
  ∀ s : State,
    (∀ c, s.calls.find? (fun c => c.timer == some 0) = some c → s.callOf c.number = some c →
      ∃ t now, exec .escalationTimerExpiry s = .next t
        ∧ now = { c with level := c.level + 1, timer := now.timer }
        ∧ (∀ l, ladderOf s c.cls = some l → now.timer =
            if c.level + 1 < l.levels then some (pick l.delays (c.level + 2)) else none)
        ∧ (ladderOf s c.cls = none → now.timer = none)
        ∧ sameButShown { s with calls := withRecord s c now, stations := t.stations } t
        ∧ lampFollows c s t)
    ∧ (s.calls.find? (fun c => c.timer == some 0) = none → exec .escalationTimerExpiry s = .next s)

/-- EQUATION DELAY EXPIRY: one pass takes the expiry of every equation whose delay timer has expired (the timer removed,
the output true for an ON-DELAY, false for an OFF-DELAY or a PULSE). What an equation may do besides, after its expiry
if it has one, is to take an edge of its raw value through its delay: it does so where a flag or relay that it reads has
changed, and not where no lower equation changes. Only the equation unit and its outputs may change, and the flags,
relays and tune channels follow the outputs. With none expired nothing changes (the model's choice: DESIGN CHOICE, log
entry 3; that the expiry is a command of its own: log entry 1). The raw value a pass computes: a first term sets the
chain to its operand, negated in the NOT forms; a later one combines its operand into the chain by its operation; a list
is true where one of the chains that ELSE divides it into is; and a group stands in its list as an operand of the
group's value would. -/
def Obligations.EquationDelayTaken : Prop :=
  ∀ s : State,
    (∀ i d, 1 ≤ i → i ≤ 48 → s.equationDef i = some d → (pick s.equations i).timer = some 0 →
      (∀ j, 1 ≤ j → j < i → s.equationDef j = none ∨ (pick s.equations j).timer ≠ some 0) →
      ∃ t, exec .equationDelayExpiry s = .next t
        ∧ t = { s with equations := t.equations, flags := t.flags, relays := t.relays, tunes := t.tunes }
        ∧ (∀ j, 1 ≤ j → j < i → pick t.equations j = pick s.equations j)
        ∧ pick t.equations i = { pick s.equations i with
            timer := none
            output := match d.delay with
              | .none => (pick s.equations i).output
              | .onDelay _ => true
              | .offDelay _ => false
              | .pulse _ => false }
        ∧ (s.mode = .run → configCheck s.defs = none → outputsFollow s → outputsFollow t)
        ∧ (∀ j, 1 ≤ j → j ≤ 48 →
          (s.equationDef j = none → pick t.equations j = pick s.equations j)
          ∧ ∀ x e, s.equationDef j = some x →
            e = (if (pick s.equations j).timer = some 0 then takeExpiry x.delay (pick s.equations j)
              else pick s.equations j) →
            pick t.equations j = takeRaw x.delay e (pick t.equations j).raw
            ∧ ((∀ k, 1 ≤ k → k < j → pick t.equations k = pick s.equations k) → pick t.equations j = e)
            ∧ (s.mode = .run → configCheck s.defs = none →
              ((pick t.equations j).raw = (pick s.equations j).raw ∨ (pick t.equations j).raw = rawValue t x.terms)
              ∧ ((∃ f, 1 ≤ f ∧ f ≤ 32 ∧ x.reads (.flag f) = true ∧ pick t.flags f ≠ pick s.flags f)
                  ∨ (∃ r, 1 ≤ r ∧ r ≤ 8 ∧ x.reads (.relay r) = true ∧ pick t.relays r ≠ pick s.relays r) →
                (pick t.equations j).raw = rawValue t x.terms))))
    ∧ ((∀ j, 1 ≤ j → j ≤ 48 → s.equationDef j = none ∨ (pick s.equations j).timer ≠ some 0) →
      exec .equationDelayExpiry s = .next s)
    ∧ (∀ op x, rawValue s [.operand op x] = (op.negates != operandValue s x))
    ∧ (∀ ts op x c v, balanced ts → oneChain ts 0 → ts ≠ [] → c = rawValue s ts → v = operandValue s x →
      rawValue s (ts ++ [.operand op x]) = match op with
        | .and => c && v
        | .andNot => c && !v
        | .or => c || v
        | .orNot => c || !v
        | .xor => c != v
        | .xorNot => c == v)
    ∧ (∀ a b, balanced a → balanced b → rawValue s (a ++ .elseChain :: b) = (rawValue s a || rawValue s b))
    ∧ (∀ before op ts x after, balanced ts → rawValue s ts = operandValue s x →
      rawValue s (before ++ .group op :: (ts ++ .endGroup :: after)) = rawValue s (before ++ .operand op x :: after))

/-- STALE, REFRESH and PROBE TIMER EXPIRY: a stale timer at 0 is loaded with the stale time and brings a HISTORY notice
where that is enabled and finds room; a refresh timer at 0 is loaded again and every defined board that is not DARK is
refreshed; a board's probe timer at 0 is removed and its probe is due. A timer that is not at 0 changes nothing (the
model's choice: DESIGN CHOICE, log entries 1 and 3). -/
def Obligations.TimersTaken : Prop :=
  ∀ s : State,
    (s.staleTimer = some 0 →
      ∃ t, exec .staleTimerExpiry s = .next t
        ∧ t = { s with staleTimer := some (s.defs.links.staleSeconds * 10), host := t.host }
        ∧ (pick s.host.reports 5 = false → t.host = s.host)
        ∧ (pick s.host.reports 5 = true → s.host.outbound.length < 24 →
          t.host = { s.host with
            outbound := (s.host.outbound ++
              [.notice s.timeOfDay (.history true s.history.length (oldestSeq s) (newestSeq s))])
            sending := s.host.sending || !s.host.paused })
        ∧ (pick s.host.reports 5 = true → 24 ≤ s.host.outbound.length →
          t.host = { s.host with lostNotices := min 65535 (s.host.lostNotices + 1) }))
    ∧ (s.staleTimer ≠ some 0 → exec .staleTimerExpiry s = .next s)
    ∧ (s.refreshTimer = some 0 →
      ∃ t, exec .refreshTimerExpiry s = .next t
        ∧ t = { s with
            boards := t.boards, fields := t.fields
            refreshTimer := if s.defs.links.refreshSeconds = 0 then none
              else some (s.defs.links.refreshSeconds * 10) }
        ∧ (∀ b, 1 ≤ b → b ≤ 8 → pick t.boards b =
          if (s.boardDepth b).isSome = true ∧ (pick s.boards b).state ≠ .dark then
            { pick s.boards b with queue := [clearFrame], clearing := true, owed := false }
          else pick s.boards b)
        ∧ ∀ b f, 1 ≤ b → b ≤ 8 → 1 ≤ f → f ≤ 12 → pick (pick t.fields b) f =
          if (s.boardDepth b).isSome = true ∧ (pick s.boards b).state ≠ .dark ∧ (s.fieldDef b f).isSome = true then
            { pick (pick s.fields b) f with marked := true }
          else pick (pick s.fields b) f)
    ∧ (s.refreshTimer ≠ some 0 → exec .refreshTimerExpiry s = .next s)
    ∧ ∀ b, 1 ≤ b → b ≤ 8 →
      ((pick s.boards b).probeTimer = some 0 →
        exec (.probeTimerExpiry b) s = .next { s with
          boards := alter s.boards b (fun x => { x with probeTimer := none, probeDue := true }) })
      ∧ ((pick s.boards b).probeTimer ≠ some 0 → exec (.probeTimerExpiry b) s = .next s)

/-! ## Conveyor sections and line inputs (R35–R41, R46, R48, R53, R55–R57) -/

/-- A forward pulse at a defined section in RUN, nothing being due: with debt it repays one pulse and does nothing else;
without, the phase rises by 1, or becomes 0 at P with one pitch counted, and one pulse of forward distance raises the
coast count and counts down the section's armed calls. In CONFIG, or at an undefined section, nothing changes. -/
def Obligations.ForwardPulseTaken : Prop :=
  ∀ (s : State) (n : Nat), settled s = true → 1 ≤ n → n ≤ 4 →
    ((s.mode = .config ∨ s.sectionDef n = none) → exec (.encoderForwardPulse n) s = .next s)
    ∧ (∀ d, s.mode = .run → s.sectionDef n = some d →
      (0 < (pick s.trackers n).debt →
        exec (.encoderForwardPulse n) s =
          .next { s with trackers := alter s.trackers n fun x => { x with debt := x.debt - 1 } })
      ∧ ((pick s.trackers n).debt = 0 → (pick s.trackers n).phase + 1 < d.pitch →
        exec (.encoderForwardPulse n) s =
          .next { s with
            trackers := alter s.trackers n (fun x => { x with phase := x.phase + 1 })
            stops := alter s.stops n (fun x => { x with coast := min 65535 (x.coast + 1) })
            calls := s.calls.map (fun c => if c.sec = n then { c with distance := c.distance.map (· - 1) } else c) })
      ∧ ((pick s.trackers n).debt = 0 → (pick s.trackers n).phase + 1 = d.pitch →
        ∃ t, exec (.encoderForwardPulse n) s = .next t
          ∧ sameButShown { s with
              trackers := alter s.trackers n (fun x => { x with
                phase := 0, pitchCount := if x.pitchCount < 65535 then x.pitchCount + 1 else 0 })
              stops := alter s.stops n (fun x => { x with coast := min 65535 (x.coast + 1) })
              calls := s.calls.map (fun c => if c.sec = n then { c with distance := c.distance.map (· - 1) } else c)
              shift := t.shift } t
          ∧ t.host = s.host
          ∧ t.shift = if s.defs.counting = n ∧ s.defs.source = .pitch ∧ s.shiftState ≠ .none then
              s.shift.map (fun sh => { sh with actual := min 9999 (sh.actual + 1) }) else s.shift))

/-- A reverse pulse at a defined section in RUN, nothing being due: the debt rises by 1 below P; at P the status
rollback saturated becomes yes, with its notice; where it is yes already nothing changes, and the phase and the stop
distances never do. In CONFIG, or at an undefined section, nothing changes. That the debt rises below P with the status
yes too, where R36 says of that status both, is the model's choice (DESIGN CHOICE, log entry 24). -/
def Obligations.ReversePulseTaken : Prop :=
  ∀ (s : State) (n : Nat), settled s = true → 1 ≤ n → n ≤ 4 →
    ((s.mode = .config ∨ s.sectionDef n = none) → exec (.encoderReversePulse n) s = .next s)
    ∧ (∀ d, s.mode = .run → s.sectionDef n = some d →
      ((pick s.trackers n).debt < d.pitch →
        exec (.encoderReversePulse n) s =
          .next { s with trackers := alter s.trackers n fun x => { x with debt := x.debt + 1 } })
      ∧ ((pick s.trackers n).debt = d.pitch → (pick s.trackers n).saturated = true →
        exec (.encoderReversePulse n) s = .next s)
      ∧ ((pick s.trackers n).debt = d.pitch → (pick s.trackers n).saturated = false →
        ∃ t, exec (.encoderReversePulse n) s = .next t
          ∧ t = { s with
              trackers := alter s.trackers n (fun x => { x with saturated := true }), host := t.host }
          ∧ (pick s.host.reports 2 = false → t.host = s.host)
          ∧ (pick s.host.reports 2 = true → s.host.outbound.length < 24 →
            ∃ notice, t.host = { s.host with
                outbound := s.host.outbound ++ [.notice s.timeOfDay notice]
                sending := s.host.sending || !s.host.paused }
              ∧ ∃ q o p h,
                notice = .sec n (.rollback true (pick s.trackers n).debt (pick s.trackers n).phase) q o p h)))

/-- A sync edge that jumps forward, at a phase of ⌊P/2⌋ or more: the phase becomes 0, one pitch is counted, the last
sync is FORWARD with size j = P − φ, and j pulses of forward distance raise the coast count and count down every armed
call of the section at once (a call that they use up is due to enter HOLDING: DESIGN CHOICE, log entry 1). A sync edge
that finds the phase at 0: the last sync is ALIGNED with size 0. -/
def Obligations.SyncEdgeForwardOrAligned : Prop :=
  ∀ (s : State) (n : Nat) (d : SectionDef), 1 ≤ n → n ≤ 4 →
    (d.pitch / 2 ≤ (pick s.trackers n).phase → 0 < (pick s.trackers n).phase →
      sameButShown { s with
          trackers := alter s.trackers n (fun x => { x with
            debt := 0, saturated := false, phase := 0
            pitchCount := if x.pitchCount < 65535 then x.pitchCount + 1 else 0
            lastSync := some (.forward, d.pitch - x.phase) })
          stops := alter s.stops n (fun x =>
            { x with coast := min 65535 (x.coast + (d.pitch - (pick s.trackers n).phase)) })
          calls := s.calls.map (fun c => if c.sec = n then
            { c with distance := c.distance.map (· - (d.pitch - (pick s.trackers n).phase)) } else c)
          shift := (s.syncEdge n d).shift } (s.syncEdge n d))
    ∧ ((pick s.trackers n).phase = 0 →
      s.syncEdge n d = { s with
          trackers := alter s.trackers n (fun x => { x with
            debt := 0, saturated := false, phase := 0, lastSync := some (.aligned, 0) })
          host := (s.syncEdge n d).host })

/-- A sync edge that jumps backward, at a phase below ⌊P/2⌋: the phase becomes 0, the last sync is BACKWARD with size b
= φ, the pitch count is kept, and every armed call of the section stands b pulses further, up to P+R−1; no call expires,
and the coast count, the hold order and the stop request stay. -/
def Obligations.SyncEdgeBackward : Prop :=
  ∀ (s : State) (n : Nat) (d : SectionDef), 1 ≤ n → n ≤ 4 → 0 < (pick s.trackers n).phase →
    (pick s.trackers n).phase < d.pitch / 2 →
      s.syncEdge n d = { s with
          trackers := alter s.trackers n (fun x => { x with
            debt := 0, saturated := false, phase := 0, lastSync := some (.backward, x.phase) })
          calls := s.calls.map (fun c => if c.sec = n then
            { c with distance := c.distance.map (fun x =>
                min (x + (pick s.trackers n).phase) (d.pitch + d.runOn - 1)) } else c)
          host := (s.syncEdge n d).host }

/-- STOP DISTANCE EXPIRY: the section's first call, in arrival order, whose distance is used up enters HOLDING at the
end of the hold order; a first hold it has is kept, one it has not is the time of day; the stop request is asserted, its
coast count 0 if it was released, and the zone announcements follow it; a CALL notice with the change HOLD goes first
where it is enabled and finds room. With none used up nothing changes. That one command takes the first such call alone,
where R55 takes all of an event, and that it changes nothing with none, are the model's choices (DESIGN CHOICE, log
entries 1 and 3). -/
def Obligations.StopDistanceTaken : Prop :=
  ∀ (s : State) (n : Nat), 1 ≤ n → n ≤ 4 →
    (∀ c, s.calls.find? (fun c => c.sec == n && c.distance == some 0) = some c → s.callOf c.number = some c →
      ∃ t, exec (.stopDistanceExpiry n) s = .next t
        ∧ sameButShown { s with
            calls := withRecord s c { c with
              state := .holding, distance := none, firstHold := some (c.firstHold.getD s.timeOfDay) }
            stations := t.stations, stops := t.stops, loopA := t.loopA, loopB := t.loopB } t
        ∧ lampFollows c s t ∧ loopsAnnounce s t
        ∧ (pick s.host.reports 1 = true → s.host.outbound.length < 24 →
          ∃ rest, t.host.outbound = s.host.outbound ++ [.notice s.timeOfDay (.call .hold none c.number c.origin
            c.cls c.zone .holding c.answered c.level c.repeats)] ++ rest)
        ∧ ∀ m, 1 ≤ m → m ≤ 4 → pick t.stops m =
          if m = n then { pick s.stops m with
            holdOrder := (pick s.stops m).holdOrder ++ [c.number], request := true
            coast := if (pick s.stops m).request then (pick s.stops m).coast else 0 }
          else pick s.stops m)
    ∧ (s.calls.find? (fun c => c.sec == n && c.distance == some 0) = none →
      exec (.stopDistanceExpiry n) s = .next s)

/-- RAW INPUT CHANGE, nothing being due: a change to the level the input has changes nothing; one away from the
debounced state starts the timing, one back to it ends it; with a debounce time of 0 the change is taken as its expiry
takes it. That a change to the level the input has changes nothing is the model's choice (DESIGN CHOICE, log entry 14).
-/
def Obligations.RawInputTaken : Prop :=
  ∀ (s : State) (k : Nat) (level : Bool), settled s = true → 1 ≤ k → k ≤ 16 →
    ((pick s.inputs k).raw = level → exec (.rawInputChange k level) s = .next s)
    ∧ ((pick s.inputs k).raw ≠ level → (pick s.inputs k).debounced = level →
      exec (.rawInputChange k level) s =
        .next { s with inputs := alter s.inputs k fun x => { x with raw := level, timing := false } })
    ∧ ((pick s.inputs k).raw ≠ level → (pick s.inputs k).debounced ≠ level →
      ((pick s.defs.links.inputs k).debounceMs ≠ 0 →
        exec (.rawInputChange k level) s =
          .next { s with inputs := alter s.inputs k fun x => { x with raw := level, timing := true } })
      ∧ ((pick s.defs.links.inputs k).debounceMs = 0 →
        exec (.rawInputChange k level) s =
          exec (.inputDebounceExpiry k)
            { s with inputs := alter s.inputs k fun x => { x with raw := level, timing := true } }))

/-- INPUT DEBOUNCE EXPIRY, nothing being due: with no timing nothing changes (the model's choice: log entry 3);
otherwise the debounced state takes the raw value, and the level follows it. In CONFIG the host link alone may change
besides. In RUN, at an edge that raises the level, each defined section with it as sync input takes a sync edge: debt 0,
phase 0, and the jump forward or backward with its effect on pitch count, coast count and stop distances, or none where
it is aligned; each with it as pass input counts one pass; and the counting section's pass or pitch raises the actual by
one. A falling edge leaves these. A section with it as run input has the new level as its run level. An enabled edge
gives its INPUT notice, the last of the edge; an edge not enabled gives none. -/
def Obligations.InputDebounceTaken : Prop :=
  ∀ (s : State) (k : Nat) (level : Bool), settled s = true → 1 ≤ k → k ≤ 16 →
    level = ((pick s.inputs k).raw != (pick s.defs.links.inputs k).invert) →
    ((pick s.inputs k).timing = false → exec (.inputDebounceExpiry k) s = .next s)
    ∧ ((pick s.inputs k).timing = true →
      ∃ t, exec (.inputDebounceExpiry k) s = .next t
        ∧ sameButShown { s with
            inputs := alter s.inputs k (fun x => { x with debounced := x.raw, timing := false })
            trackers := t.trackers, stops := t.stops, calls := t.calls, shift := t.shift } t
        ∧ (s.mode = .config → t = { s with inputs := t.inputs, host := t.host })
        ∧ (s.mode = .config ∨ level = false →
          t.trackers = s.trackers ∧ t.stops = s.stops ∧ t.calls = s.calls ∧ t.shift = s.shift)
        ∧ (s.mode = .run → level = true →
          (∀ n, 1 ≤ n → n ≤ 4 →
            (s.sectionDef n = none → pick t.trackers n = pick s.trackers n)
            ∧ (∀ d, s.sectionDef n = some d → edgeTracker k d (pick s.trackers n) (pick t.trackers n))
            ∧ (∀ d, s.sectionDef n = some d → jumpsForward k d (pick s.trackers n) →
              pick t.stops n = { pick s.stops n with
                coast := min 65535 ((pick s.stops n).coast + (d.pitch - (pick s.trackers n).phase)) })
            ∧ ((∀ d, s.sectionDef n = some d → ¬ jumpsForward k d (pick s.trackers n)) →
              pick t.stops n = pick s.stops n))
          ∧ t.calls.length = s.calls.length
          ∧ (∀ (i : Nat) (c : Call), s.calls[i]? = some c → 1 ≤ c.sec → c.sec ≤ 4 →
            ∃ distance, t.calls[i]? = some { c with distance := distance }
              ∧ (s.sectionDef c.sec = none → distance = c.distance)
              ∧ ∀ d, s.sectionDef c.sec = some d → edgeDistance k d (pick s.trackers c.sec) c.distance distance)
          ∧ (∀ d, s.sectionDef s.defs.counting = some d → 1 ≤ s.defs.counting → s.defs.counting ≤ 4 →
            (s.shiftState ≠ .none → (s.defs.source = .pass ∧ d.passInput = k)
                ∨ (s.defs.source = .pitch ∧ jumpsForward k d (pick s.trackers s.defs.counting)) →
              t.shift = s.shift.map fun sh => { sh with actual := min 9999 (sh.actual + 1) })
            ∧ (s.shiftState = .none ∨ ¬ ((s.defs.source = .pass ∧ d.passInput = k)
                ∨ (s.defs.source = .pitch ∧ jumpsForward k d (pick s.trackers s.defs.counting))) →
              t.shift = s.shift)))
        ∧ (∀ n d, s.sectionDef n = some d → d.runInput = k → runLevel t n = some level)
        ∧ ∃ before, (∀ f ∈ before, ∀ time j l, f ≠ .notice time (.input j l))
          ∧ (pick s.host.reports 8 = true → s.host.outbound.length < 20 →
            (if level then (pick s.defs.links.inputs k).risingNotice
              else (pick s.defs.links.inputs k).fallingNotice) = true →
            t.host.outbound = s.host.outbound ++ before ++ [.notice s.timeOfDay (.input k level)])
          ∧ (pick s.host.reports 8 = false ∨ (if level then (pick s.defs.links.inputs k).risingNotice
              else (pick s.defs.links.inputs k).fallingNotice) = false →
            t.host.outbound = s.host.outbound ++ before))

/-- The stop distance of an armed call lies between R and P+R−1, and is the distance from the phase to the stop mark, up
to whole pitches. -/
def Obligations.ArmingInRange : Prop :=
  ∀ (d : SectionDef) (phase mark : Nat), 1 ≤ d.runOn → d.runOn < d.pitch → phase < d.pitch →
    d.runOn ≤ armDistance d phase mark ∧ armDistance d phase mark ≤ d.pitch + d.runOn - 1
      ∧ (phase + armDistance d phase mark) % d.pitch = mark % d.pitch

/-! ## The station loops (R78–R86) -/

/-- POLL SENT in RUN, no poll outstanding and nothing due: the lowest address above the last one polled that the cycle
polls is polled, the pending announcements sent before it; with none left the cycle count rises, and the new cycle's
lowest address is polled; where that cycle polls none, the pending announcements go out and no poll. A cycle polls the
defined stations that are ONLINE or UNKNOWN, and at the count 0 the OFFLINE ones too. IDLE CYCLE END: on a loop with no
station for this cycle to poll, the cycle count rises and no poll goes out; at the start of a further idle cycle the
pending announcements do (the model's reading: DEDUCED, log entry 13). A loop with no defined station runs its cycles so
too, and sends nothing. In CONFIG, or while a poll is outstanding, neither changes anything, nor does a POLL SENT in an
idle cycle or an IDLE CYCLE END in another (the model's choice: DESIGN CHOICE, log entry 3). -/
def Obligations.PollTaken : Prop :=
  ∀ (s : State) (l : LoopId), settled s = true →
    (∀ cycle a, 1 ≤ a → a ≤ 48 → (toPoll s l cycle a = true ↔ (s.stationDef (stationAt l a)).isSome = true
      ∧ ((pick s.stations (stationAt l a)).state = .online ∨ (pick s.stations (stationAt l a)).state = .unknown
        ∨ ((pick s.stations (stationAt l a)).state = .offline ∧ cycle = 0))))
    ∧ (s.mode = .config ∨ (s.loop l).polled ≠ none ∨ (s.loop l).last ≠ none
        ∨ (∃ a, 1 ≤ a ∧ a ≤ 48 ∧ toPoll s l (s.loop l).cycle a = true) →
      exec (.idleCycleEnd l) s = .next s)
    ∧ (s.mode = .run → (s.loop l).polled = none → (s.loop l).last = none →
      (∀ a, 1 ≤ a → a ≤ 48 → toPoll s l (s.loop l).cycle a = false) →
      ∃ t, exec (.idleCycleEnd l) s = .next t
        ∧ t = s.modLoop l (fun x => { x with
            cycle := if x.cycle < 7 then x.cycle + 1 else 0, last := none
            zonesOwed := (t.loop l).zonesOwed, stationsOwed := (t.loop l).stationsOwed, sent := (t.loop l).sent })
        ∧ (∀ a, 1 ≤ a → a ≤ 48 → toPoll s l (if (s.loop l).cycle < 7 then (s.loop l).cycle + 1 else 0) a = true →
          (t.loop l).zonesOwed = (s.loop l).zonesOwed ∧ (t.loop l).stationsOwed = (s.loop l).stationsOwed
          ∧ (t.loop l).sent = (s.loop l).sent)
        ∧ ((∀ a, 1 ≤ a → a ≤ 48 → (s.stationDef (stationAt l a)).isSome = false) →
          (t.loop l).zonesOwed = (s.loop l).zonesOwed ∧ (t.loop l).stationsOwed = (s.loop l).stationsOwed
          ∧ (t.loop l).sent = (s.loop l).sent)
        ∧ ((∃ a, 1 ≤ a ∧ a ≤ 48 ∧ (s.stationDef (stationAt l a)).isSome = true) →
          (∀ a, 1 ≤ a → a ≤ 48 → toPoll s l (if (s.loop l).cycle < 7 then (s.loop l).cycle + 1 else 0) a = false) →
          (t.loop l).zonesOwed = [] ∧ (t.loop l).stationsOwed = []
          ∧ (t.loop l).sent = if pendingFrames s l = [] then (s.loop l).sent else pendingFrames s l))
    ∧ (s.mode = .config ∨ (s.loop l).polled ≠ none → exec (.pollSent l) s = .next s)
    ∧ (s.mode = .run → (s.loop l).polled = none → (s.loop l).last ≠ none →
      (∀ a, (s.loop l).last.getD 0 < a → a ≤ 48 → toPoll s l (s.loop l).cycle a = false) →
      (∀ a, 1 ≤ a → a ≤ 48 → toPoll s l (if (s.loop l).cycle < 7 then (s.loop l).cycle + 1 else 0) a = false) →
      ((∃ a, 1 ≤ a ∧ a ≤ 48 ∧ (s.stationDef (stationAt l a)).isSome = true) →
        exec (.pollSent l) s = .next (s.modLoop l fun x => { x with
          cycle := if x.cycle < 7 then x.cycle + 1 else 0, last := none, zonesOwed := [], stationsOwed := []
          sent := if pendingFrames s l = [] then x.sent else pendingFrames s l }))
      ∧ ((∀ a, 1 ≤ a → a ≤ 48 → (s.stationDef (stationAt l a)).isSome = false) →
        exec (.pollSent l) s = .next (s.modLoop l fun x => { x with
          cycle := if x.cycle < 7 then x.cycle + 1 else 0, last := none })))
    ∧ (s.mode = .run → (s.loop l).polled = none → (s.loop l).last = none →
      (∀ a, 1 ≤ a → a ≤ 48 → toPoll s l (s.loop l).cycle a = false) → exec (.pollSent l) s = .next s)
    ∧ (∀ a, s.mode = .run → (s.loop l).polled = none → 1 ≤ a → a ≤ 48 →
      ((s.loop l).last.getD 0 < a → toPoll s l (s.loop l).cycle a = true →
        (∀ a', (s.loop l).last.getD 0 < a' → a' < a → toPoll s l (s.loop l).cycle a' = false) →
        exec (.pollSent l) s = .next (s.modLoop l fun x => { x with
          last := some a, polled := some (stationAt l a), started := false, receiver := .outside
          zonesOwed := [], stationsOwed := []
          sent := pendingFrames s l ++ [.poll a (pick s.stations (stationAt l a)).ackThrough
            (pick s.stations (stationAt l a)).rejected (pick s.stations (stationAt l a)).lamp] }))
      ∧ ((s.loop l).last ≠ none →
        (∀ a', (s.loop l).last.getD 0 < a' → a' ≤ 48 → toPoll s l (s.loop l).cycle a' = false) →
        toPoll s l (if (s.loop l).cycle < 7 then (s.loop l).cycle + 1 else 0) a = true →
        (∀ a', 1 ≤ a' → a' < a →
          toPoll s l (if (s.loop l).cycle < 7 then (s.loop l).cycle + 1 else 0) a' = false) →
        exec (.pollSent l) s = .next (s.modLoop l fun x => { x with
          cycle := if x.cycle < 7 then x.cycle + 1 else 0
          last := some a, polled := some (stationAt l a), started := false, receiver := .outside
          zonesOwed := [], stationsOwed := []
          sent := pendingFrames s l ++ [.poll a (pick s.stations (stationAt l a)).ackThrough
            (pick s.stations (stationAt l a)).rejected (pick s.stations (stationAt l a)).lamp] })))

/-- STATUS and HOLD from the polled station, in the bytes of any content that spells them. A STATUS ends the poll, makes
the station ONLINE and sets its miss run and hold run to 0; one with no event, or with an event that repeats one already
taken, changes nothing else of an ONLINE station but its good replies and its verdict. A HOLD below the eighth in a row
raises the station's hold run and good replies, and makes an UNKNOWN or OFFLINE station ONLINE, owed its announcement,
with a STATION notice; the eighth counts as a miss, and at the miss limit the station goes OFFLINE. The walk through the
events of a STATUS: with an acknowledgement a repeat is passed over; a new event taken is followed by the rest as by a
further STATUS, and the verdict is REJECTED if it or one of the rest is; a refused event ends the walk, nothing after it
taken. The last clauses, of a STATUS that finds the acknowledgement absent (after OFFLINE or UNKNOWN), take every event
of it as new, the rest as by a further STATUS that finds it absent too: the model's choice (DESIGN CHOICE, log entry
22), by the last sentence of R85 with R25 and R83 against the walk of R85, which judges the second event against the
first. -/
def Obligations.LoopRepliesTaken : Prop :=
  ∀ (s : State) (l : LoopId) (n : Nat) (content : List Byte), settled s = true → s.mode = .run →
    (s.loop l).polled = some n → (s.loop l).receiver = .outside → 1 ≤ n → n ≤ 96 →
    (∀ events, readLoopFrame (content ++ checkBytes content) false = some (.status (addressOf n) events) →
      (∃ t, exec (.statusReceived l (frameBytes content)) s = .next t
        ∧ (t.loop l).polled = none ∧ (t.loop l).receiver = .outside
        ∧ (pick t.stations n).state = .online ∧ (pick t.stations n).missRun = 0 ∧ (pick t.stations n).holdRun = 0
        ∧ (pick t.stations n).goodReplies = min 65535 ((pick s.stations n).goodReplies + 1)
        ∧ (pick t.stations n).misses = (pick s.stations n).misses
        ∧ (∀ m, 1 ≤ m → m ≤ 96 → m ≠ n →
          pick t.stations m = { pick s.stations m with lamp := (pick t.stations m).lamp })
        ∧ t.defs = s.defs ∧ t.trackers = s.trackers ∧ t.inputs = s.inputs ∧ t.mode = .run)
      ∧ ((pick s.stations n).state = .online →
        (∀ e ∈ events, ∃ q, (pick s.stations n).ackThrough = some q ∧ q ≤ 7 ∧ (e.seq + 8 - q) % 8 ∉ [1, 2, 3, 4]) →
        exec (.statusReceived l (frameBytes content)) s =
          .next ((pollEnded s l).modStation n fun x => { x with
            goodReplies := min 65535 (x.goodReplies + 1), missRun := 0, holdRun := 0, rejected := false })))
    ∧ (readLoopFrame (content ++ checkBytes content) false = some (.hold (addressOf n)) →
      (pick s.stations n).state = .online →
      ((pick s.stations n).holdRun < 7 →
        exec (.holdReceived l (frameBytes content)) s =
          .next ((pollEnded s l).modStation n fun x => { x with
            goodReplies := min 65535 (x.goodReplies + 1), holdRun := x.holdRun + 1 }))
      ∧ ((pick s.stations n).holdRun = 7 → (pick s.stations n).missRun + 1 < (loopSettings s (loopOf n)).missLimit →
        exec (.holdReceived l (frameBytes content)) s =
          .next ((pollEnded s l).modStation n fun x => { x with
            misses := min 65535 (x.misses + 1), missRun := x.missRun + 1, holdRun := 0 })))
    ∧ (readLoopFrame (content ++ checkBytes content) false = some (.hold (addressOf n)) →
      ((pick s.stations n).state ≠ .online → (pick s.stations n).holdRun < 7 →
        ∃ t, exec (.holdReceived l (frameBytes content)) s = .next t
          ∧ t = { (((pollEnded s l).modLoop (loopOf n) fun x =>
                { x with stationsOwed := insertAscending n x.stationsOwed }).modStation n fun x => { x with
                  state := .online, goodReplies := min 65535 (x.goodReplies + 1), holdRun := x.holdRun + 1 }) with
              equations := t.equations, flags := t.flags, relays := t.relays, tunes := t.tunes, host := t.host }
          ∧ ((pick s.stations n).state = .unknown → t.equations = s.equations)
          ∧ (pick s.host.reports 3 = false → t.host = s.host)
          ∧ (pick s.host.reports 3 = true → s.host.outbound.length < 24 →
            t.host.outbound = s.host.outbound ++ [.notice s.timeOfDay (.station n (loopOf n) (addressOf n)
              (pick s.stations n).state .online (pick s.stations n).misses (stationCalls s n))]))
      ∧ ((pick s.stations n).state ≠ .offline → (pick s.stations n).holdRun = 7 →
        (loopSettings s (loopOf n)).missLimit ≤ (pick s.stations n).missRun + 1 →
        ∃ t, exec (.holdReceived l (frameBytes content)) s = .next t ∧ goneOffline l n s t))
    ∧ (∀ events, readLoopFrame (content ++ checkBytes content) false = some (.status (addressOf n) events) →
      exec (.statusReceived l (frameBytes content)) s = .next ((pollEnded s l).takeStatus n events))
    ∧ (∀ e rest t q, (pick s.stations n).state = .online → (pick s.stations n).ackThrough = some q → q ≤ 7 → e.seq ≤ 7 →
      t = s.takeStatus n [e] →
      ((e.seq + 8 - q) % 8 ∉ [1, 2, 3, 4] → s.takeStatus n (e :: rest) = s.takeStatus n rest)
      ∧ ((e.seq + 8 - q) % 8 ∈ [1, 2, 3, 4] → (pick t.stations n).ackThrough = some e.seq →
        s.takeStatus n (e :: rest) =
          (((t.modStation n fun x => { x with goodReplies := (pick s.stations n).goodReplies }).takeStatus n
            rest).modStation n fun x => { x with rejected := x.rejected || (pick t.stations n).rejected }))
      ∧ ((e.seq + 8 - q) % 8 ∈ [1, 2, 3, 4] → (pick t.stations n).ackThrough ≠ some e.seq →
        s.takeStatus n (e :: rest) = t))
    ∧ (∀ e rest t, (pick s.stations n).state ≠ .online ∨ (pick s.stations n).ackThrough = none →
      t = s.takeStatus n [e] →
      ((pick t.stations n).ackThrough = some e.seq → s.takeStatus n (e :: rest) =
        (((t.modStation n fun x => { x with
            goodReplies := (pick s.stations n).goodReplies, ackThrough := none }).takeStatus n rest).modStation n
          fun x => { x with
            rejected := x.rejected || (pick t.stations n).rejected
            ackThrough := some (x.ackThrough.getD e.seq) }))
      ∧ ((pick t.stations n).ackThrough ≠ some e.seq → s.takeStatus n (e :: rest) = t))

/-- A STATUS with one event, new to an ONLINE station. REJECTED (a CALL of no class, a selector that finds no call, a
RESTART of no leader, or in a section held by a call or the overflow hold or with nothing pending): the event is
acknowledged and counted as rejected, and nothing else changes. A CALL without room is not acknowledged; of a stopping
class it marks the station, raises its section's waiting count and sets the overflow hold; refused again, of a station
marked already, it changes nothing more: the mark keeps its time and the count stays. A CALL repeated raises the repeat
count, and returns a CARRIED call of class FIXED to OPEN, re-armed, and one of class IMMEDIATE to HOLDING, last in the
hold order. A CALL with room creates a record in the station's zone. Of a station marked "stop call waiting" a CALL
taken, a repeat too, clears the mark; with room for its stopping class the record is HOLDING, last in the hold order,
raised and first held at the time of first refusal. By a selector, a class or 15 for the first call in display order
(one above 15, which R9 does not list, finds none: DEDUCED, log entry 15), an ANSWER sets the answered time, a CARRY
makes a carriable call CARRIED, a CLEAR closes the call with its record. A RESTART of a leader in a section with restart
pending alone releases it. With a stop request the zone announcements change. -/
def Obligations.StationEventsTaken : Prop :=
  ∀ (s heard : State) (l : LoopId) (n : Nat) (content : List Byte) (e : Event) (i : Instr) (d : StationDef)
      (z : ZoneDef),
    settled s = true → s.mode = .run → (s.loop l).polled = some n → (s.loop l).receiver = .outside →
    1 ≤ n → n ≤ 96 → (pick s.stations n).state = .online →
    (∀ q, (pick s.stations n).ackThrough = some q → (e.seq + 8 - q) % 8 ∈ [1, 2, 3, 4]) →
    readLoopFrame (content ++ checkBytes content) false = some (.status (addressOf n) [e]) →
    s.stationDef n = some d → s.zoneDef d.zone = some z → 1 ≤ z.sec → z.sec ≤ 4 →
    heard = statusHeard s l n → i = .statusReceived l (frameBytes content) →
    ((e.kind = .call ∧ s.defs.codeMap.classOf e.operand = none ∧ (pick s.stations n).waiting = none)
        ∨ (e.kind ∈ [EventKind.answer, .carry, .clear] ∧ ∀ c, ¬ selectorFinds s n e.operand c)
        ∨ (e.kind = .restart ∧ (d.leader = false ∨ (pick s.stops z.sec).holdOrder ≠ []
          ∨ (pick s.stops z.sec).overflow = true ∨ (pick s.stops z.sec).pending = false)) →
      exec i s = .next (heard.modStation n fun x => { x with
        ackThrough := some e.seq, rejected := true, rejectedEvents := min 65535 (x.rejectedEvents + 1) }))
    ∧ (∀ cls, e.kind = .call → s.defs.codeMap.classOf e.operand = some cls → (pick s.stations n).waiting = none →
      (callFrom s (.station n) cls = none → hasRoom s cls = false →
        ((s.classDef cls).stop = .none → exec i s = .next heard)
        ∧ ((s.classDef cls).stop ≠ .none →
          ∃ t, exec i s = .next t
            ∧ sameButShown { heard with stations := t.stations, stops := t.stops, loopA := t.loopA, loopB := t.loopB } t
            ∧ loopsAnnounce heard t
            ∧ (∀ m, 1 ≤ m → m ≤ 96 → pick t.stations m =
              if m = n then { pick heard.stations m with waiting := some s.timeOfDay } else pick heard.stations m)
            ∧ (∀ m, 1 ≤ m → m ≤ 4 → pick t.stops m =
              if m = z.sec then { pick s.stops m with
                waiting := (pick s.stops m).waiting + 1
                overflow := (pick s.stops m).overflow || decide ((pick s.stops m).waiting = 0)
                request := (pick s.stops m).request || decide ((pick s.stops m).waiting = 0)
                coast := if (pick s.stops m).request = false ∧ (pick s.stops m).waiting = 0 then 0
                  else (pick s.stops m).coast }
              else pick s.stops m)))
      ∧ (∀ c, callFrom s (.station n) cls = some c → c.state ≠ .carried ∨ (s.classDef c.cls).stop = .none →
        ∃ t, exec i s = .next t
          ∧ sameButShown { heard with
              calls := withRecord s c { c with repeats := min 15 (c.repeats + 1) }, stations := t.stations } t
          ∧ eventAcknowledged heard t n e.seq)
      ∧ (∀ c, callFrom s (.station n) cls = some c → c.state = .carried → (s.classDef c.cls).stop = .fixed →
        ∃ t, exec i s = .next t
          ∧ sameButShown { heard with
              calls := withRecord s c { c with
                repeats := min 15 (c.repeats + 1), state := .opened, distance := arming s c.zone c.sec }
              stations := t.stations } t
          ∧ eventAcknowledged heard t n e.seq)
      ∧ (∀ c, callFrom s (.station n) cls = some c → c.state = .carried → (s.classDef c.cls).stop = .immediate →
          1 ≤ c.sec → c.sec ≤ 4 →
        ∃ t, exec i s = .next t
          ∧ sameButShown { heard with
              calls := withRecord s c { c with repeats := min 15 (c.repeats + 1), state := .holding }
              stations := t.stations, stops := t.stops, loopA := t.loopA, loopB := t.loopB } t
          ∧ eventAcknowledged heard t n e.seq ∧ holdEntered c.sec c.number s t ∧ loopsAnnounce heard t)
      ∧ (callFrom s (.station n) cls = none → hasRoom s cls = true → s.arrivalCount < 4294967295 →
        ∃ t c, exec i s = .next t
          ∧ (∀ x ∈ s.calls, x.number ≠ c.number) ∧ 1 ≤ c.number ∧ c.number ≤ 9999
          ∧ c = { number := c.number, arrival := s.arrivalCount, origin := .station n, cls := cls, zone := d.zone
                  sec := z.sec, state := if (s.classDef cls).stop = .immediate then .holding else .opened
                  raised := s.timeOfDay, answered := none
                  firstHold := if (s.classDef cls).stop = .immediate then some s.timeOfDay else none
                  distance := if (s.classDef cls).stop = .fixed then arming s d.zone z.sec else none
                  heldTime := 0, level := 0, timer := firstTimer s cls, repeats := 0, carried := false }
          ∧ sameButShown { heard with
              calls := s.calls ++ [c], lastNumber := c.number, arrivalCount := s.arrivalCount + 1
              stations := t.stations, stops := t.stops, loopA := t.loopA, loopB := t.loopB } t
          ∧ eventAcknowledged heard t n e.seq
          ∧ ((s.classDef cls).stop = .immediate → holdEntered z.sec c.number s t ∧ loopsAnnounce heard t)
          ∧ ((s.classDef cls).stop ≠ .immediate → t.stops = s.stops ∧ t.loopA = heard.loopA ∧ t.loopB = heard.loopB)))
    ∧ (∀ w cls, e.kind = .call → (pick s.stations n).waiting = some w → s.defs.codeMap.classOf e.operand = some cls →
      callFrom s (.station n) cls = none → hasRoom s cls = false → exec i s = .next heard)
    ∧ (∀ w, e.kind = .call → (pick s.stations n).waiting = some w → s.arrivalCount < 4294967295 →
      (s.defs.codeMap.classOf e.operand = none ∨ (∃ cls, s.defs.codeMap.classOf e.operand = some cls
          ∧ ((∃ c, callFrom s (.station n) cls = some c ∧ (c.state = .carried → 1 ≤ c.sec ∧ c.sec ≤ 4))
            ∨ (callFrom s (.station n) cls = none ∧ hasRoom s cls = true))) →
        ∃ t, exec i s = .next t
          ∧ sameButShown { heard with calls := t.calls, lastNumber := t.lastNumber, arrivalCount := t.arrivalCount
                                      stations := t.stations, stops := t.stops, loopA := t.loopA, loopB := t.loopB } t
          ∧ (requestsHaveCauses s → loopsAnnounce heard t)
          ∧ (∀ m, 1 ≤ m → m ≤ 96 → m ≠ n → pick t.stations m = pick heard.stations m)
          ∧ pick t.stations n = { pick heard.stations n with
              ackThrough := some e.seq, waiting := none, lamp := (pick t.stations n).lamp
              rejected := decide (s.defs.codeMap.classOf e.operand = none)
              rejectedEvents := if s.defs.codeMap.classOf e.operand = none
                then min 65535 ((pick heard.stations n).rejectedEvents + 1)
                else (pick heard.stations n).rejectedEvents }
          ∧ (s.defs.codeMap.classOf e.operand = none → t.calls = s.calls ∧ markLeft z.sec s t)
          ∧ (∀ cls c, s.defs.codeMap.classOf e.operand = some cls → callFrom s (.station n) cls = some c →
            (c.state ≠ .carried ∨ (s.classDef c.cls).stop = .none →
              t.calls = withRecord s c { c with repeats := min 15 (c.repeats + 1) } ∧ markLeft z.sec s t)
            ∧ (c.state = .carried → (s.classDef c.cls).stop = .fixed → markLeft z.sec s t
              ∧ t.calls = withRecord s c { c with
                  repeats := min 15 (c.repeats + 1), state := .opened, distance := arming s c.zone c.sec })
            ∧ (c.state = .carried → (s.classDef c.cls).stop = .immediate →
              t.calls = withRecord s c { c with repeats := min 15 (c.repeats + 1), state := .holding }
              ∧ ∃ held : State, held.defs = s.defs ∧ holdEntered c.sec c.number s held ∧ markLeft z.sec held t))
          ∧ (s.defs.codeMap.classOf e.operand = none ∨ (∃ cls c, s.defs.codeMap.classOf e.operand = some cls
              ∧ callFrom s (.station n) cls = some c) →
            t.lastNumber = s.lastNumber ∧ t.arrivalCount = s.arrivalCount)
          ∧ (∀ cls, s.defs.codeMap.classOf e.operand = some cls → callFrom s (.station n) cls = none →
            ∃ c, t.calls = s.calls ++ [c] ∧ t.lastNumber = c.number ∧ t.arrivalCount = s.arrivalCount + 1
              ∧ (∀ x ∈ s.calls, x.number ≠ c.number)
              ∧ ((s.classDef cls).stop = .none → c.state = .opened ∧ c.raised = s.timeOfDay ∧ markLeft z.sec s t)
              ∧ ((s.classDef cls).stop ≠ .none →
                c = { number := c.number, arrival := s.arrivalCount, origin := .station n, cls := cls, zone := d.zone
                      sec := z.sec, state := .holding, raised := w, answered := none, firstHold := some w
                      distance := none, heldTime := 0, level := 0, timer := firstTimer s cls, repeats := 0
                      carried := false }
                ∧ ∀ m, 1 ≤ m → m ≤ 4 → pick t.stops m =
                  if m = z.sec then { pick s.stops m with
                    holdOrder := (pick s.stops m).holdOrder ++ [c.number], waiting := (pick s.stops m).waiting - 1
                    overflow := (pick s.stops m).overflow && decide (2 ≤ (pick s.stops m).waiting), request := true
                    coast := if (pick s.stops m).request then (pick s.stops m).coast else 0 }
                  else pick s.stops m))))
    ∧ (∀ c, selectorFinds s n e.operand c → (e.kind = .answer ∧ c.answered.isSome = true)
        ∨ (e.kind = .carry ∧ carriable s c = false) →
      exec i s = .next (heard.modStation n fun x => { x with ackThrough := some e.seq }))
    ∧ (∀ c, e.kind = .carry → selectorFinds s n e.operand c → carriable s c = true →
      ∃ t, exec i s = .next t
        ∧ sameButShown { heard with calls := withRecord s c (carriedNow s c), stations := t.stations, stops := t.stops
                                    loopA := t.loopA, loopB := t.loopB } t
        ∧ eventAcknowledged heard t n e.seq
        ∧ (c.state = .holding → holdLeft c s t ∧ loopsAnnounce heard t)
        ∧ (c.state ≠ .holding → t.stops = s.stops ∧ t.loopA = heard.loopA ∧ t.loopB = heard.loopB))
    ∧ (∀ c, e.kind = .clear → selectorFinds s n e.operand c → s.history.length ≤ 128 → s.nextSeq < 65536 →
        s.overflowCount ≤ 255 →
      ∃ t, exec i s = .next t
        ∧ sameButShown { heard with
            calls := s.calls.filter (fun x => x.number != c.number), stations := t.stations, stops := t.stops
            loopA := t.loopA, loopB := t.loopB, history := t.history, nextSeq := t.nextSeq
            overflowCount := t.overflowCount, staleTimer := t.staleTimer } t
        ∧ recordsAppended [closingOf s .cleared c] s t
        ∧ eventAcknowledged heard t n e.seq
        ∧ (c.state = .holding → holdLeft c s t ∧ loopsAnnounce heard t)
        ∧ (c.state ≠ .holding → t.stops = s.stops ∧ t.loopA = heard.loopA ∧ t.loopB = heard.loopB))
    ∧ (∀ c, e.kind = .answer → selectorFinds s n e.operand c → c.answered = none →
      ∃ t, exec i s = .next t
        ∧ sameButShown { heard with
            calls := withRecord s c { c with
              answered := some s.timeOfDay
              timer := if (ladderOf s c.cls).map (·.basis) = some .unanswered then none else c.timer }
            stations := t.stations } t
        ∧ eventAcknowledged heard t n e.seq)
    ∧ (e.kind = .restart → d.leader = true → (pick s.stops z.sec).holdOrder = [] →
        (pick s.stops z.sec).overflow = false → (pick s.stops z.sec).pending = true →
      ∃ t, exec i s = .next t
        ∧ sameButShown { heard with
            stations := t.stations, loopA := t.loopA, loopB := t.loopB
            stops := alter s.stops z.sec (fun x => { x with pending := false, request := false }) } t
        ∧ eventAcknowledged heard t n e.seq ∧ loopsAnnounce heard t)

/-- A miss, by a frame that is no STATUS and no HOLD of the polled station with its check, or by either timeout: the
misses counter rises; below the miss limit K the miss run rises; at K the station goes OFFLINE, with its runs at 0, its
acknowledgement absent, its verdict ACCEPTED, its calls of the policy DROP closed in display order with their DROPPED
records, its waiting mark cleared and handed to stop logic (the overflow hold clears with the section's last mark), and
the STATION notice last, the zone announcements following the stop requests; an OFFLINE station stays so. A line break
discards the part of a frame received so far, and the poll stays outstanding. -/
def Obligations.PollMissesTaken : Prop :=
  ∀ (s : State) (l : LoopId) (n : Nat), settled s = true → (s.loop l).polled = some n → 1 ≤ n → n ≤ 96 →
    (∀ i, missesPoll s l n i →
      ((pick s.stations n).state = .offline →
        exec i s = .next ((pollEnded s l).modStation n fun x => { x with misses := min 65535 (x.misses + 1) }))
      ∧ ((pick s.stations n).state ≠ .offline →
          (pick s.stations n).missRun + 1 < (loopSettings s (loopOf n)).missLimit →
        exec i s = .next ((pollEnded s l).modStation n fun x => { x with
          misses := min 65535 (x.misses + 1), missRun := x.missRun + 1 }))
      ∧ ((pick s.stations n).state ≠ .offline →
          (loopSettings s (loopOf n)).missLimit ≤ (pick s.stations n).missRun + 1 →
        ∃ t, exec i s = .next t ∧ goneOffline l n s t))
    ∧ (∀ content, (s.loop l).receiver = .outside →
      exec (.loopLineBreak l ([startMark] ++ escape content)) s =
        .next (s.modLoop l fun x => { x with started := true }))

/-! ## The board link (R174–R179) -/

/-- BOARD FRAME SENT in RUN, nothing in flight and nothing due: the first board with work after the round-robin position
is taken. A defined board has work while it is DARK with its probe due, or not DARK with a frame queued. To a DARK board
and to one whose toggle is unknown a PROBE goes out; otherwise the frame of the highest priority nearest the head leaves
the queue with its attempt count one higher, and unless a CLEAR's delivery is awaited as many of the board's marked
fields as the queue has room for are served, in their order, with their present contents. With no work, with something
in flight, or in CONFIG, nothing changes (the model's choice: log entry 3). -/
def Obligations.BoardFrameSentTaken : Prop :=
  ∀ s : State, settled s = true →
    (∀ b, 1 ≤ b → b ≤ 8 → (hasWork s b = true ↔ (s.boardDepth b).isSome = true
      ∧ (((pick s.boards b).state = .dark ∧ (pick s.boards b).probeDue = true)
        ∨ ((pick s.boards b).state ≠ .dark ∧ (pick s.boards b).queue ≠ []))))
    ∧ (s.mode = .config ∨ s.link.inFlight ≠ none ∨ (∀ b, 1 ≤ b → b ≤ 8 → hasWork s b = false) →
      exec .boardFrameSent s = .next s)
    ∧ (∀ k b, s.mode = .run → s.link.inFlight = none → 1 ≤ k → k ≤ 8 →
      b = (s.link.position + k - 1) % 8 + 1 → hasWork s b = true →
      (∀ j, 1 ≤ j → j < k → hasWork s ((s.link.position + j - 1) % 8 + 1) = false) →
      ((pick s.boards b).state = .dark →
        exec .boardFrameSent s = .next { s with
          boards := alter s.boards b (fun x => { x with probeDue := false })
          link := { s.link with inFlight := some (.probe b), position := b, started := false, receiver := .outside } })
      ∧ ((pick s.boards b).state ≠ .dark → (pick s.boards b).toggle = none →
        exec .boardFrameSent s = .next { s with
          link := { s.link with inFlight := some (.probe b), position := b, started := false, receiver := .outside } })
      ∧ (∀ toggle before fr after, (pick s.boards b).state ≠ .dark → (pick s.boards b).toggle = some toggle →
        (pick s.boards b).queue = before ++ fr :: after → (∀ x ∈ before, x.priority < fr.priority) →
        (∀ x ∈ after, x.priority ≤ fr.priority) →
        ∃ t, exec .boardFrameSent s = .next t
          ∧ t = { s with
              boards := t.boards, fields := t.fields
              link := { s.link with
                inFlight := some (.field b { fr with attempts := min 255 (fr.attempts + 1) } toggle)
                position := b, started := false, receiver := .outside } }
          ∧ (∀ m, 1 ≤ m → m ≤ 8 → m ≠ b → pick t.boards m = pick s.boards m)
          ∧ ((pick s.boards b).clearing = true → t.fields = s.fields
            ∧ pick t.boards b = { pick s.boards b with queue := before ++ after })
          ∧ ((pick s.boards b).clearing = false →
            pick t.boards b = { pick s.boards b with queue := (pick t.boards b).queue }
            ∧ marksServed s t b (before ++ after)
            ∧ ((∀ f, 1 ≤ f → f ≤ 12 → (pick (pick s.fields b) f).marked = false) →
              t.fields = s.fields ∧ pick t.boards b = { pick s.boards b with queue := before ++ after }))))

/-- The answers of a board. An ACK to a FIELD with the toggle sent: the timeout run is 0, the toggle turns over, a
LAGGING board is LIVE; without the reconfirm mark the frame is done and delivered, with it the frame goes back to the
head of the queue. A REFUSE: done and refused, with its reason. A done frame brings a refresh where one is owed. An ACK
to a PROBE: the board is LIVE with the other toggle, and a board that was DARK is refreshed. At the end of a CLEAR's
delivery, unless another stands queued, clearing becomes no and the marked fields are served as room allows. A
reconfirmed frame that finds a newer frame of its field takes its content, and at a full queue a frame is dropped and a
refresh owed (the model's choice: log entry 23). -/
def Obligations.BoardAnswersTaken : Prop :=
  ∀ (s : State) (b : Nat), settled s = true → s.link.receiver = .outside → 1 ≤ b → b ≤ 8 →
    (∀ fr toggle, s.link.inFlight = some (.field b fr toggle) → fr.field ≠ 0 → (pick s.boards b).state ≠ .dark →
      (fr.reconfirm = false →
        ∃ t, exec (.boardAckReceived (frameBytes [BitVec.ofNat 8 b, 17#8, if toggle then 1#8 else 0#8])) s = .next t
          ∧ t = { flightEnded s with boards := t.boards, fields := t.fields, host := t.host }
          ∧ (∀ m, 1 ≤ m → m ≤ 8 → m ≠ b → pick t.boards m = pick s.boards m)
          ∧ pick t.boards b = { pick s.boards b with
              timeoutRun := 0, toggle := (pick s.boards b).toggle.map not
              state := if (pick s.boards b).state = .lagging then .live else (pick s.boards b).state
              delivered := min 65535 ((pick s.boards b).delivered + 1), lastOutcome := some .delivered
              queue := if (pick s.boards b).owed then [clearFrame] else (pick s.boards b).queue
              clearing := (pick s.boards b).clearing || (pick s.boards b).owed, owed := false }
          ∧ ((pick s.boards b).owed = false → t.fields = s.fields))
      ∧ (fr.reconfirm = true → (∀ x ∈ (pick s.boards b).queue, x.field ≠ fr.field) →
          (pick s.boards b).queue.length < (s.boardDepth b).getD 0 →
        ∃ t, exec (.boardAckReceived (frameBytes [BitVec.ofNat 8 b, 17#8, if toggle then 1#8 else 0#8])) s = .next t
          ∧ t = { flightEnded s with
              host := t.host
              boards := alter s.boards b (fun x => { x with
                timeoutRun := 0, toggle := x.toggle.map not
                state := if x.state = .lagging then .live else x.state
                queue := { fr with reconfirm := false, attempts := 0 } :: x.queue }) })
      ∧ (∀ reason code, (reason, code) ∈ [(RefuseReason.fieldUndefined, 1#8), (.textTooLong, 2#8)] →
        ∃ t, exec (.boardRefuseReceived
            (frameBytes [BitVec.ofNat 8 b, 18#8, if toggle then 1#8 else 0#8, code])) s = .next t
          ∧ t = { flightEnded s with boards := t.boards, fields := t.fields, host := t.host }
          ∧ (∀ m, 1 ≤ m → m ≤ 8 → m ≠ b → pick t.boards m = pick s.boards m)
          ∧ pick t.boards b = { pick s.boards b with
              timeoutRun := 0, toggle := (pick s.boards b).toggle.map not
              state := if (pick s.boards b).state = .lagging then .live else (pick s.boards b).state
              refused := min 65535 ((pick s.boards b).refused + 1), lastOutcome := some .refused
              lastRefusal := some (fr.field, reason)
              queue := if (pick s.boards b).owed then [clearFrame] else (pick s.boards b).queue
              clearing := (pick s.boards b).clearing || (pick s.boards b).owed, owed := false }))
    ∧ (∀ toggle, s.link.inFlight = some (.probe b) →
      ∃ t, exec (.probeAckReceived (frameBytes [BitVec.ofNat 8 b, 17#8, if toggle then 1#8 else 0#8])) s = .next t
        ∧ t = { flightEnded s with
            boards := t.boards, fields := t.fields, host := t.host
            equations := t.equations, flags := t.flags, relays := t.relays, tunes := t.tunes }
        ∧ (∀ m, 1 ≤ m → m ≤ 8 → m ≠ b → pick t.boards m = pick s.boards m)
        ∧ ((pick s.boards b).state ≠ .dark →
          pick t.boards b = { pick s.boards b with toggle := some (!toggle), timeoutRun := 0, state := .live }
          ∧ t.fields = s.fields ∧ t.equations = s.equations)
        ∧ ((pick s.boards b).state = .dark →
          pick t.boards b = { pick s.boards b with
            toggle := some (!toggle), timeoutRun := 0, state := .live, probeTimer := none
            queue := [clearFrame], clearing := true, owed := false }
          ∧ ∀ f, 1 ≤ f → f ≤ 12 → (s.fieldDef b f).isSome = true → (pick (pick t.fields b) f).marked = true))
    ∧ (∀ fr toggle i, s.link.inFlight = some (.field b fr toggle) → fr.field = 0 → (pick s.boards b).state ≠ .dark →
      (pick s.boards b).owed = false →
      (i = .boardAckReceived (frameBytes [BitVec.ofNat 8 b, 17#8, if toggle then 1#8 else 0#8]) ∧ fr.reconfirm = false)
        ∨ i = .boardRefuseReceived (frameBytes [BitVec.ofNat 8 b, 18#8, if toggle then 1#8 else 0#8, 1#8]) →
      ∃ t, exec i s = .next t
        ∧ t = { flightEnded s with boards := t.boards, fields := t.fields, host := t.host }
        ∧ (∀ m, 1 ≤ m → m ≤ 8 → m ≠ b → pick t.boards m = pick s.boards m)
        ∧ pick t.boards b = { pick s.boards b with
            timeoutRun := 0, toggle := (pick s.boards b).toggle.map not
            state := if (pick s.boards b).state = .lagging then .live else (pick s.boards b).state
            queue := (pick t.boards b).queue, clearing := (pick t.boards b).clearing
            delivered := (pick t.boards b).delivered, refused := (pick t.boards b).refused
            lastOutcome := (pick t.boards b).lastOutcome, lastRefusal := (pick t.boards b).lastRefusal }
        ∧ ((∃ x ∈ (pick s.boards b).queue, x.field = 0) → t.fields = s.fields
          ∧ (pick t.boards b).queue = (pick s.boards b).queue
          ∧ (pick t.boards b).clearing = (pick s.boards b).clearing)
        ∧ ((∀ x ∈ (pick s.boards b).queue, x.field ≠ 0) → (pick t.boards b).clearing = false
          ∧ ((s.boardDepth b).isSome = true → marksServed s t b (pick s.boards b).queue)))
    ∧ (∀ fr toggle depth, s.link.inFlight = some (.field b fr toggle) → (pick s.boards b).state ≠ .dark →
      fr.reconfirm = true → fr.priority ≤ 3 → s.boardDepth b = some depth → 1 ≤ depth →
      queueSound (pick s.boards b).queue →
      ∃ t dropped lost,
        exec (.boardAckReceived (frameBytes [BitVec.ofNat 8 b, 17#8, if toggle then 1#8 else 0#8])) s = .next t
        ∧ t = { flightEnded s with
            host := t.host
            boards := alter s.boards b (fun x => { x with
              timeoutRun := 0, toggle := x.toggle.map not, state := if x.state = .lagging then .live else x.state
              queue := (pick t.boards b).queue, owed := x.owed || dropped
              clearing := x.clearing && !(lost && fr.field == 0) }) }
        ∧ backAtHead depth { fr with reconfirm := false, attempts := 0 } (pick s.boards b).queue
            (pick t.boards b).queue dropped lost)

/-- A failed attempt, by a frame that is no answer of the addressed board to what is in flight with its check, or by
either timeout. Below the eighth in a row the board is LAGGING, and its FIELD frame is put back at the head of the queue
while attempts are left, or dropped as failed with a refresh owed. At the eighth the board is DARK: its toggle unknown,
its probe timer at 50 tenths, the frame back at the head with no attempt and no reconfirm mark. A frame put back takes
the content of a newer queued frame of its field; at a full queue it is dropped if its priority is below all (the
delivery of a CLEAR so dropped ends), else the newest frame of the lowest priority is, and a refresh is owed. A CLEAR
whose attempts are exhausted ends its delivery, and the marked fields are served. A failed PROBE to a board that is not
DARK makes it LAGGING, or DARK at the eighth; one to a DARK board loads the probe timer alone. A line break discards the
part of a frame received so far, and the attempt goes on. -/
def Obligations.BoardFailuresTaken : Prop :=
  ∀ (s : State) (b : Nat), settled s = true → 1 ≤ b → b ≤ 8 →
    (∀ i, failsAttempt s i →
      (∀ fr toggle, s.link.inFlight = some (.field b fr toggle) → (pick s.boards b).state ≠ .dark → fr.field ≠ 0 →
        (∀ x ∈ (pick s.boards b).queue, x.field ≠ fr.field) →
        (pick s.boards b).queue.length < (s.boardDepth b).getD 0 →
        ((pick s.boards b).timeoutRun < 7 →
          (pick s.defs.links.retry b = .persist ∨ (pick s.defs.links.retry b = .three ∧ fr.attempts < 4)) →
          ∃ t, exec i s = .next t
            ∧ t = { flightEnded s with
                host := t.host
                boards := alter s.boards b (fun x => { x with
                  timeoutRun := x.timeoutRun + 1, state := .lagging, queue := fr :: x.queue }) })
        ∧ ((pick s.boards b).timeoutRun < 7 →
          ((pick s.defs.links.retry b = .none ∧ 1 ≤ fr.attempts) ∨
            (pick s.defs.links.retry b = .three ∧ 4 ≤ fr.attempts)) →
          ∃ t, exec i s = .next t
            ∧ t = { flightEnded s with
                host := t.host
                boards := alter s.boards b (fun x => { x with
                  timeoutRun := x.timeoutRun + 1, state := .lagging
                  failed := min 65535 (x.failed + 1), lastOutcome := some .failed, owed := true }) })
        ∧ ((pick s.boards b).timeoutRun = 7 →
          ∃ t, exec i s = .next t
            ∧ t = { flightEnded s with
                host := t.host, equations := t.equations, flags := t.flags, relays := t.relays, tunes := t.tunes
                boards := alter s.boards b (fun x => { x with
                  timeoutRun := 8, state := .dark, toggle := none, probeTimer := some 50, probeDue := false
                  queue := { fr with attempts := 0, reconfirm := false } :: x.queue }) }))
      ∧ (∀ fr toggle depth, s.link.inFlight = some (.field b fr toggle) → (pick s.boards b).state ≠ .dark →
        fr.priority ≤ 3 → s.boardDepth b = some depth → 1 ≤ depth → queueSound (pick s.boards b).queue →
        ((pick s.boards b).timeoutRun < 7 →
          (pick s.defs.links.retry b = .persist ∨ (pick s.defs.links.retry b = .three ∧ fr.attempts < 4)) →
          ∃ t dropped lost, exec i s = .next t
            ∧ t = { flightEnded s with
                host := t.host
                boards := alter s.boards b (fun x => { x with
                  timeoutRun := x.timeoutRun + 1, state := .lagging, queue := (pick t.boards b).queue
                  owed := x.owed || dropped, clearing := x.clearing && !(lost && fr.field == 0) }) }
            ∧ backAtHead depth fr (pick s.boards b).queue (pick t.boards b).queue dropped lost)
        ∧ ((pick s.boards b).timeoutRun = 7 →
          ∃ t dropped lost, exec i s = .next t
            ∧ t = { flightEnded s with
                host := t.host, equations := t.equations, flags := t.flags, relays := t.relays, tunes := t.tunes
                boards := alter s.boards b (fun x => { x with
                  timeoutRun := 8, state := .dark, toggle := none, probeTimer := some 50, probeDue := false
                  queue := (pick t.boards b).queue, owed := x.owed || dropped
                  clearing := x.clearing && !(lost && fr.field == 0) }) }
            ∧ backAtHead depth { fr with attempts := 0, reconfirm := false } (pick s.boards b).queue
                (pick t.boards b).queue dropped lost))
      ∧ (∀ fr toggle, s.link.inFlight = some (.field b fr toggle) → (pick s.boards b).state ≠ .dark → fr.field = 0 →
        (pick s.boards b).timeoutRun < 7 → (∀ x ∈ (pick s.boards b).queue, x.field ≠ 0) →
        ((pick s.defs.links.retry b = .none ∧ 1 ≤ fr.attempts) ∨
          (pick s.defs.links.retry b = .three ∧ 4 ≤ fr.attempts)) →
        ∃ t, exec i s = .next t
          ∧ t = { flightEnded s with host := t.host, boards := t.boards, fields := t.fields }
          ∧ (∀ m, 1 ≤ m → m ≤ 8 → m ≠ b → pick t.boards m = pick s.boards m)
          ∧ pick t.boards b = { pick s.boards b with
              timeoutRun := (pick s.boards b).timeoutRun + 1, state := .lagging, clearing := false, owed := true
              failed := min 65535 ((pick s.boards b).failed + 1), lastOutcome := some .failed
              queue := (pick t.boards b).queue }
          ∧ ((s.boardDepth b).isSome = true → marksServed s t b (pick s.boards b).queue))
      ∧ (s.link.inFlight = some (.probe b) → (pick s.boards b).state ≠ .dark →
        ((pick s.boards b).timeoutRun < 7 →
          ∃ t, exec i s = .next t
            ∧ t = { flightEnded s with
                host := t.host
                boards := alter s.boards b (fun x => { x with timeoutRun := x.timeoutRun + 1, state := .lagging }) })
        ∧ ((pick s.boards b).timeoutRun = 7 →
          ∃ t, exec i s = .next t
            ∧ t = { flightEnded s with
                host := t.host, equations := t.equations, flags := t.flags, relays := t.relays, tunes := t.tunes
                boards := alter s.boards b (fun x => { x with
                  timeoutRun := 8, state := .dark, toggle := none, probeTimer := some 50, probeDue := false }) }))
      ∧ (s.link.inFlight = some (.probe b) → (pick s.boards b).state = .dark →
        exec i s = .next { flightEnded s with
          boards := alter s.boards b (fun x => { x with probeTimer := some 50 }) }))
    ∧ (∀ content flight, s.link.inFlight = some flight → s.link.receiver = .outside →
      exec (.boardLineBreak ([startMark] ++ escape content)) s =
        .next { s with link := { s.link with started := true } })

/-! ## The delays of the equations (R109–R111) -/

/-- The delay kinds of an equation. NONE: the output follows the raw value, and no timer is used. ON-DELAY d: a rising
edge loads the timer with d; a falling edge removes it and makes the output false; the expiry removes it and makes the
output true. OFF-DELAY d: a rising edge removes the timer and makes the output true; a falling edge loads the timer with
d and keeps the output; the expiry removes the timer and makes the output false. PULSE d: a rising edge with the timer
absent makes the output true and loads the timer with d; with the timer present it changes only the raw value, and so
does a falling edge; the expiry removes the timer and makes the output false. No edge, no change. -/
def Obligations.DelayEdgesTaken : Prop :=
  ∀ (d : Nat) (e : EquationState),
    (∀ now, e.raw ≠ now → takeRaw .none e now = { e with raw := now, output := now })
    ∧ (e.raw = false → takeRaw (.onDelay d) e true = { e with raw := true, timer := some d })
    ∧ (e.raw = true → takeRaw (.onDelay d) e false = { e with raw := false, timer := none, output := false })
    ∧ takeExpiry (.onDelay d) e = { e with timer := none, output := true }
    ∧ (e.raw = false → takeRaw (.offDelay d) e true = { e with raw := true, timer := none, output := true })
    ∧ (e.raw = true → takeRaw (.offDelay d) e false = { e with raw := false, timer := some d })
    ∧ takeExpiry (.offDelay d) e = { e with timer := none, output := false }
    ∧ (e.raw = false → e.timer = none →
      takeRaw (.pulse d) e true = { e with raw := true, timer := some d, output := true })
    ∧ (e.raw = false → e.timer ≠ none → takeRaw (.pulse d) e true = { e with raw := true })
    ∧ (e.raw = true → takeRaw (.pulse d) e false = { e with raw := false })
    ∧ takeExpiry (.pulse d) e = { e with timer := none, output := false }
    ∧ ∀ k, takeRaw k e e.raw = e

/-! ## What every step keeps -/

/-- No step brings the call table past 64 records, or past 56 of class behaviour NONE, the history queue past 128, the
outbound queue past 32 frames or the request queue past 8; and none brings a board's queue past its depth, or two frames
of one field into it. The NONE-class records need that CONFIG is idle and the call table in order, invariants of their
own. -/
def Obligations.StepKeepsCapacity : Prop :=
  ∀ s t : State, step s = .next t →
    (withinCapacity s → withinCapacity t)
    ∧ (configIdle s → callsInOrder s → noneWithinCapacity s → noneWithinCapacity t)
    ∧ (boardQueuesFit s → boardQueuesFit t)

/-- Every step keeps the history queue in order: each record's sequence one more, modulo 65536, than that of the record
before it, and the next sequence one more than the newest. Every step keeps the call table in order: the standing calls
have numbers of 1 to 9999, all different, one call for each origin and class, and stand in ascending arrival order. -/
def Obligations.StepKeepsHistoryInOrder : Prop :=
  ∀ s t : State, step s = .next t →
    (historyInOrder s → historyInOrder t) ∧ (callsInOrder s → callsInOrder t)

/-- Every step keeps each defined section's phase within 0 to P−1 and its debt within 0 to P, and the definitions in
their ranges. -/
def Obligations.StepKeepsTrackersInRange : Prop :=
  ∀ s t : State, trackersInRange s → step s = .next t → trackersInRange t

/-- Every step keeps CONFIG idle: no call, no shift, no poll outstanding, nothing in flight, the equation unit idle; and
the current-shift part absent exactly in the shift state NONE. In RUN every step keeps the working definitions such that
the checks of ENTER RUN pass, and the owned flags, the relays and the tune channels as the outputs of their equations
have them. -/
def Obligations.StepKeepsConfigIdle : Prop :=
  ∀ s t : State, step s = .next t → configIdle s ∧ shiftPresent s →
    (configIdle t ∧ shiftPresent t)
    ∧ (definitionsAgree s → definitionsAgree t ∧ (outputsFollow s → outputsFollow t))

/-- Every step keeps each section's stop request asserted exactly while the section has a HOLDING call, its overflow
hold is set, or its restart is pending. While CONFIG is idle and the call table in order (invariants of their own), it
keeps each section's hold order the numbers of its HOLDING calls, each once. -/
def Obligations.StepKeepsRequestsWithCauses : Prop :=
  ∀ s t : State, step s = .next t →
    (requestsHaveCauses s → requestsHaveCauses t)
    ∧ (configIdle s → callsInOrder s → holdOrdersAgree s → holdOrdersAgree t)

/-- All these invariants hold of the state after reset. -/
def Obligations.InvariantsHoldAtReset : Prop :=
  withinCapacity State.reset ∧ historyInOrder State.reset ∧ trackersInRange State.reset ∧ configIdle State.reset
    ∧ shiftPresent State.reset ∧ requestsHaveCauses State.reset ∧ noneWithinCapacity State.reset
    ∧ boardQueuesFit State.reset ∧ callsInOrder State.reset ∧ holdOrdersAgree State.reset
    ∧ definitionsAgree State.reset ∧ outputsFollow State.reset
end

