-- ==== Sys2Proof/Laws/Bank.lean ====
section
/-! SUPPORT. Bank: reading a bank after a change, and the ranges of counters. -/

namespace Sys2Proof.Machine

variable {α : Type}

theorem within_iff {lo hi k : Nat} : within lo hi k = true ↔ lo ≤ k ∧ k ≤ hi := by simp [within]

theorem mem_numbers {n k : Nat} : k ∈ numbers n ↔ 1 ≤ k ∧ k ≤ n := by
  simp only [numbers, List.mem_map, List.mem_range]
  constructor
  · rintro ⟨i, hi, rfl⟩; omega
  · rintro ⟨h1, h2⟩; exact ⟨k - 1, by omega, by omega⟩

/-- The i-th thing of a bank, for an i within it. -/
theorem pick_of_within [Inhabited α] {n i : Nat} (v : Vector α n) (h1 : 1 ≤ i) (h2 : i ≤ n) :
    pick v i = v[i - 1] := by
  unfold pick; rw [dif_pos (by omega), if_neg (by omega)]

theorem pick_outside [Inhabited α] {n i : Nat} (v : Vector α n) (h : i = 0 ∨ n < i) : pick v i = default := by
  unfold pick; split
  · rw [if_pos (by omega)]
  · rfl

theorem alter_of_within {n i : Nat} (v : Vector α n) (f : α → α) (h1 : 1 ≤ i) (h2 : i ≤ n) :
    alter v i f = v.set (i - 1) (f v[i - 1]) := by
  unfold alter; rw [dif_pos (by omega), if_neg (by omega)]

theorem alter_outside {n i : Nat} (v : Vector α n) (f : α → α) (h : i = 0 ∨ n < i) : alter v i f = v := by
  unfold alter; split
  · rw [if_pos (by omega)]
  · rfl

/-- The thing changed is read back changed. -/
theorem pick_alter_same [Inhabited α] {n i : Nat} (v : Vector α n) (f : α → α) (h1 : 1 ≤ i) (h2 : i ≤ n) :
    pick (alter v i f) i = f (pick v i) := by
  rw [alter_of_within v f h1 h2, pick_of_within _ h1 h2, pick_of_within v h1 h2, Vector.getElem_set_self]

/-- Every other thing is read back as it was. -/
theorem pick_alter_ne [Inhabited α] {n i j : Nat} (v : Vector α n) (f : α → α) (h : j ≠ i) :
    pick (alter v i f) j = pick v j := by
  by_cases hi : 1 ≤ i ∧ i ≤ n
  · by_cases hj : 1 ≤ j ∧ j ≤ n
    · rw [alter_of_within v f hi.1 hi.2, pick_of_within _ hj.1 hj.2, pick_of_within v hj.1 hj.2,
        Vector.getElem_set_ne _ _ (by omega)]
    · rw [pick_outside _ (by omega), pick_outside _ (by omega)]
  · rw [alter_outside v f (by omega)]

/-- What is read back of a bank after one change. -/
theorem pick_alter [Inhabited α] {n i j : Nat} (v : Vector α n) (f : α → α) :
    pick (alter v i f) j = if j = i ∧ 1 ≤ i ∧ i ≤ n then f (pick v i) else pick v j := by
  by_cases h : j = i
  · subst h
    by_cases hi : 1 ≤ j ∧ j ≤ n
    · rw [if_pos ⟨rfl, hi⟩, pick_alter_same v f hi.1 hi.2]
    · rw [if_neg (by tauto), alter_outside v f (by omega)]
  · rw [if_neg (by tauto), pick_alter_ne v f h]

/-- What is read back of a bank after all of it has changed. -/
theorem pick_alterAll [Inhabited α] {n i : Nat} (v : Vector α n) (f : Nat → α → α) (h1 : 1 ≤ i) (h2 : i ≤ n) :
    pick (alterAll v f) i = f i (pick v i) := by
  rw [pick_of_within _ h1 h2, pick_of_within v h1 h2]
  simp [alterAll, Nat.sub_add_cancel h1]

theorem pick_replicate [Inhabited α] {n i : Nat} (x : α) (h1 : 1 ≤ i) (h2 : i ≤ n) :
    pick (Vector.replicate n x) i = x := by
  rw [pick_of_within _ h1 h2, Vector.getElem_replicate]

theorem clamp_within {lo hi : Nat} (k : Nat) (h : lo ≤ hi) : lo ≤ clamp lo hi k ∧ clamp lo hi k ≤ hi := by
  unfold clamp; split <;> [skip; split] <;> omega

theorem clamp_of_within {lo hi k : Nat} (h1 : lo ≤ k) (h2 : k ≤ hi) : clamp lo hi k = k := by
  unfold clamp; rw [if_neg (by omega), if_neg (by omega)]

theorem saturate_le (limit k n : Nat) : saturate limit k n ≤ limit := Nat.min_le_left _ _

theorem wrap_le {maximum n : Nat} (h : n ≤ maximum) : wrap maximum n ≤ maximum := by
  unfold wrap; split <;> omega

/-- A fold that leaves the state as it is at each member leaves it as it is. -/
theorem foldl_fixed {β : Type} (f : α → β → α) (s : α) (l : List β) (h : ∀ x ∈ l, f s x = s) : l.foldl f s = s := by
  induction l with
  | nil => rfl
  | cons x xs ih =>
    rw [List.foldl_cons, h x (List.mem_cons_self ..)]
    exact ih fun y hy => h y (List.mem_cons_of_mem _ hy)

/-- What every step of a fold keeps, the fold keeps. -/
theorem foldl_keeps {β γ : Type} (view : α → γ) (f : α → β → α) (h : ∀ s x, view (f s x) = view s) (l : List β) (s : α) :
    view (l.foldl f s) = view s := by
  induction l generalizing s with
  | nil => rfl
  | cons x xs ih => rw [List.foldl_cons, ih, h]

/-- A property that every step of a fold keeps holds after the fold. -/
theorem foldl_holds {β : Type} (p : α → Prop) (f : α → β → α) (h : ∀ s x, p s → p (f s x)) (l : List β) (s : α)
    (hs : p s) : p (l.foldl f s) := by
  induction l generalizing s with
  | nil => exact hs
  | cons x xs ih => exact ih _ (h _ _ hs)

end Sys2Proof.Machine
end

