-- ==== Sys2Proof/Laws/Frames.lean ====
section
/-! SUPPORT. Frames: what each shared operation can change. A view of the state blanks a group of fields; a lemma
`f (view)` says that an operation leaves the view as it was, so it changes no field outside the group. From such a
lemma, `congrArg State.<field>` gives that one field is unchanged, and `congrArg` of a wider view gives that view. -/

namespace Sys2Proof.Machine

/-! ## The views -/

namespace State

/-- All but the host link. -/
def butHost (s : State) : State :=
  { s with host := startHost }

/-- All but the equation unit. -/
def butEquations (s : State) : State :=
  { s with equations := Vector.replicate 48 startEquation, flags := Vector.replicate 32 false
           relays := Vector.replicate 8 false, tunes := Vector.replicate 4 0 }

/-- All but the boards and fields. -/
def butBoards (s : State) : State :=
  { s with boards := Vector.replicate 8 startBoard, fields := Vector.replicate 8 (Vector.replicate 12 startField) }

/-- All but the loop controllers. -/
def butLoops (s : State) : State :=
  { s with loopA := startLoop, loopB := startLoop }

/-- All but stop logic and what it tells: the equation unit, the loop controllers, the host link. -/
def butStops (s : State) : State :=
  { s with equations := Vector.replicate 48 startEquation, flags := Vector.replicate 32 false
           relays := Vector.replicate 8 false, tunes := Vector.replicate 4 0
           loopA := startLoop, loopB := startLoop
           stops := Vector.replicate 4 startStop
           host := startHost }

/-- All but the history queue and the host link. -/
def butHistory (s : State) : State :=
  { s with history := [], nextSeq := 0, overflowCount := 0, staleTimer := none
           host := startHost }

/-- All but the standing calls and what a change of one touches: the stations, stop logic, the equation unit, the
loop controllers, the boards and fields, the host link. -/
def butChange (s : State) : State :=
  { s with equations := Vector.replicate 48 startEquation, flags := Vector.replicate 32 false
           relays := Vector.replicate 8 false, tunes := Vector.replicate 4 0
           loopA := startLoop, loopB := startLoop
           stops := Vector.replicate 4 startStop
           host := startHost
           boards := Vector.replicate 8 startBoard, fields := Vector.replicate 8 (Vector.replicate 12 startField)
           calls := [], stations := Vector.replicate 96 startStation }

/-- All but the call table and what it touches, the history queue among them. -/
def butCalls (s : State) : State :=
  { s with equations := Vector.replicate 48 startEquation, flags := Vector.replicate 32 false
           relays := Vector.replicate 8 false, tunes := Vector.replicate 4 0
           loopA := startLoop, loopB := startLoop
           stops := Vector.replicate 4 startStop
           host := startHost
           boards := Vector.replicate 8 startBoard, fields := Vector.replicate 8 (Vector.replicate 12 startField)
           calls := [], stations := Vector.replicate 96 startStation
           lastNumber := 0, arrivalCount := 0
           history := [], nextSeq := 0, overflowCount := 0, staleTimer := none }

/-- All but the shift account and what a change of it touches. -/
def butAccount (s : State) : State :=
  { s with equations := Vector.replicate 48 startEquation, flags := Vector.replicate 32 false
           relays := Vector.replicate 8 false, tunes := Vector.replicate 4 0
           loopA := startLoop, loopB := startLoop
           host := startHost
           boards := Vector.replicate 8 startBoard, fields := Vector.replicate 8 (Vector.replicate 12 startField)
           shift := none, shiftState := .none }

/-- All but what taking something due can change. -/
def butDue (s : State) : State :=
  { s with equations := Vector.replicate 48 startEquation, flags := Vector.replicate 32 false
           relays := Vector.replicate 8 false, tunes := Vector.replicate 4 0
           loopA := startLoop, loopB := startLoop
           stops := Vector.replicate 4 startStop
           host := startHost
           boards := Vector.replicate 8 startBoard, fields := Vector.replicate 8 (Vector.replicate 12 startField)
           calls := [], stations := Vector.replicate 96 startStation
           shift := none, shiftState := .none, timeOfDay := 0, tenths := 0, staleTimer := none, refreshTimer := none }

end State

/-! ## A wider view of a narrower one -/

theorem butStops_absorbs_butHost (s : State) : s.butHost.butStops = s.butStops := rfl
theorem butStops_absorbs_butEquations (s : State) : s.butEquations.butStops = s.butStops := rfl
theorem butStops_absorbs_butLoops (s : State) : s.butLoops.butStops = s.butStops := rfl
theorem butChange_absorbs_butStops (s : State) : s.butStops.butChange = s.butChange := rfl
theorem butChange_absorbs_butBoards (s : State) : s.butBoards.butChange = s.butChange := rfl
theorem butHistory_absorbs_butHost (s : State) : s.butHost.butHistory = s.butHistory := rfl
theorem butCalls_absorbs_butChange (s : State) : s.butChange.butCalls = s.butCalls := rfl
theorem butCalls_absorbs_butHistory (s : State) : s.butHistory.butCalls = s.butCalls := rfl
theorem butAccount_absorbs_butHost (s : State) : s.butHost.butAccount = s.butAccount := rfl
theorem butAccount_absorbs_butEquations (s : State) : s.butEquations.butAccount = s.butAccount := rfl
theorem butAccount_absorbs_butLoops (s : State) : s.butLoops.butAccount = s.butAccount := rfl
theorem butAccount_absorbs_butBoards (s : State) : s.butBoards.butAccount = s.butAccount := rfl
theorem butDue_absorbs_butChange (s : State) : s.butChange.butDue = s.butDue := rfl
theorem butDue_absorbs_butHost (s : State) : s.butHost.butDue = s.butDue := rfl
theorem butDue_absorbs_butBoards (s : State) : s.butBoards.butDue = s.butDue := rfl
theorem butDue_absorbs_butEquations (s : State) : s.butEquations.butDue = s.butDue := rfl
theorem butDue_absorbs_butAccount (s : State) : s.butAccount.butDue = s.butDue := rfl

/-! ## The host link -/

theorem notify_butHost (s : State) (n : Notice) : (s.notify n).butHost = s.butHost := by
  unfold State.notify; split
  · split <;> rfl
  · rfl

theorem takeReply_butHost (s : State) : s.takeReply.butHost = s.butHost := by
  unfold State.takeReply; split <;> rfl

/-! ## The equation unit -/

theorem applyTarget_butEquations (s : State) (t : Target) (o : Bool) :
    (applyTarget s t o).1.butEquations = s.butEquations := by
  unfold applyTarget; dsimp only; split <;> (try split) <;> rfl

theorem settleEquation_butEquations (s : State) (i : Nat) (d : EquationDef) (e : EquationState) :
    (settleEquation s i d e).1.butEquations = s.butEquations := by
  unfold settleEquation; dsimp only
  split
  · rfl
  · exact applyTarget_butEquations ..

theorem passOne_butEquations (b : Bool) (acc : State × List Change) (i : Nat) :
    (passOne b acc i).1.butEquations = acc.1.butEquations := by
  unfold passOne
  split
  · rfl
  · dsimp only
    split <;> split <;> simp only [settleEquation_butEquations]

theorem equationPass_butEquations (b : Bool) (cs : List Change) (s : State) :
    (equationPass b cs s).butEquations = s.butEquations :=
  foldl_keeps (fun acc : State × List Change => acc.1.butEquations) (passOne b) (passOne_butEquations b) _ (s, cs)

theorem handOn_butEquations (s : State) (cs : List Change) : (s.handOn cs).butEquations = s.butEquations := by
  unfold State.handOn; split
  · exact equationPass_butEquations ..
  · rfl

theorem handBehind_butEquations (s b : State) : (s.handBehind b).butEquations = s.butEquations := by
  unfold State.handBehind; split
  · rfl
  · exact handOn_butEquations ..

theorem takeDelays_butEquations (s : State) : s.takeDelays.butEquations = s.butEquations := by
  unfold State.takeDelays; split
  · exact equationPass_butEquations ..
  · rfl

/-! ## The composer -/

theorem recomposeField_butBoards (s : State) (b f : Nat) : (recomposeField s b f).butBoards = s.butBoards := by
  unfold recomposeField
  split
  · dsimp only
    split
    · rfl
    · split <;> rfl
  · rfl

theorem recompose_butBoards (s : State) (p : FieldKind → Bool) : (s.recompose p).butBoards = s.butBoards := by
  unfold State.recompose
  split
  · refine foldl_keeps State.butBoards _ (fun t bf => ?_) _ _
    split
    · split
      · exact recomposeField_butBoards ..
      · rfl
    · rfl
  · rfl

theorem serveField_butBoards (depth b : Nat) (s : State) (f : Nat) : (serveField depth b s f).butBoards = s.butBoards := by
  unfold serveField; split <;> rfl

theorem serve_butBoards (s : State) (b : Nat) : (s.serve b).butBoards = s.butBoards := by
  unfold State.serve
  split
  · dsimp only
    split
    · rfl
    · exact foldl_keeps State.butBoards _ (serveField_butBoards _ _) _ _
  · rfl

theorem endClear_butBoards (s : State) (b : Nat) : (s.endClear b).butBoards = s.butBoards := by
  unfold State.endClear; split
  · rfl
  · rw [serve_butBoards]; rfl

theorem refreshBoard_butBoards (s : State) (b : Nat) : (s.refreshBoard b).butBoards = s.butBoards := rfl

theorem refreshBoards_butBoards (s : State) (p : Board → Bool) : (s.refreshBoards p).butBoards = s.butBoards := by
  unfold State.refreshBoards
  refine foldl_keeps State.butBoards _ (fun t b => ?_) _ _
  split <;> rfl

theorem composeAccount_butBoards (s : State) : s.composeAccount.butBoards = s.butBoards := by
  unfold State.composeAccount; split
  · rfl
  · exact recompose_butBoards ..

/-! ## The loop controllers -/

theorem announceZone_butLoops (s : State) (l : LoopId) (z : Nat) : (announceZone s l z).butLoops = s.butLoops := by
  unfold announceZone; dsimp only; split
  · rfl
  · cases l <;> rfl

theorem announce_butLoops (s : State) (zs : List Nat) : (s.announce zs).butLoops = s.butLoops := by
  unfold State.announce; split
  · refine foldl_keeps State.butLoops _ (fun t z => ?_) _ _
    rw [announceZone_butLoops, announceZone_butLoops]
  · rfl

/-! ## The history queue -/

theorem historyOccasion_butHistory (s : State) (b : Bool) : (s.historyOccasion b).butHistory = s.butHistory := by
  unfold State.historyOccasion
  rw [← butHistory_absorbs_butHost, notify_butHost]; rfl

theorem appendRecord_butHistory (s : State) (e : HistoryEntry) : (s.appendRecord e).butHistory = s.butHistory := by
  unfold State.appendRecord
  dsimp only
  split
  · split
    · rw [historyOccasion_butHistory]; rfl
    · rfl
  · rw [← butHistory_absorbs_butHost, notify_butHost]; rfl

theorem takeStale_butHistory (s : State) : s.takeStale.butHistory = s.butHistory := by
  unfold State.takeStale; split
  · exact historyOccasion_butHistory ..
  · rfl

/-! ## Stop logic -/

theorem notify_butStops (s : State) (n : Notice) : (s.notify n).butStops = s.butStops := by
  rw [← butStops_absorbs_butHost, notify_butHost, butStops_absorbs_butHost]

theorem handOn_butStops (s : State) (cs : List Change) : (s.handOn cs).butStops = s.butStops := by
  rw [← butStops_absorbs_butEquations, handOn_butEquations, butStops_absorbs_butEquations]

theorem announce_butStops (s : State) (zs : List Nat) : (s.announce zs).butStops = s.butStops := by
  rw [← butStops_absorbs_butLoops, announce_butLoops, butStops_absorbs_butLoops]

theorem modStop_butStops (s : State) (n : Nat) (f : StopLogic → StopLogic) : (s.modStop n f).butStops = s.butStops := rfl

theorem sectionNotice_butStops (s : State) (n : Nat) (c : SectionCause) : (s.sectionNotice n c).butStops = s.butStops :=
  notify_butStops ..

theorem assertRequest_butStops (s : State) (n : Nat) : (s.assertRequest n).butStops = s.butStops := by
  simp only [State.assertRequest, sectionNotice_butStops, announce_butStops, handOn_butStops, modStop_butStops]

theorem releaseRequest_butStops (s : State) (n : Nat) : (s.releaseRequest n).butStops = s.butStops := by
  simp only [State.releaseRequest, sectionNotice_butStops, announce_butStops, handOn_butStops, modStop_butStops]

theorem lineUp_butStops (s : State) (n : Nat) : (s.lineUp n).butStops = s.butStops := by
  unfold State.lineUp; dsimp only
  split
  · rfl
  · split
    · exact assertRequest_butStops ..
    · exact releaseRequest_butStops ..

theorem causeLeft_butStops (s : State) (n : Nat) : (s.causeLeft n).butStops = s.butStops := by
  unfold State.causeLeft; dsimp only
  split <;> split <;> simp only [lineUp_butStops, sectionNotice_butStops, handOn_butStops, modStop_butStops]

theorem giveRestart_butStops (s : State) (n : Nat) : (s.giveRestart n).butStops = s.butStops := by
  simp only [State.giveRestart, lineUp_butStops, handOn_butStops, modStop_butStops]

theorem enterHold_butStops (s : State) (n k : Nat) : (s.enterHold n k).butStops = s.butStops := by
  unfold State.enterHold; dsimp only
  split <;> simp only [handOn_butStops, modStop_butStops]

theorem leaveHold_butStops (s : State) (n k : Nat) : (s.leaveHold n k).butStops = s.butStops := by
  unfold State.leaveHold; dsimp only
  split <;> simp only [handOn_butStops, modStop_butStops]

theorem waitingRises_butStops (s : State) (n : Nat) : (s.waitingRises n).butStops = s.butStops := by
  unfold State.waitingRises; dsimp only
  split <;> simp only [lineUp_butStops, notify_butStops, handOn_butStops, modStop_butStops]

theorem waitingFalls_butStops (s : State) (n : Nat) : (s.waitingFalls n).butStops = s.butStops := by
  unfold State.waitingFalls; dsimp only
  split <;> simp only [causeLeft_butStops, notify_butStops, handOn_butStops, modStop_butStops]

/-! ## A change of a call -/

theorem butChange_of_butStops {s t : State} (h : t.butStops = s.butStops) : t.butChange = s.butChange := by
  rw [← butChange_absorbs_butStops, h, butChange_absorbs_butStops]

theorem handOn_butChange (s : State) (cs : List Change) : (s.handOn cs).butChange = s.butChange :=
  butChange_of_butStops (handOn_butStops s cs)

theorem notify_butChange (s : State) (n : Notice) : (s.notify n).butChange = s.butChange :=
  butChange_of_butStops (notify_butStops s n)

theorem recompose_butChange (s : State) (p : FieldKind → Bool) : (s.recompose p).butChange = s.butChange := by
  rw [← butChange_absorbs_butBoards, recompose_butBoards, butChange_absorbs_butBoards]

theorem lineUp_butChange (s : State) (n : Nat) : (s.lineUp n).butChange = s.butChange :=
  butChange_of_butStops (lineUp_butStops s n)

theorem causeLeft_butChange (s : State) (n : Nat) : (s.causeLeft n).butChange = s.butChange :=
  butChange_of_butStops (causeLeft_butStops s n)

theorem enterHold_butChange (s : State) (n k : Nat) : (s.enterHold n k).butChange = s.butChange :=
  butChange_of_butStops (enterHold_butStops s n k)

theorem leaveHold_butChange (s : State) (n k : Nat) : (s.leaveHold n k).butChange = s.butChange :=
  butChange_of_butStops (leaveHold_butStops s n k)

theorem modCall_butChange (s : State) (n : Nat) (f : Call → Call) : (s.modCall n f).butChange = s.butChange := rfl

theorem modStation_butChange (s : State) (n : Nat) (f : Station → Station) :
    (s.modStation n f).butChange = s.butChange := rfl

theorem callsChanged_butChange (s : State) (c : Call) (b : Bool) : (s.callsChanged c b).butChange = s.butChange := by
  unfold State.callsChanged; dsimp only
  rw [recompose_butChange, handOn_butChange]
  split <;> rfl

theorem callNotice_butChange (s : State) (x : CallChange) (o : Option Closing) (c : Call) :
    (s.callNotice x o c).butChange = s.butChange := notify_butChange ..

theorem noticeOf_butChange (s : State) (x : CallChange) (n : Nat) : (s.noticeOf x n).butChange = s.butChange := by
  unfold State.noticeOf; split
  · exact callNotice_butChange ..
  · rfl

theorem repeatCall_butChange (s : State) (c : Call) : (s.repeatCall c).butChange = s.butChange := by
  unfold State.repeatCall; dsimp only
  split <;> simp only [lineUp_butChange, noticeOf_butChange, callsChanged_butChange, enterHold_butChange,
    modCall_butChange]

theorem answerCall_butChange (s : State) (c : Call) : (s.answerCall c).butChange = s.butChange := by
  unfold State.answerCall; dsimp only
  split <;> simp only [noticeOf_butChange, callsChanged_butChange, modCall_butChange]

theorem carryCall_butChange (s : State) (c : Call) : (s.carryCall c).butChange = s.butChange := by
  unfold State.carryCall; dsimp only
  split <;> simp only [causeLeft_butChange, noticeOf_butChange, callsChanged_butChange, leaveHold_butChange,
    modCall_butChange]

theorem expireStop_butChange (s : State) (k : Nat) : (s.expireStop k).butChange = s.butChange := by
  unfold State.expireStop; split
  · rfl
  · simp only [lineUp_butChange, noticeOf_butChange, callsChanged_butChange, enterHold_butChange, modCall_butChange]

theorem climb_butChange (s : State) (k : Nat) : (s.climb k).butChange = s.butChange := by
  unfold State.climb; split
  · rfl
  · simp only [noticeOf_butChange, callsChanged_butChange, modCall_butChange]

theorem markWaiting_butChange (s : State) (n : Nat) : (s.markWaiting n).butChange = s.butChange := by
  unfold State.markWaiting; split
  · rfl
  · exact (butChange_of_butStops (waitingRises_butStops _ _)).trans (modStation_butChange ..)

theorem clearWaiting_butChange (s : State) (n : Nat) : (s.clearWaiting n).butChange = s.butChange := by
  unfold State.clearWaiting; split
  · rfl
  · exact (butChange_of_butStops (waitingFalls_butStops _ _)).trans (modStation_butChange ..)

/-! ## The call table -/

theorem butCalls_of_butChange {s t : State} (h : t.butChange = s.butChange) : t.butCalls = s.butCalls := by
  rw [← butCalls_absorbs_butChange, h, butCalls_absorbs_butChange]

theorem appendRecord_butCalls (s : State) (e : HistoryEntry) : (s.appendRecord e).butCalls = s.butCalls := by
  rw [← butCalls_absorbs_butHistory, appendRecord_butHistory, butCalls_absorbs_butHistory]

theorem insertRecord_butCalls (s : State) (c : Call) : (s.insertRecord c).butCalls = s.butCalls := by
  unfold State.insertRecord; dsimp only; split <;> rfl

theorem createCall_butCalls (s : State) (o : Origin) (cls zone : Nat) (w : Option Nat) :
    (s.createCall o cls zone w).butCalls = s.butCalls := by
  unfold State.createCall; dsimp only
  rw [← insertRecord_butCalls s (newRecord s o cls zone w)]
  apply butCalls_of_butChange
  split <;> split <;> simp only [lineUp_butChange, State.tableNotice, notify_butChange, noticeOf_butChange,
    callsChanged_butChange, enterHold_butChange]

theorem closeCall_butCalls (s : State) (o : Closing) (b : Bool) (c : Call) : (s.closeCall o b c).butCalls = s.butCalls := by
  have key : ∀ t : State, (if tableFull s = true then
      (({ t.appendRecord (closedRecord t c o) with
          calls := (t.appendRecord (closedRecord t c o)).calls.filter fun x => x.number != c.number
        }.callsChanged c (tableFull s)).callNotice .close (some o) c).tableNotice
      else (({ t.appendRecord (closedRecord t c o) with
          calls := (t.appendRecord (closedRecord t c o)).calls.filter fun x => x.number != c.number
        }.callsChanged c (tableFull s)).callNotice .close (some o) c)).butCalls = t.butCalls := by
    intro t
    have h : ({ t.appendRecord (closedRecord t c o) with
          calls := (t.appendRecord (closedRecord t c o)).calls.filter fun x => x.number != c.number } : State).butCalls
        = t.butCalls := appendRecord_butCalls t (closedRecord t c o)
    rw [← h]
    apply butCalls_of_butChange
    split <;> simp only [State.tableNotice, notify_butChange, callNotice_butChange, callsChanged_butChange]
  unfold State.closeCall
  dsimp only
  rw [key]
  apply butCalls_of_butChange
  split
  · split <;> simp only [causeLeft_butChange, leaveHold_butChange]
  · rfl

theorem closeNumber_butCalls (s : State) (o : Closing) (b : Bool) (k : Nat) :
    (s.closeNumber o b k).butCalls = s.butCalls := by
  unfold State.closeNumber; split
  · exact closeCall_butCalls ..
  · rfl

theorem dropOrphans_butCalls (s : State) (n : Nat) : (s.dropOrphans n).butCalls = s.butCalls :=
  foldl_keeps State.butCalls _ (fun t k => closeNumber_butCalls t .dropped true k) _ _

/-! ## The shift account -/

theorem notify_butAccount (s : State) (n : Notice) : (s.notify n).butAccount = s.butAccount := by
  rw [← butAccount_absorbs_butHost, notify_butHost, butAccount_absorbs_butHost]

theorem handOn_butAccount (s : State) (cs : List Change) : (s.handOn cs).butAccount = s.butAccount := by
  rw [← butAccount_absorbs_butEquations, handOn_butEquations, butAccount_absorbs_butEquations]

theorem handBehind_butAccount (s b : State) : (s.handBehind b).butAccount = s.butAccount := by
  rw [← butAccount_absorbs_butEquations, handBehind_butEquations, butAccount_absorbs_butEquations]

theorem recompose_butAccount (s : State) (p : FieldKind → Bool) : (s.recompose p).butAccount = s.butAccount := by
  rw [← butAccount_absorbs_butBoards, recompose_butBoards, butAccount_absorbs_butBoards]

theorem composeAccount_butAccount (s : State) : s.composeAccount.butAccount = s.butAccount := by
  rw [← butAccount_absorbs_butBoards, composeAccount_butBoards, butAccount_absorbs_butBoards]

theorem announce_butAccount (s : State) (zs : List Nat) : (s.announce zs).butAccount = s.butAccount := by
  rw [← butAccount_absorbs_butLoops, announce_butLoops, butAccount_absorbs_butLoops]

theorem shiftChanged_butAccount (s : State) : s.shiftChanged.butAccount = s.butAccount := by
  simp only [State.shiftChanged, recompose_butAccount, handOn_butAccount, announce_butAccount]

theorem shiftNotice_butAccount (s : State) (c : ShiftCause) : (s.shiftNotice c).butAccount = s.butAccount := by
  unfold State.shiftNotice; split
  · exact notify_butAccount ..
  · rfl

theorem bodyProduced_butAccount (s : State) : s.bodyProduced.butAccount = s.butAccount := by
  unfold State.bodyProduced; split
  · rfl
  · dsimp only; rw [recompose_butAccount, handBehind_butAccount]; rfl

theorem countRose_butAccount (s : State) (n : Nat) (a : ActualSource) : (s.countRose n a).butAccount = s.butAccount := by
  unfold State.countRose; split
  · exact bodyProduced_butAccount s
  · rfl

theorem takeTarget_butAccount (s : State) : s.takeTarget.butAccount = s.butAccount := by
  unfold State.takeTarget; split
  · dsimp only; rw [composeAccount_butAccount, handBehind_butAccount]; rfl
  · rfl

theorem takePeriod_butAccount (s : State) : s.takePeriod.butAccount = s.butAccount := by
  rw [← takeTarget_butAccount s]
  unfold State.takePeriod; dsimp only
  split
  · split
    · rw [shiftNotice_butAccount]
      split <;> simp only [recompose_butAccount, shiftChanged_butAccount] <;> rfl
    · rfl
  · rfl

/-! ## All that is due -/

theorem butDue_of_butChange {s t : State} (h : t.butChange = s.butChange) : t.butDue = s.butDue := by
  rw [← butDue_absorbs_butChange, h, butDue_absorbs_butChange]

theorem takeStopExpiries_butDue (s : State) (n : Nat) : (s.takeStopExpiries n).butDue = s.butDue :=
  butDue_of_butChange (foldl_keeps State.butChange _ expireStop_butChange _ _)

theorem takeStopExpiry_butDue (s : State) (n : Nat) : (s.takeStopExpiry n).butDue = s.butDue := by
  unfold State.takeStopExpiry; split
  · exact butDue_of_butChange (expireStop_butChange ..)
  · rfl

theorem takeEscalations_butDue (s : State) : s.takeEscalations.butDue = s.butDue :=
  butDue_of_butChange (foldl_keeps State.butChange _ climb_butChange _ _)

theorem takeSecond_butDue (s : State) : s.takeSecond.butDue = s.butDue := by
  unfold State.takeSecond; split
  · rw [← butDue_absorbs_butBoards, recompose_butBoards]; rfl
  · rfl

theorem takeRefresh_butDue (s : State) : s.takeRefresh.butDue = s.butDue := by
  unfold State.takeRefresh; split
  · show ({ s.refreshBoards (fun b => b.state != .dark) with refreshTimer := refreshLoad s } : State).butDue = _
    have h : ∀ t : State, ({ t with refreshTimer := refreshLoad s } : State).butDue = t.butDue := fun _ => rfl
    rw [h, ← butDue_absorbs_butBoards, refreshBoards_butBoards, butDue_absorbs_butBoards]
  · rfl

theorem takeProbe_butDue (s : State) (b : Nat) : (s.takeProbe b).butDue = s.butDue := by
  unfold State.takeProbe; split <;> rfl

theorem takeStale_butDue (s : State) : s.takeStale.butDue = s.butDue := by
  unfold State.takeStale; split
  · unfold State.historyOccasion; rw [← butDue_absorbs_butHost, notify_butHost]; rfl
  · rfl

/-- Taking all that is due changes nothing but the calls, stations, stop logic, loop controllers, equation unit,
boards, fields, shift account, time of day, history and refresh timers, and the host link. -/
theorem takeDue_butDue (s : State) : s.takeDue.butDue = s.butDue := by
  have reply : ∀ t : State, t.takeReply.butDue = t.butDue := fun t => by
    rw [← butDue_absorbs_butHost, takeReply_butHost, butDue_absorbs_butHost]
  have delays : ∀ t : State, t.takeDelays.butDue = t.butDue := fun t => by
    rw [← butDue_absorbs_butEquations, takeDelays_butEquations, butDue_absorbs_butEquations]
  have period : ∀ t : State, t.takePeriod.butDue = t.butDue := fun t => by
    rw [← butDue_absorbs_butAccount, takePeriod_butAccount, butDue_absorbs_butAccount]
  unfold State.takeDue; dsimp only
  rw [reply, foldl_keeps State.butDue _ takeProbe_butDue, takeRefresh_butDue, takeStale_butDue, delays,
    takeEscalations_butDue, takeSecond_butDue, period, foldl_keeps State.butDue _ takeStopExpiries_butDue]

end Sys2Proof.Machine
end

