-- ==== Sys2Proof/Laws/State.lean ====
section
/-! SUPPORT. State: what each update of a named part of the state does to every field: one lemma per field per update,
true by rfl. No later proof unfolds a record update of these. -/

namespace Sys2Proof.Machine

/-! ## modStation -/

@[simp] theorem modStation_mode (s : State) (n : Nat) (f : Station → Station) :
    (s.modStation n f).mode = s.mode := rfl
@[simp] theorem modStation_defs (s : State) (n : Nat) (f : Station → Station) :
    (s.modStation n f).defs = s.defs := rfl
@[simp] theorem modStation_store (s : State) (n : Nat) (f : Station → Station) :
    (s.modStation n f).store = s.store := rfl
@[simp] theorem modStation_startNote (s : State) (n : Nat) (f : Station → Station) :
    (s.modStation n f).startNote = s.startNote := rfl
@[simp] theorem modStation_straps (s : State) (n : Nat) (f : Station → Station) :
    (s.modStation n f).straps = s.straps := rfl
@[simp] theorem modStation_timeOfDay (s : State) (n : Nat) (f : Station → Station) :
    (s.modStation n f).timeOfDay = s.timeOfDay := rfl
@[simp] theorem modStation_tenths (s : State) (n : Nat) (f : Station → Station) :
    (s.modStation n f).tenths = s.tenths := rfl
@[simp] theorem modStation_clockSet (s : State) (n : Nat) (f : Station → Station) :
    (s.modStation n f).clockSet = s.clockSet := rfl
@[simp] theorem modStation_blinkFast (s : State) (n : Nat) (f : Station → Station) :
    (s.modStation n f).blinkFast = s.blinkFast := rfl
@[simp] theorem modStation_blinkSlow (s : State) (n : Nat) (f : Station → Station) :
    (s.modStation n f).blinkSlow = s.blinkSlow := rfl
@[simp] theorem modStation_blinkPhase (s : State) (n : Nat) (f : Station → Station) :
    (s.modStation n f).blinkPhase = s.blinkPhase := rfl
@[simp] theorem modStation_inputs (s : State) (n : Nat) (f : Station → Station) :
    (s.modStation n f).inputs = s.inputs := rfl
@[simp] theorem modStation_trackers (s : State) (n : Nat) (f : Station → Station) :
    (s.modStation n f).trackers = s.trackers := rfl
@[simp] theorem modStation_calls (s : State) (n : Nat) (f : Station → Station) :
    (s.modStation n f).calls = s.calls := rfl
@[simp] theorem modStation_lastNumber (s : State) (n : Nat) (f : Station → Station) :
    (s.modStation n f).lastNumber = s.lastNumber := rfl
@[simp] theorem modStation_arrivalCount (s : State) (n : Nat) (f : Station → Station) :
    (s.modStation n f).arrivalCount = s.arrivalCount := rfl
@[simp] theorem modStation_stops (s : State) (n : Nat) (f : Station → Station) :
    (s.modStation n f).stops = s.stops := rfl
@[simp] theorem modStation_loopA (s : State) (n : Nat) (f : Station → Station) :
    (s.modStation n f).loopA = s.loopA := rfl
@[simp] theorem modStation_loopB (s : State) (n : Nat) (f : Station → Station) :
    (s.modStation n f).loopB = s.loopB := rfl
@[simp] theorem modStation_stations (s : State) (n : Nat) (f : Station → Station) :
    (s.modStation n f).stations = alter s.stations n f := rfl
@[simp] theorem modStation_equations (s : State) (n : Nat) (f : Station → Station) :
    (s.modStation n f).equations = s.equations := rfl
@[simp] theorem modStation_flags (s : State) (n : Nat) (f : Station → Station) :
    (s.modStation n f).flags = s.flags := rfl
@[simp] theorem modStation_relays (s : State) (n : Nat) (f : Station → Station) :
    (s.modStation n f).relays = s.relays := rfl
@[simp] theorem modStation_tunes (s : State) (n : Nat) (f : Station → Station) :
    (s.modStation n f).tunes = s.tunes := rfl
@[simp] theorem modStation_shiftState (s : State) (n : Nat) (f : Station → Station) :
    (s.modStation n f).shiftState = s.shiftState := rfl
@[simp] theorem modStation_shift (s : State) (n : Nat) (f : Station → Station) :
    (s.modStation n f).shift = s.shift := rfl
@[simp] theorem modStation_previous (s : State) (n : Nat) (f : Station → Station) :
    (s.modStation n f).previous = s.previous := rfl
@[simp] theorem modStation_history (s : State) (n : Nat) (f : Station → Station) :
    (s.modStation n f).history = s.history := rfl
@[simp] theorem modStation_nextSeq (s : State) (n : Nat) (f : Station → Station) :
    (s.modStation n f).nextSeq = s.nextSeq := rfl
@[simp] theorem modStation_overflowCount (s : State) (n : Nat) (f : Station → Station) :
    (s.modStation n f).overflowCount = s.overflowCount := rfl
@[simp] theorem modStation_staleTimer (s : State) (n : Nat) (f : Station → Station) :
    (s.modStation n f).staleTimer = s.staleTimer := rfl
@[simp] theorem modStation_boards (s : State) (n : Nat) (f : Station → Station) :
    (s.modStation n f).boards = s.boards := rfl
@[simp] theorem modStation_fields (s : State) (n : Nat) (f : Station → Station) :
    (s.modStation n f).fields = s.fields := rfl
@[simp] theorem modStation_refreshTimer (s : State) (n : Nat) (f : Station → Station) :
    (s.modStation n f).refreshTimer = s.refreshTimer := rfl
@[simp] theorem modStation_link (s : State) (n : Nat) (f : Station → Station) :
    (s.modStation n f).link = s.link := rfl
@[simp] theorem modStation_host (s : State) (n : Nat) (f : Station → Station) :
    (s.modStation n f).host = s.host := rfl
@[simp] theorem modStation_freeCount (s : State) (n : Nat) (f : Station → Station) :
    (s.modStation n f).freeCount = s.freeCount := rfl
@[simp] theorem modStation_pending (s : State) (n : Nat) (f : Station → Station) :
    (s.modStation n f).pending = s.pending := rfl

/-! ## modStop -/

@[simp] theorem modStop_mode (s : State) (n : Nat) (f : StopLogic → StopLogic) :
    (s.modStop n f).mode = s.mode := rfl
@[simp] theorem modStop_defs (s : State) (n : Nat) (f : StopLogic → StopLogic) :
    (s.modStop n f).defs = s.defs := rfl
@[simp] theorem modStop_store (s : State) (n : Nat) (f : StopLogic → StopLogic) :
    (s.modStop n f).store = s.store := rfl
@[simp] theorem modStop_startNote (s : State) (n : Nat) (f : StopLogic → StopLogic) :
    (s.modStop n f).startNote = s.startNote := rfl
@[simp] theorem modStop_straps (s : State) (n : Nat) (f : StopLogic → StopLogic) :
    (s.modStop n f).straps = s.straps := rfl
@[simp] theorem modStop_timeOfDay (s : State) (n : Nat) (f : StopLogic → StopLogic) :
    (s.modStop n f).timeOfDay = s.timeOfDay := rfl
@[simp] theorem modStop_tenths (s : State) (n : Nat) (f : StopLogic → StopLogic) :
    (s.modStop n f).tenths = s.tenths := rfl
@[simp] theorem modStop_clockSet (s : State) (n : Nat) (f : StopLogic → StopLogic) :
    (s.modStop n f).clockSet = s.clockSet := rfl
@[simp] theorem modStop_blinkFast (s : State) (n : Nat) (f : StopLogic → StopLogic) :
    (s.modStop n f).blinkFast = s.blinkFast := rfl
@[simp] theorem modStop_blinkSlow (s : State) (n : Nat) (f : StopLogic → StopLogic) :
    (s.modStop n f).blinkSlow = s.blinkSlow := rfl
@[simp] theorem modStop_blinkPhase (s : State) (n : Nat) (f : StopLogic → StopLogic) :
    (s.modStop n f).blinkPhase = s.blinkPhase := rfl
@[simp] theorem modStop_inputs (s : State) (n : Nat) (f : StopLogic → StopLogic) :
    (s.modStop n f).inputs = s.inputs := rfl
@[simp] theorem modStop_trackers (s : State) (n : Nat) (f : StopLogic → StopLogic) :
    (s.modStop n f).trackers = s.trackers := rfl
@[simp] theorem modStop_calls (s : State) (n : Nat) (f : StopLogic → StopLogic) :
    (s.modStop n f).calls = s.calls := rfl
@[simp] theorem modStop_lastNumber (s : State) (n : Nat) (f : StopLogic → StopLogic) :
    (s.modStop n f).lastNumber = s.lastNumber := rfl
@[simp] theorem modStop_arrivalCount (s : State) (n : Nat) (f : StopLogic → StopLogic) :
    (s.modStop n f).arrivalCount = s.arrivalCount := rfl
@[simp] theorem modStop_stops (s : State) (n : Nat) (f : StopLogic → StopLogic) :
    (s.modStop n f).stops = alter s.stops n f := rfl
@[simp] theorem modStop_loopA (s : State) (n : Nat) (f : StopLogic → StopLogic) :
    (s.modStop n f).loopA = s.loopA := rfl
@[simp] theorem modStop_loopB (s : State) (n : Nat) (f : StopLogic → StopLogic) :
    (s.modStop n f).loopB = s.loopB := rfl
@[simp] theorem modStop_stations (s : State) (n : Nat) (f : StopLogic → StopLogic) :
    (s.modStop n f).stations = s.stations := rfl
@[simp] theorem modStop_equations (s : State) (n : Nat) (f : StopLogic → StopLogic) :
    (s.modStop n f).equations = s.equations := rfl
@[simp] theorem modStop_flags (s : State) (n : Nat) (f : StopLogic → StopLogic) :
    (s.modStop n f).flags = s.flags := rfl
@[simp] theorem modStop_relays (s : State) (n : Nat) (f : StopLogic → StopLogic) :
    (s.modStop n f).relays = s.relays := rfl
@[simp] theorem modStop_tunes (s : State) (n : Nat) (f : StopLogic → StopLogic) :
    (s.modStop n f).tunes = s.tunes := rfl
@[simp] theorem modStop_shiftState (s : State) (n : Nat) (f : StopLogic → StopLogic) :
    (s.modStop n f).shiftState = s.shiftState := rfl
@[simp] theorem modStop_shift (s : State) (n : Nat) (f : StopLogic → StopLogic) :
    (s.modStop n f).shift = s.shift := rfl
@[simp] theorem modStop_previous (s : State) (n : Nat) (f : StopLogic → StopLogic) :
    (s.modStop n f).previous = s.previous := rfl
@[simp] theorem modStop_history (s : State) (n : Nat) (f : StopLogic → StopLogic) :
    (s.modStop n f).history = s.history := rfl
@[simp] theorem modStop_nextSeq (s : State) (n : Nat) (f : StopLogic → StopLogic) :
    (s.modStop n f).nextSeq = s.nextSeq := rfl
@[simp] theorem modStop_overflowCount (s : State) (n : Nat) (f : StopLogic → StopLogic) :
    (s.modStop n f).overflowCount = s.overflowCount := rfl
@[simp] theorem modStop_staleTimer (s : State) (n : Nat) (f : StopLogic → StopLogic) :
    (s.modStop n f).staleTimer = s.staleTimer := rfl
@[simp] theorem modStop_boards (s : State) (n : Nat) (f : StopLogic → StopLogic) :
    (s.modStop n f).boards = s.boards := rfl
@[simp] theorem modStop_fields (s : State) (n : Nat) (f : StopLogic → StopLogic) :
    (s.modStop n f).fields = s.fields := rfl
@[simp] theorem modStop_refreshTimer (s : State) (n : Nat) (f : StopLogic → StopLogic) :
    (s.modStop n f).refreshTimer = s.refreshTimer := rfl
@[simp] theorem modStop_link (s : State) (n : Nat) (f : StopLogic → StopLogic) :
    (s.modStop n f).link = s.link := rfl
@[simp] theorem modStop_host (s : State) (n : Nat) (f : StopLogic → StopLogic) :
    (s.modStop n f).host = s.host := rfl
@[simp] theorem modStop_freeCount (s : State) (n : Nat) (f : StopLogic → StopLogic) :
    (s.modStop n f).freeCount = s.freeCount := rfl
@[simp] theorem modStop_pending (s : State) (n : Nat) (f : StopLogic → StopLogic) :
    (s.modStop n f).pending = s.pending := rfl

/-! ## modTracker -/

@[simp] theorem modTracker_mode (s : State) (n : Nat) (f : Tracker → Tracker) :
    (s.modTracker n f).mode = s.mode := rfl
@[simp] theorem modTracker_defs (s : State) (n : Nat) (f : Tracker → Tracker) :
    (s.modTracker n f).defs = s.defs := rfl
@[simp] theorem modTracker_store (s : State) (n : Nat) (f : Tracker → Tracker) :
    (s.modTracker n f).store = s.store := rfl
@[simp] theorem modTracker_startNote (s : State) (n : Nat) (f : Tracker → Tracker) :
    (s.modTracker n f).startNote = s.startNote := rfl
@[simp] theorem modTracker_straps (s : State) (n : Nat) (f : Tracker → Tracker) :
    (s.modTracker n f).straps = s.straps := rfl
@[simp] theorem modTracker_timeOfDay (s : State) (n : Nat) (f : Tracker → Tracker) :
    (s.modTracker n f).timeOfDay = s.timeOfDay := rfl
@[simp] theorem modTracker_tenths (s : State) (n : Nat) (f : Tracker → Tracker) :
    (s.modTracker n f).tenths = s.tenths := rfl
@[simp] theorem modTracker_clockSet (s : State) (n : Nat) (f : Tracker → Tracker) :
    (s.modTracker n f).clockSet = s.clockSet := rfl
@[simp] theorem modTracker_blinkFast (s : State) (n : Nat) (f : Tracker → Tracker) :
    (s.modTracker n f).blinkFast = s.blinkFast := rfl
@[simp] theorem modTracker_blinkSlow (s : State) (n : Nat) (f : Tracker → Tracker) :
    (s.modTracker n f).blinkSlow = s.blinkSlow := rfl
@[simp] theorem modTracker_blinkPhase (s : State) (n : Nat) (f : Tracker → Tracker) :
    (s.modTracker n f).blinkPhase = s.blinkPhase := rfl
@[simp] theorem modTracker_inputs (s : State) (n : Nat) (f : Tracker → Tracker) :
    (s.modTracker n f).inputs = s.inputs := rfl
@[simp] theorem modTracker_trackers (s : State) (n : Nat) (f : Tracker → Tracker) :
    (s.modTracker n f).trackers = alter s.trackers n f := rfl
@[simp] theorem modTracker_calls (s : State) (n : Nat) (f : Tracker → Tracker) :
    (s.modTracker n f).calls = s.calls := rfl
@[simp] theorem modTracker_lastNumber (s : State) (n : Nat) (f : Tracker → Tracker) :
    (s.modTracker n f).lastNumber = s.lastNumber := rfl
@[simp] theorem modTracker_arrivalCount (s : State) (n : Nat) (f : Tracker → Tracker) :
    (s.modTracker n f).arrivalCount = s.arrivalCount := rfl
@[simp] theorem modTracker_stops (s : State) (n : Nat) (f : Tracker → Tracker) :
    (s.modTracker n f).stops = s.stops := rfl
@[simp] theorem modTracker_loopA (s : State) (n : Nat) (f : Tracker → Tracker) :
    (s.modTracker n f).loopA = s.loopA := rfl
@[simp] theorem modTracker_loopB (s : State) (n : Nat) (f : Tracker → Tracker) :
    (s.modTracker n f).loopB = s.loopB := rfl
@[simp] theorem modTracker_stations (s : State) (n : Nat) (f : Tracker → Tracker) :
    (s.modTracker n f).stations = s.stations := rfl
@[simp] theorem modTracker_equations (s : State) (n : Nat) (f : Tracker → Tracker) :
    (s.modTracker n f).equations = s.equations := rfl
@[simp] theorem modTracker_flags (s : State) (n : Nat) (f : Tracker → Tracker) :
    (s.modTracker n f).flags = s.flags := rfl
@[simp] theorem modTracker_relays (s : State) (n : Nat) (f : Tracker → Tracker) :
    (s.modTracker n f).relays = s.relays := rfl
@[simp] theorem modTracker_tunes (s : State) (n : Nat) (f : Tracker → Tracker) :
    (s.modTracker n f).tunes = s.tunes := rfl
@[simp] theorem modTracker_shiftState (s : State) (n : Nat) (f : Tracker → Tracker) :
    (s.modTracker n f).shiftState = s.shiftState := rfl
@[simp] theorem modTracker_shift (s : State) (n : Nat) (f : Tracker → Tracker) :
    (s.modTracker n f).shift = s.shift := rfl
@[simp] theorem modTracker_previous (s : State) (n : Nat) (f : Tracker → Tracker) :
    (s.modTracker n f).previous = s.previous := rfl
@[simp] theorem modTracker_history (s : State) (n : Nat) (f : Tracker → Tracker) :
    (s.modTracker n f).history = s.history := rfl
@[simp] theorem modTracker_nextSeq (s : State) (n : Nat) (f : Tracker → Tracker) :
    (s.modTracker n f).nextSeq = s.nextSeq := rfl
@[simp] theorem modTracker_overflowCount (s : State) (n : Nat) (f : Tracker → Tracker) :
    (s.modTracker n f).overflowCount = s.overflowCount := rfl
@[simp] theorem modTracker_staleTimer (s : State) (n : Nat) (f : Tracker → Tracker) :
    (s.modTracker n f).staleTimer = s.staleTimer := rfl
@[simp] theorem modTracker_boards (s : State) (n : Nat) (f : Tracker → Tracker) :
    (s.modTracker n f).boards = s.boards := rfl
@[simp] theorem modTracker_fields (s : State) (n : Nat) (f : Tracker → Tracker) :
    (s.modTracker n f).fields = s.fields := rfl
@[simp] theorem modTracker_refreshTimer (s : State) (n : Nat) (f : Tracker → Tracker) :
    (s.modTracker n f).refreshTimer = s.refreshTimer := rfl
@[simp] theorem modTracker_link (s : State) (n : Nat) (f : Tracker → Tracker) :
    (s.modTracker n f).link = s.link := rfl
@[simp] theorem modTracker_host (s : State) (n : Nat) (f : Tracker → Tracker) :
    (s.modTracker n f).host = s.host := rfl
@[simp] theorem modTracker_freeCount (s : State) (n : Nat) (f : Tracker → Tracker) :
    (s.modTracker n f).freeCount = s.freeCount := rfl
@[simp] theorem modTracker_pending (s : State) (n : Nat) (f : Tracker → Tracker) :
    (s.modTracker n f).pending = s.pending := rfl

/-! ## modBoard -/

@[simp] theorem modBoard_mode (s : State) (n : Nat) (f : Board → Board) :
    (s.modBoard n f).mode = s.mode := rfl
@[simp] theorem modBoard_defs (s : State) (n : Nat) (f : Board → Board) :
    (s.modBoard n f).defs = s.defs := rfl
@[simp] theorem modBoard_store (s : State) (n : Nat) (f : Board → Board) :
    (s.modBoard n f).store = s.store := rfl
@[simp] theorem modBoard_startNote (s : State) (n : Nat) (f : Board → Board) :
    (s.modBoard n f).startNote = s.startNote := rfl
@[simp] theorem modBoard_straps (s : State) (n : Nat) (f : Board → Board) :
    (s.modBoard n f).straps = s.straps := rfl
@[simp] theorem modBoard_timeOfDay (s : State) (n : Nat) (f : Board → Board) :
    (s.modBoard n f).timeOfDay = s.timeOfDay := rfl
@[simp] theorem modBoard_tenths (s : State) (n : Nat) (f : Board → Board) :
    (s.modBoard n f).tenths = s.tenths := rfl
@[simp] theorem modBoard_clockSet (s : State) (n : Nat) (f : Board → Board) :
    (s.modBoard n f).clockSet = s.clockSet := rfl
@[simp] theorem modBoard_blinkFast (s : State) (n : Nat) (f : Board → Board) :
    (s.modBoard n f).blinkFast = s.blinkFast := rfl
@[simp] theorem modBoard_blinkSlow (s : State) (n : Nat) (f : Board → Board) :
    (s.modBoard n f).blinkSlow = s.blinkSlow := rfl
@[simp] theorem modBoard_blinkPhase (s : State) (n : Nat) (f : Board → Board) :
    (s.modBoard n f).blinkPhase = s.blinkPhase := rfl
@[simp] theorem modBoard_inputs (s : State) (n : Nat) (f : Board → Board) :
    (s.modBoard n f).inputs = s.inputs := rfl
@[simp] theorem modBoard_trackers (s : State) (n : Nat) (f : Board → Board) :
    (s.modBoard n f).trackers = s.trackers := rfl
@[simp] theorem modBoard_calls (s : State) (n : Nat) (f : Board → Board) :
    (s.modBoard n f).calls = s.calls := rfl
@[simp] theorem modBoard_lastNumber (s : State) (n : Nat) (f : Board → Board) :
    (s.modBoard n f).lastNumber = s.lastNumber := rfl
@[simp] theorem modBoard_arrivalCount (s : State) (n : Nat) (f : Board → Board) :
    (s.modBoard n f).arrivalCount = s.arrivalCount := rfl
@[simp] theorem modBoard_stops (s : State) (n : Nat) (f : Board → Board) :
    (s.modBoard n f).stops = s.stops := rfl
@[simp] theorem modBoard_loopA (s : State) (n : Nat) (f : Board → Board) :
    (s.modBoard n f).loopA = s.loopA := rfl
@[simp] theorem modBoard_loopB (s : State) (n : Nat) (f : Board → Board) :
    (s.modBoard n f).loopB = s.loopB := rfl
@[simp] theorem modBoard_stations (s : State) (n : Nat) (f : Board → Board) :
    (s.modBoard n f).stations = s.stations := rfl
@[simp] theorem modBoard_equations (s : State) (n : Nat) (f : Board → Board) :
    (s.modBoard n f).equations = s.equations := rfl
@[simp] theorem modBoard_flags (s : State) (n : Nat) (f : Board → Board) :
    (s.modBoard n f).flags = s.flags := rfl
@[simp] theorem modBoard_relays (s : State) (n : Nat) (f : Board → Board) :
    (s.modBoard n f).relays = s.relays := rfl
@[simp] theorem modBoard_tunes (s : State) (n : Nat) (f : Board → Board) :
    (s.modBoard n f).tunes = s.tunes := rfl
@[simp] theorem modBoard_shiftState (s : State) (n : Nat) (f : Board → Board) :
    (s.modBoard n f).shiftState = s.shiftState := rfl
@[simp] theorem modBoard_shift (s : State) (n : Nat) (f : Board → Board) :
    (s.modBoard n f).shift = s.shift := rfl
@[simp] theorem modBoard_previous (s : State) (n : Nat) (f : Board → Board) :
    (s.modBoard n f).previous = s.previous := rfl
@[simp] theorem modBoard_history (s : State) (n : Nat) (f : Board → Board) :
    (s.modBoard n f).history = s.history := rfl
@[simp] theorem modBoard_nextSeq (s : State) (n : Nat) (f : Board → Board) :
    (s.modBoard n f).nextSeq = s.nextSeq := rfl
@[simp] theorem modBoard_overflowCount (s : State) (n : Nat) (f : Board → Board) :
    (s.modBoard n f).overflowCount = s.overflowCount := rfl
@[simp] theorem modBoard_staleTimer (s : State) (n : Nat) (f : Board → Board) :
    (s.modBoard n f).staleTimer = s.staleTimer := rfl
@[simp] theorem modBoard_boards (s : State) (n : Nat) (f : Board → Board) :
    (s.modBoard n f).boards = alter s.boards n f := rfl
@[simp] theorem modBoard_fields (s : State) (n : Nat) (f : Board → Board) :
    (s.modBoard n f).fields = s.fields := rfl
@[simp] theorem modBoard_refreshTimer (s : State) (n : Nat) (f : Board → Board) :
    (s.modBoard n f).refreshTimer = s.refreshTimer := rfl
@[simp] theorem modBoard_link (s : State) (n : Nat) (f : Board → Board) :
    (s.modBoard n f).link = s.link := rfl
@[simp] theorem modBoard_host (s : State) (n : Nat) (f : Board → Board) :
    (s.modBoard n f).host = s.host := rfl
@[simp] theorem modBoard_freeCount (s : State) (n : Nat) (f : Board → Board) :
    (s.modBoard n f).freeCount = s.freeCount := rfl
@[simp] theorem modBoard_pending (s : State) (n : Nat) (f : Board → Board) :
    (s.modBoard n f).pending = s.pending := rfl

/-! ## modField -/

@[simp] theorem modField_mode (s : State) (b n : Nat) (f : FieldState → FieldState) :
    (s.modField b n f).mode = s.mode := rfl
@[simp] theorem modField_defs (s : State) (b n : Nat) (f : FieldState → FieldState) :
    (s.modField b n f).defs = s.defs := rfl
@[simp] theorem modField_store (s : State) (b n : Nat) (f : FieldState → FieldState) :
    (s.modField b n f).store = s.store := rfl
@[simp] theorem modField_startNote (s : State) (b n : Nat) (f : FieldState → FieldState) :
    (s.modField b n f).startNote = s.startNote := rfl
@[simp] theorem modField_straps (s : State) (b n : Nat) (f : FieldState → FieldState) :
    (s.modField b n f).straps = s.straps := rfl
@[simp] theorem modField_timeOfDay (s : State) (b n : Nat) (f : FieldState → FieldState) :
    (s.modField b n f).timeOfDay = s.timeOfDay := rfl
@[simp] theorem modField_tenths (s : State) (b n : Nat) (f : FieldState → FieldState) :
    (s.modField b n f).tenths = s.tenths := rfl
@[simp] theorem modField_clockSet (s : State) (b n : Nat) (f : FieldState → FieldState) :
    (s.modField b n f).clockSet = s.clockSet := rfl
@[simp] theorem modField_blinkFast (s : State) (b n : Nat) (f : FieldState → FieldState) :
    (s.modField b n f).blinkFast = s.blinkFast := rfl
@[simp] theorem modField_blinkSlow (s : State) (b n : Nat) (f : FieldState → FieldState) :
    (s.modField b n f).blinkSlow = s.blinkSlow := rfl
@[simp] theorem modField_blinkPhase (s : State) (b n : Nat) (f : FieldState → FieldState) :
    (s.modField b n f).blinkPhase = s.blinkPhase := rfl
@[simp] theorem modField_inputs (s : State) (b n : Nat) (f : FieldState → FieldState) :
    (s.modField b n f).inputs = s.inputs := rfl
@[simp] theorem modField_trackers (s : State) (b n : Nat) (f : FieldState → FieldState) :
    (s.modField b n f).trackers = s.trackers := rfl
@[simp] theorem modField_calls (s : State) (b n : Nat) (f : FieldState → FieldState) :
    (s.modField b n f).calls = s.calls := rfl
@[simp] theorem modField_lastNumber (s : State) (b n : Nat) (f : FieldState → FieldState) :
    (s.modField b n f).lastNumber = s.lastNumber := rfl
@[simp] theorem modField_arrivalCount (s : State) (b n : Nat) (f : FieldState → FieldState) :
    (s.modField b n f).arrivalCount = s.arrivalCount := rfl
@[simp] theorem modField_stops (s : State) (b n : Nat) (f : FieldState → FieldState) :
    (s.modField b n f).stops = s.stops := rfl
@[simp] theorem modField_loopA (s : State) (b n : Nat) (f : FieldState → FieldState) :
    (s.modField b n f).loopA = s.loopA := rfl
@[simp] theorem modField_loopB (s : State) (b n : Nat) (f : FieldState → FieldState) :
    (s.modField b n f).loopB = s.loopB := rfl
@[simp] theorem modField_stations (s : State) (b n : Nat) (f : FieldState → FieldState) :
    (s.modField b n f).stations = s.stations := rfl
@[simp] theorem modField_equations (s : State) (b n : Nat) (f : FieldState → FieldState) :
    (s.modField b n f).equations = s.equations := rfl
@[simp] theorem modField_flags (s : State) (b n : Nat) (f : FieldState → FieldState) :
    (s.modField b n f).flags = s.flags := rfl
@[simp] theorem modField_relays (s : State) (b n : Nat) (f : FieldState → FieldState) :
    (s.modField b n f).relays = s.relays := rfl
@[simp] theorem modField_tunes (s : State) (b n : Nat) (f : FieldState → FieldState) :
    (s.modField b n f).tunes = s.tunes := rfl
@[simp] theorem modField_shiftState (s : State) (b n : Nat) (f : FieldState → FieldState) :
    (s.modField b n f).shiftState = s.shiftState := rfl
@[simp] theorem modField_shift (s : State) (b n : Nat) (f : FieldState → FieldState) :
    (s.modField b n f).shift = s.shift := rfl
@[simp] theorem modField_previous (s : State) (b n : Nat) (f : FieldState → FieldState) :
    (s.modField b n f).previous = s.previous := rfl
@[simp] theorem modField_history (s : State) (b n : Nat) (f : FieldState → FieldState) :
    (s.modField b n f).history = s.history := rfl
@[simp] theorem modField_nextSeq (s : State) (b n : Nat) (f : FieldState → FieldState) :
    (s.modField b n f).nextSeq = s.nextSeq := rfl
@[simp] theorem modField_overflowCount (s : State) (b n : Nat) (f : FieldState → FieldState) :
    (s.modField b n f).overflowCount = s.overflowCount := rfl
@[simp] theorem modField_staleTimer (s : State) (b n : Nat) (f : FieldState → FieldState) :
    (s.modField b n f).staleTimer = s.staleTimer := rfl
@[simp] theorem modField_boards (s : State) (b n : Nat) (f : FieldState → FieldState) :
    (s.modField b n f).boards = s.boards := rfl
@[simp] theorem modField_fields (s : State) (b n : Nat) (f : FieldState → FieldState) :
    (s.modField b n f).fields = alter s.fields b fun row => alter row n f := rfl
@[simp] theorem modField_refreshTimer (s : State) (b n : Nat) (f : FieldState → FieldState) :
    (s.modField b n f).refreshTimer = s.refreshTimer := rfl
@[simp] theorem modField_link (s : State) (b n : Nat) (f : FieldState → FieldState) :
    (s.modField b n f).link = s.link := rfl
@[simp] theorem modField_host (s : State) (b n : Nat) (f : FieldState → FieldState) :
    (s.modField b n f).host = s.host := rfl
@[simp] theorem modField_freeCount (s : State) (b n : Nat) (f : FieldState → FieldState) :
    (s.modField b n f).freeCount = s.freeCount := rfl
@[simp] theorem modField_pending (s : State) (b n : Nat) (f : FieldState → FieldState) :
    (s.modField b n f).pending = s.pending := rfl

/-! ## modCall -/

@[simp] theorem modCall_mode (s : State) (n : Nat) (f : Call → Call) :
    (s.modCall n f).mode = s.mode := rfl
@[simp] theorem modCall_defs (s : State) (n : Nat) (f : Call → Call) :
    (s.modCall n f).defs = s.defs := rfl
@[simp] theorem modCall_store (s : State) (n : Nat) (f : Call → Call) :
    (s.modCall n f).store = s.store := rfl
@[simp] theorem modCall_startNote (s : State) (n : Nat) (f : Call → Call) :
    (s.modCall n f).startNote = s.startNote := rfl
@[simp] theorem modCall_straps (s : State) (n : Nat) (f : Call → Call) :
    (s.modCall n f).straps = s.straps := rfl
@[simp] theorem modCall_timeOfDay (s : State) (n : Nat) (f : Call → Call) :
    (s.modCall n f).timeOfDay = s.timeOfDay := rfl
@[simp] theorem modCall_tenths (s : State) (n : Nat) (f : Call → Call) :
    (s.modCall n f).tenths = s.tenths := rfl
@[simp] theorem modCall_clockSet (s : State) (n : Nat) (f : Call → Call) :
    (s.modCall n f).clockSet = s.clockSet := rfl
@[simp] theorem modCall_blinkFast (s : State) (n : Nat) (f : Call → Call) :
    (s.modCall n f).blinkFast = s.blinkFast := rfl
@[simp] theorem modCall_blinkSlow (s : State) (n : Nat) (f : Call → Call) :
    (s.modCall n f).blinkSlow = s.blinkSlow := rfl
@[simp] theorem modCall_blinkPhase (s : State) (n : Nat) (f : Call → Call) :
    (s.modCall n f).blinkPhase = s.blinkPhase := rfl
@[simp] theorem modCall_inputs (s : State) (n : Nat) (f : Call → Call) :
    (s.modCall n f).inputs = s.inputs := rfl
@[simp] theorem modCall_trackers (s : State) (n : Nat) (f : Call → Call) :
    (s.modCall n f).trackers = s.trackers := rfl
@[simp] theorem modCall_calls (s : State) (n : Nat) (f : Call → Call) :
    (s.modCall n f).calls = s.calls.map fun c => if c.number = n then f c else c := rfl
@[simp] theorem modCall_lastNumber (s : State) (n : Nat) (f : Call → Call) :
    (s.modCall n f).lastNumber = s.lastNumber := rfl
@[simp] theorem modCall_arrivalCount (s : State) (n : Nat) (f : Call → Call) :
    (s.modCall n f).arrivalCount = s.arrivalCount := rfl
@[simp] theorem modCall_stops (s : State) (n : Nat) (f : Call → Call) :
    (s.modCall n f).stops = s.stops := rfl
@[simp] theorem modCall_loopA (s : State) (n : Nat) (f : Call → Call) :
    (s.modCall n f).loopA = s.loopA := rfl
@[simp] theorem modCall_loopB (s : State) (n : Nat) (f : Call → Call) :
    (s.modCall n f).loopB = s.loopB := rfl
@[simp] theorem modCall_stations (s : State) (n : Nat) (f : Call → Call) :
    (s.modCall n f).stations = s.stations := rfl
@[simp] theorem modCall_equations (s : State) (n : Nat) (f : Call → Call) :
    (s.modCall n f).equations = s.equations := rfl
@[simp] theorem modCall_flags (s : State) (n : Nat) (f : Call → Call) :
    (s.modCall n f).flags = s.flags := rfl
@[simp] theorem modCall_relays (s : State) (n : Nat) (f : Call → Call) :
    (s.modCall n f).relays = s.relays := rfl
@[simp] theorem modCall_tunes (s : State) (n : Nat) (f : Call → Call) :
    (s.modCall n f).tunes = s.tunes := rfl
@[simp] theorem modCall_shiftState (s : State) (n : Nat) (f : Call → Call) :
    (s.modCall n f).shiftState = s.shiftState := rfl
@[simp] theorem modCall_shift (s : State) (n : Nat) (f : Call → Call) :
    (s.modCall n f).shift = s.shift := rfl
@[simp] theorem modCall_previous (s : State) (n : Nat) (f : Call → Call) :
    (s.modCall n f).previous = s.previous := rfl
@[simp] theorem modCall_history (s : State) (n : Nat) (f : Call → Call) :
    (s.modCall n f).history = s.history := rfl
@[simp] theorem modCall_nextSeq (s : State) (n : Nat) (f : Call → Call) :
    (s.modCall n f).nextSeq = s.nextSeq := rfl
@[simp] theorem modCall_overflowCount (s : State) (n : Nat) (f : Call → Call) :
    (s.modCall n f).overflowCount = s.overflowCount := rfl
@[simp] theorem modCall_staleTimer (s : State) (n : Nat) (f : Call → Call) :
    (s.modCall n f).staleTimer = s.staleTimer := rfl
@[simp] theorem modCall_boards (s : State) (n : Nat) (f : Call → Call) :
    (s.modCall n f).boards = s.boards := rfl
@[simp] theorem modCall_fields (s : State) (n : Nat) (f : Call → Call) :
    (s.modCall n f).fields = s.fields := rfl
@[simp] theorem modCall_refreshTimer (s : State) (n : Nat) (f : Call → Call) :
    (s.modCall n f).refreshTimer = s.refreshTimer := rfl
@[simp] theorem modCall_link (s : State) (n : Nat) (f : Call → Call) :
    (s.modCall n f).link = s.link := rfl
@[simp] theorem modCall_host (s : State) (n : Nat) (f : Call → Call) :
    (s.modCall n f).host = s.host := rfl
@[simp] theorem modCall_freeCount (s : State) (n : Nat) (f : Call → Call) :
    (s.modCall n f).freeCount = s.freeCount := rfl
@[simp] theorem modCall_pending (s : State) (n : Nat) (f : Call → Call) :
    (s.modCall n f).pending = s.pending := rfl

/-! ## modHost -/

@[simp] theorem modHost_mode (s : State) (f : HostLink → HostLink) :
    (s.modHost f).mode = s.mode := rfl
@[simp] theorem modHost_defs (s : State) (f : HostLink → HostLink) :
    (s.modHost f).defs = s.defs := rfl
@[simp] theorem modHost_store (s : State) (f : HostLink → HostLink) :
    (s.modHost f).store = s.store := rfl
@[simp] theorem modHost_startNote (s : State) (f : HostLink → HostLink) :
    (s.modHost f).startNote = s.startNote := rfl
@[simp] theorem modHost_straps (s : State) (f : HostLink → HostLink) :
    (s.modHost f).straps = s.straps := rfl
@[simp] theorem modHost_timeOfDay (s : State) (f : HostLink → HostLink) :
    (s.modHost f).timeOfDay = s.timeOfDay := rfl
@[simp] theorem modHost_tenths (s : State) (f : HostLink → HostLink) :
    (s.modHost f).tenths = s.tenths := rfl
@[simp] theorem modHost_clockSet (s : State) (f : HostLink → HostLink) :
    (s.modHost f).clockSet = s.clockSet := rfl
@[simp] theorem modHost_blinkFast (s : State) (f : HostLink → HostLink) :
    (s.modHost f).blinkFast = s.blinkFast := rfl
@[simp] theorem modHost_blinkSlow (s : State) (f : HostLink → HostLink) :
    (s.modHost f).blinkSlow = s.blinkSlow := rfl
@[simp] theorem modHost_blinkPhase (s : State) (f : HostLink → HostLink) :
    (s.modHost f).blinkPhase = s.blinkPhase := rfl
@[simp] theorem modHost_inputs (s : State) (f : HostLink → HostLink) :
    (s.modHost f).inputs = s.inputs := rfl
@[simp] theorem modHost_trackers (s : State) (f : HostLink → HostLink) :
    (s.modHost f).trackers = s.trackers := rfl
@[simp] theorem modHost_calls (s : State) (f : HostLink → HostLink) :
    (s.modHost f).calls = s.calls := rfl
@[simp] theorem modHost_lastNumber (s : State) (f : HostLink → HostLink) :
    (s.modHost f).lastNumber = s.lastNumber := rfl
@[simp] theorem modHost_arrivalCount (s : State) (f : HostLink → HostLink) :
    (s.modHost f).arrivalCount = s.arrivalCount := rfl
@[simp] theorem modHost_stops (s : State) (f : HostLink → HostLink) :
    (s.modHost f).stops = s.stops := rfl
@[simp] theorem modHost_loopA (s : State) (f : HostLink → HostLink) :
    (s.modHost f).loopA = s.loopA := rfl
@[simp] theorem modHost_loopB (s : State) (f : HostLink → HostLink) :
    (s.modHost f).loopB = s.loopB := rfl
@[simp] theorem modHost_stations (s : State) (f : HostLink → HostLink) :
    (s.modHost f).stations = s.stations := rfl
@[simp] theorem modHost_equations (s : State) (f : HostLink → HostLink) :
    (s.modHost f).equations = s.equations := rfl
@[simp] theorem modHost_flags (s : State) (f : HostLink → HostLink) :
    (s.modHost f).flags = s.flags := rfl
@[simp] theorem modHost_relays (s : State) (f : HostLink → HostLink) :
    (s.modHost f).relays = s.relays := rfl
@[simp] theorem modHost_tunes (s : State) (f : HostLink → HostLink) :
    (s.modHost f).tunes = s.tunes := rfl
@[simp] theorem modHost_shiftState (s : State) (f : HostLink → HostLink) :
    (s.modHost f).shiftState = s.shiftState := rfl
@[simp] theorem modHost_shift (s : State) (f : HostLink → HostLink) :
    (s.modHost f).shift = s.shift := rfl
@[simp] theorem modHost_previous (s : State) (f : HostLink → HostLink) :
    (s.modHost f).previous = s.previous := rfl
@[simp] theorem modHost_history (s : State) (f : HostLink → HostLink) :
    (s.modHost f).history = s.history := rfl
@[simp] theorem modHost_nextSeq (s : State) (f : HostLink → HostLink) :
    (s.modHost f).nextSeq = s.nextSeq := rfl
@[simp] theorem modHost_overflowCount (s : State) (f : HostLink → HostLink) :
    (s.modHost f).overflowCount = s.overflowCount := rfl
@[simp] theorem modHost_staleTimer (s : State) (f : HostLink → HostLink) :
    (s.modHost f).staleTimer = s.staleTimer := rfl
@[simp] theorem modHost_boards (s : State) (f : HostLink → HostLink) :
    (s.modHost f).boards = s.boards := rfl
@[simp] theorem modHost_fields (s : State) (f : HostLink → HostLink) :
    (s.modHost f).fields = s.fields := rfl
@[simp] theorem modHost_refreshTimer (s : State) (f : HostLink → HostLink) :
    (s.modHost f).refreshTimer = s.refreshTimer := rfl
@[simp] theorem modHost_link (s : State) (f : HostLink → HostLink) :
    (s.modHost f).link = s.link := rfl
@[simp] theorem modHost_host (s : State) (f : HostLink → HostLink) :
    (s.modHost f).host = f s.host := rfl
@[simp] theorem modHost_freeCount (s : State) (f : HostLink → HostLink) :
    (s.modHost f).freeCount = s.freeCount := rfl
@[simp] theorem modHost_pending (s : State) (f : HostLink → HostLink) :
    (s.modHost f).pending = s.pending := rfl

/-! ## modLink -/

@[simp] theorem modLink_mode (s : State) (f : BoardLink → BoardLink) :
    (s.modLink f).mode = s.mode := rfl
@[simp] theorem modLink_defs (s : State) (f : BoardLink → BoardLink) :
    (s.modLink f).defs = s.defs := rfl
@[simp] theorem modLink_store (s : State) (f : BoardLink → BoardLink) :
    (s.modLink f).store = s.store := rfl
@[simp] theorem modLink_startNote (s : State) (f : BoardLink → BoardLink) :
    (s.modLink f).startNote = s.startNote := rfl
@[simp] theorem modLink_straps (s : State) (f : BoardLink → BoardLink) :
    (s.modLink f).straps = s.straps := rfl
@[simp] theorem modLink_timeOfDay (s : State) (f : BoardLink → BoardLink) :
    (s.modLink f).timeOfDay = s.timeOfDay := rfl
@[simp] theorem modLink_tenths (s : State) (f : BoardLink → BoardLink) :
    (s.modLink f).tenths = s.tenths := rfl
@[simp] theorem modLink_clockSet (s : State) (f : BoardLink → BoardLink) :
    (s.modLink f).clockSet = s.clockSet := rfl
@[simp] theorem modLink_blinkFast (s : State) (f : BoardLink → BoardLink) :
    (s.modLink f).blinkFast = s.blinkFast := rfl
@[simp] theorem modLink_blinkSlow (s : State) (f : BoardLink → BoardLink) :
    (s.modLink f).blinkSlow = s.blinkSlow := rfl
@[simp] theorem modLink_blinkPhase (s : State) (f : BoardLink → BoardLink) :
    (s.modLink f).blinkPhase = s.blinkPhase := rfl
@[simp] theorem modLink_inputs (s : State) (f : BoardLink → BoardLink) :
    (s.modLink f).inputs = s.inputs := rfl
@[simp] theorem modLink_trackers (s : State) (f : BoardLink → BoardLink) :
    (s.modLink f).trackers = s.trackers := rfl
@[simp] theorem modLink_calls (s : State) (f : BoardLink → BoardLink) :
    (s.modLink f).calls = s.calls := rfl
@[simp] theorem modLink_lastNumber (s : State) (f : BoardLink → BoardLink) :
    (s.modLink f).lastNumber = s.lastNumber := rfl
@[simp] theorem modLink_arrivalCount (s : State) (f : BoardLink → BoardLink) :
    (s.modLink f).arrivalCount = s.arrivalCount := rfl
@[simp] theorem modLink_stops (s : State) (f : BoardLink → BoardLink) :
    (s.modLink f).stops = s.stops := rfl
@[simp] theorem modLink_loopA (s : State) (f : BoardLink → BoardLink) :
    (s.modLink f).loopA = s.loopA := rfl
@[simp] theorem modLink_loopB (s : State) (f : BoardLink → BoardLink) :
    (s.modLink f).loopB = s.loopB := rfl
@[simp] theorem modLink_stations (s : State) (f : BoardLink → BoardLink) :
    (s.modLink f).stations = s.stations := rfl
@[simp] theorem modLink_equations (s : State) (f : BoardLink → BoardLink) :
    (s.modLink f).equations = s.equations := rfl
@[simp] theorem modLink_flags (s : State) (f : BoardLink → BoardLink) :
    (s.modLink f).flags = s.flags := rfl
@[simp] theorem modLink_relays (s : State) (f : BoardLink → BoardLink) :
    (s.modLink f).relays = s.relays := rfl
@[simp] theorem modLink_tunes (s : State) (f : BoardLink → BoardLink) :
    (s.modLink f).tunes = s.tunes := rfl
@[simp] theorem modLink_shiftState (s : State) (f : BoardLink → BoardLink) :
    (s.modLink f).shiftState = s.shiftState := rfl
@[simp] theorem modLink_shift (s : State) (f : BoardLink → BoardLink) :
    (s.modLink f).shift = s.shift := rfl
@[simp] theorem modLink_previous (s : State) (f : BoardLink → BoardLink) :
    (s.modLink f).previous = s.previous := rfl
@[simp] theorem modLink_history (s : State) (f : BoardLink → BoardLink) :
    (s.modLink f).history = s.history := rfl
@[simp] theorem modLink_nextSeq (s : State) (f : BoardLink → BoardLink) :
    (s.modLink f).nextSeq = s.nextSeq := rfl
@[simp] theorem modLink_overflowCount (s : State) (f : BoardLink → BoardLink) :
    (s.modLink f).overflowCount = s.overflowCount := rfl
@[simp] theorem modLink_staleTimer (s : State) (f : BoardLink → BoardLink) :
    (s.modLink f).staleTimer = s.staleTimer := rfl
@[simp] theorem modLink_boards (s : State) (f : BoardLink → BoardLink) :
    (s.modLink f).boards = s.boards := rfl
@[simp] theorem modLink_fields (s : State) (f : BoardLink → BoardLink) :
    (s.modLink f).fields = s.fields := rfl
@[simp] theorem modLink_refreshTimer (s : State) (f : BoardLink → BoardLink) :
    (s.modLink f).refreshTimer = s.refreshTimer := rfl
@[simp] theorem modLink_link (s : State) (f : BoardLink → BoardLink) :
    (s.modLink f).link = f s.link := rfl
@[simp] theorem modLink_host (s : State) (f : BoardLink → BoardLink) :
    (s.modLink f).host = s.host := rfl
@[simp] theorem modLink_freeCount (s : State) (f : BoardLink → BoardLink) :
    (s.modLink f).freeCount = s.freeCount := rfl
@[simp] theorem modLink_pending (s : State) (f : BoardLink → BoardLink) :
    (s.modLink f).pending = s.pending := rfl

/-! ## modDefs -/

@[simp] theorem modDefs_mode (s : State) (f : Definitions → Definitions) :
    (s.modDefs f).mode = s.mode := rfl
@[simp] theorem modDefs_defs (s : State) (f : Definitions → Definitions) :
    (s.modDefs f).defs = f s.defs := rfl
@[simp] theorem modDefs_store (s : State) (f : Definitions → Definitions) :
    (s.modDefs f).store = s.store := rfl
@[simp] theorem modDefs_startNote (s : State) (f : Definitions → Definitions) :
    (s.modDefs f).startNote = s.startNote := rfl
@[simp] theorem modDefs_straps (s : State) (f : Definitions → Definitions) :
    (s.modDefs f).straps = s.straps := rfl
@[simp] theorem modDefs_timeOfDay (s : State) (f : Definitions → Definitions) :
    (s.modDefs f).timeOfDay = s.timeOfDay := rfl
@[simp] theorem modDefs_tenths (s : State) (f : Definitions → Definitions) :
    (s.modDefs f).tenths = s.tenths := rfl
@[simp] theorem modDefs_clockSet (s : State) (f : Definitions → Definitions) :
    (s.modDefs f).clockSet = s.clockSet := rfl
@[simp] theorem modDefs_blinkFast (s : State) (f : Definitions → Definitions) :
    (s.modDefs f).blinkFast = s.blinkFast := rfl
@[simp] theorem modDefs_blinkSlow (s : State) (f : Definitions → Definitions) :
    (s.modDefs f).blinkSlow = s.blinkSlow := rfl
@[simp] theorem modDefs_blinkPhase (s : State) (f : Definitions → Definitions) :
    (s.modDefs f).blinkPhase = s.blinkPhase := rfl
@[simp] theorem modDefs_inputs (s : State) (f : Definitions → Definitions) :
    (s.modDefs f).inputs = s.inputs := rfl
@[simp] theorem modDefs_trackers (s : State) (f : Definitions → Definitions) :
    (s.modDefs f).trackers = s.trackers := rfl
@[simp] theorem modDefs_calls (s : State) (f : Definitions → Definitions) :
    (s.modDefs f).calls = s.calls := rfl
@[simp] theorem modDefs_lastNumber (s : State) (f : Definitions → Definitions) :
    (s.modDefs f).lastNumber = s.lastNumber := rfl
@[simp] theorem modDefs_arrivalCount (s : State) (f : Definitions → Definitions) :
    (s.modDefs f).arrivalCount = s.arrivalCount := rfl
@[simp] theorem modDefs_stops (s : State) (f : Definitions → Definitions) :
    (s.modDefs f).stops = s.stops := rfl
@[simp] theorem modDefs_loopA (s : State) (f : Definitions → Definitions) :
    (s.modDefs f).loopA = s.loopA := rfl
@[simp] theorem modDefs_loopB (s : State) (f : Definitions → Definitions) :
    (s.modDefs f).loopB = s.loopB := rfl
@[simp] theorem modDefs_stations (s : State) (f : Definitions → Definitions) :
    (s.modDefs f).stations = s.stations := rfl
@[simp] theorem modDefs_equations (s : State) (f : Definitions → Definitions) :
    (s.modDefs f).equations = s.equations := rfl
@[simp] theorem modDefs_flags (s : State) (f : Definitions → Definitions) :
    (s.modDefs f).flags = s.flags := rfl
@[simp] theorem modDefs_relays (s : State) (f : Definitions → Definitions) :
    (s.modDefs f).relays = s.relays := rfl
@[simp] theorem modDefs_tunes (s : State) (f : Definitions → Definitions) :
    (s.modDefs f).tunes = s.tunes := rfl
@[simp] theorem modDefs_shiftState (s : State) (f : Definitions → Definitions) :
    (s.modDefs f).shiftState = s.shiftState := rfl
@[simp] theorem modDefs_shift (s : State) (f : Definitions → Definitions) :
    (s.modDefs f).shift = s.shift := rfl
@[simp] theorem modDefs_previous (s : State) (f : Definitions → Definitions) :
    (s.modDefs f).previous = s.previous := rfl
@[simp] theorem modDefs_history (s : State) (f : Definitions → Definitions) :
    (s.modDefs f).history = s.history := rfl
@[simp] theorem modDefs_nextSeq (s : State) (f : Definitions → Definitions) :
    (s.modDefs f).nextSeq = s.nextSeq := rfl
@[simp] theorem modDefs_overflowCount (s : State) (f : Definitions → Definitions) :
    (s.modDefs f).overflowCount = s.overflowCount := rfl
@[simp] theorem modDefs_staleTimer (s : State) (f : Definitions → Definitions) :
    (s.modDefs f).staleTimer = s.staleTimer := rfl
@[simp] theorem modDefs_boards (s : State) (f : Definitions → Definitions) :
    (s.modDefs f).boards = s.boards := rfl
@[simp] theorem modDefs_fields (s : State) (f : Definitions → Definitions) :
    (s.modDefs f).fields = s.fields := rfl
@[simp] theorem modDefs_refreshTimer (s : State) (f : Definitions → Definitions) :
    (s.modDefs f).refreshTimer = s.refreshTimer := rfl
@[simp] theorem modDefs_link (s : State) (f : Definitions → Definitions) :
    (s.modDefs f).link = s.link := rfl
@[simp] theorem modDefs_host (s : State) (f : Definitions → Definitions) :
    (s.modDefs f).host = s.host := rfl
@[simp] theorem modDefs_freeCount (s : State) (f : Definitions → Definitions) :
    (s.modDefs f).freeCount = s.freeCount := rfl
@[simp] theorem modDefs_pending (s : State) (f : Definitions → Definitions) :
    (s.modDefs f).pending = s.pending := rfl

/-! ## modShift -/

@[simp] theorem modShift_mode (s : State) (f : Shift → Shift) :
    (s.modShift f).mode = s.mode := rfl
@[simp] theorem modShift_defs (s : State) (f : Shift → Shift) :
    (s.modShift f).defs = s.defs := rfl
@[simp] theorem modShift_store (s : State) (f : Shift → Shift) :
    (s.modShift f).store = s.store := rfl
@[simp] theorem modShift_startNote (s : State) (f : Shift → Shift) :
    (s.modShift f).startNote = s.startNote := rfl
@[simp] theorem modShift_straps (s : State) (f : Shift → Shift) :
    (s.modShift f).straps = s.straps := rfl
@[simp] theorem modShift_timeOfDay (s : State) (f : Shift → Shift) :
    (s.modShift f).timeOfDay = s.timeOfDay := rfl
@[simp] theorem modShift_tenths (s : State) (f : Shift → Shift) :
    (s.modShift f).tenths = s.tenths := rfl
@[simp] theorem modShift_clockSet (s : State) (f : Shift → Shift) :
    (s.modShift f).clockSet = s.clockSet := rfl
@[simp] theorem modShift_blinkFast (s : State) (f : Shift → Shift) :
    (s.modShift f).blinkFast = s.blinkFast := rfl
@[simp] theorem modShift_blinkSlow (s : State) (f : Shift → Shift) :
    (s.modShift f).blinkSlow = s.blinkSlow := rfl
@[simp] theorem modShift_blinkPhase (s : State) (f : Shift → Shift) :
    (s.modShift f).blinkPhase = s.blinkPhase := rfl
@[simp] theorem modShift_inputs (s : State) (f : Shift → Shift) :
    (s.modShift f).inputs = s.inputs := rfl
@[simp] theorem modShift_trackers (s : State) (f : Shift → Shift) :
    (s.modShift f).trackers = s.trackers := rfl
@[simp] theorem modShift_calls (s : State) (f : Shift → Shift) :
    (s.modShift f).calls = s.calls := rfl
@[simp] theorem modShift_lastNumber (s : State) (f : Shift → Shift) :
    (s.modShift f).lastNumber = s.lastNumber := rfl
@[simp] theorem modShift_arrivalCount (s : State) (f : Shift → Shift) :
    (s.modShift f).arrivalCount = s.arrivalCount := rfl
@[simp] theorem modShift_stops (s : State) (f : Shift → Shift) :
    (s.modShift f).stops = s.stops := rfl
@[simp] theorem modShift_loopA (s : State) (f : Shift → Shift) :
    (s.modShift f).loopA = s.loopA := rfl
@[simp] theorem modShift_loopB (s : State) (f : Shift → Shift) :
    (s.modShift f).loopB = s.loopB := rfl
@[simp] theorem modShift_stations (s : State) (f : Shift → Shift) :
    (s.modShift f).stations = s.stations := rfl
@[simp] theorem modShift_equations (s : State) (f : Shift → Shift) :
    (s.modShift f).equations = s.equations := rfl
@[simp] theorem modShift_flags (s : State) (f : Shift → Shift) :
    (s.modShift f).flags = s.flags := rfl
@[simp] theorem modShift_relays (s : State) (f : Shift → Shift) :
    (s.modShift f).relays = s.relays := rfl
@[simp] theorem modShift_tunes (s : State) (f : Shift → Shift) :
    (s.modShift f).tunes = s.tunes := rfl
@[simp] theorem modShift_shiftState (s : State) (f : Shift → Shift) :
    (s.modShift f).shiftState = s.shiftState := rfl
@[simp] theorem modShift_shift (s : State) (f : Shift → Shift) :
    (s.modShift f).shift = s.shift.map f := rfl
@[simp] theorem modShift_previous (s : State) (f : Shift → Shift) :
    (s.modShift f).previous = s.previous := rfl
@[simp] theorem modShift_history (s : State) (f : Shift → Shift) :
    (s.modShift f).history = s.history := rfl
@[simp] theorem modShift_nextSeq (s : State) (f : Shift → Shift) :
    (s.modShift f).nextSeq = s.nextSeq := rfl
@[simp] theorem modShift_overflowCount (s : State) (f : Shift → Shift) :
    (s.modShift f).overflowCount = s.overflowCount := rfl
@[simp] theorem modShift_staleTimer (s : State) (f : Shift → Shift) :
    (s.modShift f).staleTimer = s.staleTimer := rfl
@[simp] theorem modShift_boards (s : State) (f : Shift → Shift) :
    (s.modShift f).boards = s.boards := rfl
@[simp] theorem modShift_fields (s : State) (f : Shift → Shift) :
    (s.modShift f).fields = s.fields := rfl
@[simp] theorem modShift_refreshTimer (s : State) (f : Shift → Shift) :
    (s.modShift f).refreshTimer = s.refreshTimer := rfl
@[simp] theorem modShift_link (s : State) (f : Shift → Shift) :
    (s.modShift f).link = s.link := rfl
@[simp] theorem modShift_host (s : State) (f : Shift → Shift) :
    (s.modShift f).host = s.host := rfl
@[simp] theorem modShift_freeCount (s : State) (f : Shift → Shift) :
    (s.modShift f).freeCount = s.freeCount := rfl
@[simp] theorem modShift_pending (s : State) (f : Shift → Shift) :
    (s.modShift f).pending = s.pending := rfl

/-! ## modLoop -/

@[simp] theorem modLoop_mode (s : State) (l : LoopId) (f : LoopState → LoopState) :
    (s.modLoop l f).mode = s.mode := by cases l <;> rfl
@[simp] theorem modLoop_defs (s : State) (l : LoopId) (f : LoopState → LoopState) :
    (s.modLoop l f).defs = s.defs := by cases l <;> rfl
@[simp] theorem modLoop_store (s : State) (l : LoopId) (f : LoopState → LoopState) :
    (s.modLoop l f).store = s.store := by cases l <;> rfl
@[simp] theorem modLoop_startNote (s : State) (l : LoopId) (f : LoopState → LoopState) :
    (s.modLoop l f).startNote = s.startNote := by cases l <;> rfl
@[simp] theorem modLoop_straps (s : State) (l : LoopId) (f : LoopState → LoopState) :
    (s.modLoop l f).straps = s.straps := by cases l <;> rfl
@[simp] theorem modLoop_timeOfDay (s : State) (l : LoopId) (f : LoopState → LoopState) :
    (s.modLoop l f).timeOfDay = s.timeOfDay := by cases l <;> rfl
@[simp] theorem modLoop_tenths (s : State) (l : LoopId) (f : LoopState → LoopState) :
    (s.modLoop l f).tenths = s.tenths := by cases l <;> rfl
@[simp] theorem modLoop_clockSet (s : State) (l : LoopId) (f : LoopState → LoopState) :
    (s.modLoop l f).clockSet = s.clockSet := by cases l <;> rfl
@[simp] theorem modLoop_blinkFast (s : State) (l : LoopId) (f : LoopState → LoopState) :
    (s.modLoop l f).blinkFast = s.blinkFast := by cases l <;> rfl
@[simp] theorem modLoop_blinkSlow (s : State) (l : LoopId) (f : LoopState → LoopState) :
    (s.modLoop l f).blinkSlow = s.blinkSlow := by cases l <;> rfl
@[simp] theorem modLoop_blinkPhase (s : State) (l : LoopId) (f : LoopState → LoopState) :
    (s.modLoop l f).blinkPhase = s.blinkPhase := by cases l <;> rfl
@[simp] theorem modLoop_inputs (s : State) (l : LoopId) (f : LoopState → LoopState) :
    (s.modLoop l f).inputs = s.inputs := by cases l <;> rfl
@[simp] theorem modLoop_trackers (s : State) (l : LoopId) (f : LoopState → LoopState) :
    (s.modLoop l f).trackers = s.trackers := by cases l <;> rfl
@[simp] theorem modLoop_calls (s : State) (l : LoopId) (f : LoopState → LoopState) :
    (s.modLoop l f).calls = s.calls := by cases l <;> rfl
@[simp] theorem modLoop_lastNumber (s : State) (l : LoopId) (f : LoopState → LoopState) :
    (s.modLoop l f).lastNumber = s.lastNumber := by cases l <;> rfl
@[simp] theorem modLoop_arrivalCount (s : State) (l : LoopId) (f : LoopState → LoopState) :
    (s.modLoop l f).arrivalCount = s.arrivalCount := by cases l <;> rfl
@[simp] theorem modLoop_stops (s : State) (l : LoopId) (f : LoopState → LoopState) :
    (s.modLoop l f).stops = s.stops := by cases l <;> rfl
@[simp] theorem modLoop_stations (s : State) (l : LoopId) (f : LoopState → LoopState) :
    (s.modLoop l f).stations = s.stations := by cases l <;> rfl
@[simp] theorem modLoop_equations (s : State) (l : LoopId) (f : LoopState → LoopState) :
    (s.modLoop l f).equations = s.equations := by cases l <;> rfl
@[simp] theorem modLoop_flags (s : State) (l : LoopId) (f : LoopState → LoopState) :
    (s.modLoop l f).flags = s.flags := by cases l <;> rfl
@[simp] theorem modLoop_relays (s : State) (l : LoopId) (f : LoopState → LoopState) :
    (s.modLoop l f).relays = s.relays := by cases l <;> rfl
@[simp] theorem modLoop_tunes (s : State) (l : LoopId) (f : LoopState → LoopState) :
    (s.modLoop l f).tunes = s.tunes := by cases l <;> rfl
@[simp] theorem modLoop_shiftState (s : State) (l : LoopId) (f : LoopState → LoopState) :
    (s.modLoop l f).shiftState = s.shiftState := by cases l <;> rfl
@[simp] theorem modLoop_shift (s : State) (l : LoopId) (f : LoopState → LoopState) :
    (s.modLoop l f).shift = s.shift := by cases l <;> rfl
@[simp] theorem modLoop_previous (s : State) (l : LoopId) (f : LoopState → LoopState) :
    (s.modLoop l f).previous = s.previous := by cases l <;> rfl
@[simp] theorem modLoop_history (s : State) (l : LoopId) (f : LoopState → LoopState) :
    (s.modLoop l f).history = s.history := by cases l <;> rfl
@[simp] theorem modLoop_nextSeq (s : State) (l : LoopId) (f : LoopState → LoopState) :
    (s.modLoop l f).nextSeq = s.nextSeq := by cases l <;> rfl
@[simp] theorem modLoop_overflowCount (s : State) (l : LoopId) (f : LoopState → LoopState) :
    (s.modLoop l f).overflowCount = s.overflowCount := by cases l <;> rfl
@[simp] theorem modLoop_staleTimer (s : State) (l : LoopId) (f : LoopState → LoopState) :
    (s.modLoop l f).staleTimer = s.staleTimer := by cases l <;> rfl
@[simp] theorem modLoop_boards (s : State) (l : LoopId) (f : LoopState → LoopState) :
    (s.modLoop l f).boards = s.boards := by cases l <;> rfl
@[simp] theorem modLoop_fields (s : State) (l : LoopId) (f : LoopState → LoopState) :
    (s.modLoop l f).fields = s.fields := by cases l <;> rfl
@[simp] theorem modLoop_refreshTimer (s : State) (l : LoopId) (f : LoopState → LoopState) :
    (s.modLoop l f).refreshTimer = s.refreshTimer := by cases l <;> rfl
@[simp] theorem modLoop_link (s : State) (l : LoopId) (f : LoopState → LoopState) :
    (s.modLoop l f).link = s.link := by cases l <;> rfl
@[simp] theorem modLoop_host (s : State) (l : LoopId) (f : LoopState → LoopState) :
    (s.modLoop l f).host = s.host := by cases l <;> rfl
@[simp] theorem modLoop_freeCount (s : State) (l : LoopId) (f : LoopState → LoopState) :
    (s.modLoop l f).freeCount = s.freeCount := by cases l <;> rfl
@[simp] theorem modLoop_pending (s : State) (l : LoopId) (f : LoopState → LoopState) :
    (s.modLoop l f).pending = s.pending := by cases l <;> rfl
@[simp] theorem modLoop_loop (s : State) (l : LoopId) (f : LoopState → LoopState) :
    (s.modLoop l f).loop l = f (s.loop l) := by cases l <;> rfl
theorem modLoop_loop_ne (s : State) {l k : LoopId} (f : LoopState → LoopState) (h : k ≠ l) :
    (s.modLoop l f).loop k = s.loop k := by cases l <;> cases k <;> first | rfl | exact absurd rfl h

end Sys2Proof.Machine
end

