-- ==== Sys2Proof/Laws/Due.lean ====
section
/-! SUPPORT. Due: in a state where nothing is due, taking all that is due leaves the state as it is. With it
what serving a request gives, and the longest run of entries that a reply carries. -/

namespace Sys2Proof.Machine

theorem takeStopExpiries_of_none {s : State} {n : Nat} (h : (expiredCalls s n).isEmpty = true) :
    s.takeStopExpiries n = s := by
  unfold State.takeStopExpiries; rw [List.isEmpty_iff.mp h]; rfl

theorem takeTarget_of_not_due {s : State} (h : targetDue s = false) : s.takeTarget = s := by
  unfold State.takeTarget; rw [h]; rfl

theorem takePeriod_of_not_due {s : State} (ht : targetDue s = false) (hp : periodDue s = false) : s.takePeriod = s := by
  unfold State.takePeriod; rw [takeTarget_of_not_due ht]; dsimp only; rw [hp]; split <;> rfl

theorem takeSecond_of_not_due {s : State} (h : secondDue s = false) : s.takeSecond = s := by
  unfold State.takeSecond; rw [h]; rfl

theorem takeEscalations_of_none {s : State} (h : (expiredTimers s).isEmpty = true) : s.takeEscalations = s := by
  unfold State.takeEscalations; rw [List.isEmpty_iff.mp h]; rfl

theorem takeDelays_of_none {s : State} (h : (numbers 48).any (delayDue s) = false) : s.takeDelays = s := by
  unfold State.takeDelays; rw [h]; rfl

theorem takeStale_of_not_due {s : State} (h : s.staleTimer ≠ some 0) : s.takeStale = s := if_neg h

theorem takeRefresh_of_not_due {s : State} (h : s.refreshTimer ≠ some 0) : s.takeRefresh = s := if_neg h

theorem takeProbe_of_not_due {s : State} {b : Nat} (h : (pick s.boards b).probeTimer ≠ some 0) : s.takeProbe b = s :=
  if_neg h

/-- What nothing being due says, part by part. -/
theorem settled_iff {s : State} : settled s = true ↔
    (∀ n ∈ numbers 4, (expiredCalls s n).isEmpty = true) ∧ targetDue s = false ∧ periodDue s = false
      ∧ secondDue s = false ∧ (expiredTimers s).isEmpty = true ∧ (numbers 48).any (delayDue s) = false
      ∧ s.staleTimer ≠ some 0 ∧ s.refreshTimer ≠ some 0
      ∧ (∀ b ∈ numbers 8, (pick s.boards b).probeTimer ≠ some 0)
      ∧ (∀ f, s.host.serving = .replyWaits f → Config.outboundCapacity ≤ s.host.outbound.length) := by
  unfold settled
  cases hs : s.host.serving <;>
    simp only [Bool.and_eq_true, List.all_eq_true, Bool.not_eq_true', bne_iff_ne, decide_eq_true_eq, and_assoc,
      reduceCtorEq, false_imp_iff, implies_true, and_true, Serving.replyWaits.injEq, forall_eq']

/-- In a state where nothing is due, taking all that is due leaves the state as it is. With it
what serving a request gives, and the longest run of entries that a reply carries. -/
theorem settled_takeDue {s : State} (h : settled s = true) : s.takeDue = s := by
  obtain ⟨h1, h2, h3, h4, h5, h6, h7, h8, h9, h10⟩ := settled_iff.mp h
  unfold State.takeDue
  dsimp only
  rw [foldl_fixed State.takeStopExpiries s (numbers 4) fun n hn => takeStopExpiries_of_none (h1 n hn),
    takePeriod_of_not_due h2 h3, takeSecond_of_not_due h4, takeEscalations_of_none h5, takeDelays_of_none h6,
    takeStale_of_not_due h7, takeRefresh_of_not_due h8,
    foldl_fixed State.takeProbe s (numbers 8) fun b hb => takeProbe_of_not_due (h9 b hb)]
  unfold State.takeReply
  split
  · next f hf =>
    have full := h10 f hf
    show { s with host := s.host.answer f } = s
    have : s.host.answer f = s.host := by
      unfold HostLink.answer
      rw [if_neg (by omega), ← hf]
    rw [this]
  · rfl

/-- R186, R187: a request at its turn is handled, and its reply put into the outbound queue. -/
theorem serve_of_turn {kind tag : Byte} {body : List Byte} {handle : State → Handled} {s : State}
    (h : atTurn kind tag body s) :
    serve kind tag body handle s = .next (serveNow ⟨tag, kind, body⟩ handle s) := by
  obtain ⟨h1, h2, -, h4⟩ := h
  unfold serve serveRequest
  rw [if_pos h4, settled_takeDue h1]
  dsimp only
  rw [if_pos h2]

/-- R186: what serving a request at its turn gives, by what handling it gives. -/
theorem serveNow_eq (kind tag : Byte) (body : List Byte) (handle : State → Handled) (s : State) :
    serveNow ⟨tag, kind, body⟩ handle s =
      match (handle { s with host := s.host.holding kind tag body }).answer with
      | some (result, reply) =>
        (handle { s with host := s.host.holding kind tag body }).state.modHost fun x =>
          x.answer (.reply tag kind result reply)
      | none => (handle { s with host := s.host.holding kind tag body }).state := by
  unfold serveNow HostLink.holding
  split <;> rfl

/-- R186, R187: a request at its turn whose handling answers `result` from a state `t` that has the host link
unchanged. -/
theorem serve_done {kind tag : Byte} {body : List Byte} {handle : State → Handled} {s t : State} {result : Result}
    {reply : ReplyBody} (h : atTurn kind tag body s)
    (hd : handle { s with host := s.host.holding kind tag body } =
      ⟨{ t with host := s.host.holding kind tag body }, some (result, reply)⟩) :
    serve kind tag body handle s = .next { t with host := s.host.answered kind tag body result reply } := by
  rw [serve_of_turn h, serveNow_eq, hd]; rfl

/-- R150: what the taking of fitting entries answers is the longest run that fits. -/
theorem takeFitting_longestRun {α : Type} (size : α → Nat) (whole : List α) (used : Nat) :
    longestRun size used whole (takeFitting size used whole) := by
  induction whole generalizing used with
  | nil => simp [takeFitting, longestRun]
  | cons r rest ih =>
    obtain ⟨h1, h2, h3⟩ := ih (used + size r)
    simp only [takeFitting, Config.replyListBytes]
    by_cases hr : used + size r ≤ 238 <;> simp only [hr, if_true, if_false]
    · refine ⟨List.cons_prefix_cons.mpr ⟨rfl, h1⟩, fun _ => ?_, fun x hx => ?_⟩
      · by_cases h : takeFitting size (used + size r) rest = []
        · simpa [h]
        · have := h2 h
          simp only [List.map_cons, List.sum_cons]; omega
      · have := h3 x (by simpa using hx)
        simp only [List.map_cons, List.sum_cons]; omega
    · refine ⟨List.nil_prefix, fun h => absurd rfl h, fun x hx => ?_⟩
      obtain rfl : r = x := by simpa using hx
      simp; omega

end Sys2Proof.Machine
end

