-- ==== Sys2Proof/Tests/Slice0.lean ====
section
/-! SUPPORT. Slice0: tests. Ill-formed commands that WellFormed refuses; examples whose results the spec states; and for
each statement with hypotheses a concrete state and operands that meet them, clause by clause. -/

namespace Sys2Proof.Tests

open Sys2Proof.Machine

/- The tests are elaborated one after another, so that few threads wait on the kernel at a time. -/
set_option Elab.async false

/-! ## Small states -/

/-- Bytes from numbers. -/
def bytes (l : List Nat) : List Byte := l.map (BitVec.ofNat 8)

/-- The controller after reset, in CONFIG. -/
def idle : State := State.reset

/-- Sections 1 and 4, zones 1 and 24, stations 1, 48 and 96, the classes 1 FIXED and 8 IMMEDIATE, ladder 8, an equation,
board 8 with the TEXT field 12. -/
def plant : Definitions :=
  { emptyDefinitions with
    sections := alter (alter emptyDefinitions.sections 1 fun _ => some ⟨16, 15, .auto, 1, 16, 2⟩) 4
      fun _ => some ⟨1200, 150, .manual, 0, 0, 0⟩
    zones := alter (alter emptyDefinitions.zones 1 fun _ => some ⟨[], 1, 0, 1, 63⟩) 24
      fun _ => some ⟨[], 4, 1000, 48, 48⟩
    stations := alter (alter (alter emptyDefinitions.stations 1 fun _ => some ⟨1, [], false⟩) 48
      fun _ => some ⟨24, [], true⟩) 96 fun _ => some ⟨24, [], true⟩
    classes := alter (alter emptyDefinitions.classes 1 fun c => { c with stop := .fixed, ladder := 8, orphan := .drop }) 8
      fun c => { c with stop := .immediate }
    ladders := alter emptyDefinitions.ladders 8 fun _ => some ⟨.unanswered, 1, #v[10, 0, 0, 0]⟩
    equations := alter emptyDefinitions.equations 48 fun _ =>
      some ⟨.flag 32, .pulse 10, [.operand .and (.input 1)]⟩
    boards := alter emptyDefinitions.boards 8 fun _ => some 4
    fields := alter emptyDefinitions.fields 8 fun row => alter row 12 fun _ => some ⟨.text, 32, .green⟩ }

/-- The plant in RUN. -/
def running : State := { State.reset with mode := .run, defs := plant }

/-- A call of class 1 raised by station 1 in zone 1. -/
def aCall : Call :=
  { number := 9999, arrival := 0, origin := .station 1, cls := 1, zone := 1, sec := 1, state := .opened, raised := 0
    answered := none, firstHold := none, distance := some 0, heldTime := 0, level := 0, timer := some 0
    repeats := 15, carried := false }

/-- A shift at its first period. -/
def aShift : Shift :=
  { plan := [⟨.work, 1⟩], index := some 1, remaining := some 600, start := 0, takt := 300, volume := 2, worked := 0
    target := 0, fraction := 0, actual := 0, andonStop := Vector.replicate 4 0, otherStop := Vector.replicate 4 0 }

/-- The plant in RUN with a shift. -/
def working : State := { running with shiftState := .work, shift := some aShift }

/-- The plant in RUN with the call in the table, its number and origin as given. -/
def withCall (c : Call) : State := { running with calls := [c] }

/-- A call of the tag 32 that has counted down, no timer running. -/
def tagCall : Call := { aCall with origin := .tag 32, distance := none, timer := none, number := 1 }

/-! ## Ill-formed commands are refused by WellFormed -/

/-- A body of 241 bytes. -/
def longBody : List Byte := List.replicate 241 0#8

theorem test_illFormed_long_bodies :
    ([Instr.readStatus 0#8 longBody, .enterConfig 0#8 longBody, .enterRun 0#8 longBody, .storeSettings 0#8 longBody,
      .recallSettings 0#8 longBody, .restart 0#8 longBody, .setClock 0#8 longBody, .setReports 0#8 longBody,
      .defineSection 0#8 longBody, .defineZone 0#8 longBody, .defineStation 0#8 longBody, .defineClass 0#8 longBody,
      .defineCodeMap 0#8 longBody, .defineLadder 0#8 longBody, .defineEquation 0#8 longBody, .defineBoard 0#8 longBody,
      .defineField 0#8 longBody, .defineLinks 0#8 longBody, .defineAccount 0#8 longBody, .readDefinition 0#8 longBody,
      .startShift 0#8 longBody, .endShift 0#8 longBody, .setTakt 0#8 longBody, .setVolume 0#8 longBody,
      .correctActual 0#8 longBody, .readAccount 0#8 longBody, .raiseCall 0#8 longBody, .actOnCall 0#8 longBody,
      .restartSection 0#8 longBody, .readCalls 0#8 longBody, .readSection 0#8 longBody, .setFlag 0#8 longBody,
      .setText 0#8 longBody, .readStations 0#8 longBody, .readBoards 0#8 longBody, .fetchHistory 0#8 longBody,
      .releaseHistory 0#8 longBody, .flushBoard 0#8 longBody, .unknownKind 0#8 255#8 longBody].any
        Instr.wellFormed) = false := by decide +kernel

theorem test_illFormed_numbers :
    ([Instr.unknownKind 0#8 16#8 [], .probeTimerExpiry 0, .probeTimerExpiry 9, .encoderForwardPulse 0,
      .encoderForwardPulse 5, .encoderReversePulse 5, .stopDistanceExpiry 5, .rawInputChange 17 true,
      .inputDebounceExpiry 0].any Instr.wellFormed) = false := by decide +kernel

/-- A frame with its content and check, on its line. -/
def aFrame : List Byte := frameBytes [1#8, 18#8]

theorem test_illFormed_lines :
    ([Instr.hostFrameReceived [startMark], .hostLineBreak aFrame, .statusReceived .a aFrame, .holdReceived .b [],
      .loopBadReply .a [startMark], .loopLineBreak .b aFrame, .boardAckReceived aFrame, .boardRefuseReceived aFrame,
      .probeAckReceived aFrame, .boardBadReply [endMark], .boardLineBreak aFrame, .hostStartMarkInsideFrame [],
      .hostContentPast245 [startMark, 1#8]].any Instr.wellFormed) = false := by decide +kernel

theorem test_wellFormed_lines :
    [Instr.holdReceived .a aFrame, .loopBadReply .a aFrame, .hostStartMarkInsideFrame [startMark],
      .hostFrameReceived (frameBytes [0#8, 16#8, 1#8, 0#8]), .loopLineBreak .a [startMark, 1#8],
      .boardAckReceived (frameBytes [8#8, 17#8, 1#8]), .boardRefuseReceived (frameBytes [8#8, 18#8, 0#8, 2#8]),
      .statusReceived .b (frameBytes [1#8, 17#8, 0#8])].all Instr.wellFormed = true := by decide +kernel

/-! ## Results the spec states -/

/-- R72: over the nine bytes 31h to 39h the check is 29B1h. -/
theorem test_check_of_nine_bytes :
    crc [0x31#8, 0x32#8, 0x33#8, 0x34#8, 0x35#8, 0x36#8, 0x37#8, 0x38#8, 0x39#8] = 0x29B1#16 := by decide +kernel

/-- A section of P pulses and a run-on of R. -/
def aSection (p r : Nat) : SectionDef := ⟨p, r, .auto, 0, 0, 0⟩

/-- A state in RUN with section 1 of P pulses, its phase φ and its debt. -/
def atPhase (p phase debt : Nat) : State :=
  { running with
    defs := { plant with sections := alter plant.sections 1 fun _ => some (aSection p 150) }
    trackers := alter running.trackers 1 fun x => { x with phase := phase, debt := debt } }

/-- R39: with P = 1200 a sync at 600 is a forward jump of 600; with P = 1201 one of 601. -/
theorem test_sync_forward :
    (pick ((atPhase 1200 600 0).syncEdge 1 (aSection 1200 150)).trackers 1).lastSync = some (.forward, 600)
      ∧ (pick ((atPhase 1201 600 0).syncEdge 1 (aSection 1201 150)).trackers 1).lastSync = some (.forward, 601) := by
  decide +kernel

/-- R40: with P = 1200 a sync at 599 is a backward jump of 599. -/
theorem test_sync_backward :
    (pick ((atPhase 1200 599 0).syncEdge 1 (aSection 1200 150)).trackers 1).lastSync = some (.backward, 599) := by
  decide +kernel

/-- R53: fewer than R pulses to the stop mark, or none, give the stop point one pitch on. -/
theorem test_arming_one_pitch_on :
    armDistance (aSection 1200 150) 1000 1000 = 1200 ∧ armDistance (aSection 1200 150) 851 1000 = 1349
      ∧ armDistance (aSection 1200 150) 850 1000 = 150 ∧ armDistance (aSection 1200 150) 1100 1000 = 1100 := by
  decide +kernel

/-- R6: the number after 9999 is 1, and a number in use is passed over. -/
theorem test_call_numbers :
    freeNumber [] 65 0 = 1 ∧ freeNumber [1, 2] 65 9999 = 3 ∧ freeNumber [9999] 65 9998 = 1 := by decide +kernel

/-- R85: with a running value of 6, the new sequences are 7, 0, 1 and 2. -/
theorem test_new_sequences : ([0, 1, 2, 3, 4, 5, 6, 7].filter (isNew (some 6))) = [0, 1, 2, 7] := by decide +kernel

/-- R3: an exact entry decides before a range that also covers the code. -/
theorem test_exact_before_range :
    CodeMap.classOf ⟨[⟨true, 12, 3⟩], [⟨true, 10, 19, 1⟩], none⟩ 12 = some 3
      ∧ CodeMap.classOf ⟨[⟨true, 12, 3⟩], [⟨true, 10, 19, 1⟩], none⟩ 19 = some 1
      ∧ CodeMap.classOf ⟨[⟨true, 12, 3⟩], [⟨true, 10, 19, 1⟩], none⟩ 20 = none := by decide +kernel

/-- The value of a step that answers a next state. -/
def after (o : Host.Outcome State Fault Refusal) (p : State → Bool) : Bool := match o with
  | .next t => p t
  | .fault _ => false
  | .refused _ => false

/-- R36: at a debt of P the reverse pulse is lost and the status becomes yes. -/
theorem test_reverse_pulse_at_P :
    after (exec (.encoderReversePulse 1) (atPhase 16 3 16))
      (fun t => (pick t.trackers 1).saturated && (pick t.trackers 1).debt == 16 && (pick t.trackers 1).phase == 3)
      = true := by decide +kernel

/-- R194: the time of day passes from 86399 to 0. -/
theorem test_midnight :
    after (exec .secondRollover { idle with timeOfDay := 86399, tenths := 10 }) (fun t => t.timeOfDay == 0) = true := by
  decide +kernel

/-- R186: the sixth queued request brings the pause mark, and not the fifth. -/
theorem test_self_pause :
    after (exec (.hostFrameReceived (frameBytes [1#8, 16#8, 1#8, 0#8]))
        { idle with host := { idle.host with requests := List.replicate 5 ⟨0#8, 16#8, [0#8]⟩ } })
      (fun t => t.host.selfPaused && t.host.lastMark == some .pause) = true
    ∧ after (exec (.hostFrameReceived (frameBytes [1#8, 16#8, 1#8, 0#8]))
        { idle with host := { idle.host with requests := List.replicate 4 ⟨0#8, 16#8, [0#8]⟩ } })
      (fun t => !t.host.selfPaused) = true := by decide +kernel

/-- R151: a CALL CLOSED record takes 29 bytes, a SHIFT CLOSED record of one section 31, and a reply body of eight CALL
CLOSED records 238. -/
theorem test_history_layout :
    (HistoryRecord.bytes ⟨0, .callClosed default⟩).length = 29
      ∧ (HistoryRecord.bytes ⟨0, .shiftClosed { (default : ClosedShift) with entries := [default] }⟩).length = 31
      ∧ (historyBody 8 0 7 (List.replicate 8 ⟨0, .callClosed default⟩)).length = 238 := by decide +kernel

/-- R185, R187: the reply DONE with tag 5 to SET CLOCK, up to its check. -/
theorem test_reply_bytes :
    (HostFrame.bytes (.reply 5#8 22#8 .done .empty) []).take 6 = bytes [0xF0, 5, 128, 2, 22, 0] := by decide +kernel

/-- R188, R189, R92: ENTER RUN after reset finds no section (reason and index of R189), and the first step of a command
takes it from the front of the queue. -/
theorem test_enterRun_without_sections :
    after (step { idle with pending := [.enterRun 5#8 []] })
      (fun t => t.pending.isEmpty && t.host.outbound == [.reply 5#8 18#8 .badConfig (.badConfig .noSection 0)])
      = true := by decide +kernel

/-! ## The hypotheses of the statements are met -/

theorem witness_StepRunsFrontCommand_front : ({ idle with pending := [.tick] } : State).pending = .tick :: [] := rfl

theorem witness_StepRunsFrontCommand_idle : idle.pending = [] ∧ settled idle = true := by decide +kernel

theorem witness_ReadsChangeHostLinkAlone_status_account_boards :
    atTurn 16#8 1#8 [0#8] running ∧ atTurn 45#8 1#8 [] running ∧ atTurn 59#8 1#8 [0#8] running := by
  unfold atTurn; decide +kernel

theorem witness_ReadsChangeHostLinkAlone_definition :
    atTurn 35#8 1#8 (bytes [11, 8, 12]) running
      ∧ definitionItem running (byteAt (bytes [11, 8, 12]) 0) (byteAt (bytes [11, 8, 12]) 1)
          (byteAt (bytes [11, 8, 12]) 2) = some (.field true ⟨5, 0, 0, 0, 32, 1⟩ none false) := by
  unfold atTurn; decide +kernel

theorem witness_ReadsChangeHostLinkAlone_undefined :
    idle.sectionDef 4 = none ∧ idle.zoneDef 24 = none ∧ idle.stationDef 96 = none ∧ idle.ladderDef 8 = none
      ∧ idle.equationDef 48 = none ∧ idle.boardDepth 8 = none ∧ running.sectionDef 2 = none := by decide +kernel

theorem witness_ReadsChangeHostLinkAlone_lists :
    (atTurn 52#8 1#8 (bytes [2, 24, 64]) running
      ∧ readScope (byteAt (bytes [2, 24, 64]) 0) (byteAt (bytes [2, 24, 64]) 1) = some (.zone 24)
      ∧ within 1 64 (byteAt (bytes [2, 24, 64]) 2) = true)
    ∧ (atTurn 53#8 1#8 (bytes [4]) running ∧ running.sectionDef (byteAt (bytes [4]) 0) = some ⟨1200, 150, .manual, 0, 0, 0⟩)
    ∧ (atTurn 58#8 1#8 (bytes [96, 16, 0]) running ∧ within 1 96 (byteAt (bytes [96, 16, 0]) 0) = true
      ∧ within 1 16 (byteAt (bytes [96, 16, 0]) 1) = true ∧ byteAt (bytes [96, 16, 0]) 2 = 0)
    ∧ (atTurn 60#8 1#8 (bytes [8]) running ∧ within 1 8 (byteAt (bytes [8]) 0) = true) := by
  unfold atTurn; decide +kernel

theorem witness_ReadsThatClearCounters :
    atTurn 16#8 1#8 [1#8] running ∧ atTurn 59#8 1#8 [1#8] running
      ∧ (atTurn 58#8 1#8 (bytes [96, 16, 1]) running ∧ within 1 96 (byteAt (bytes [96, 16, 1]) 0) = true
        ∧ within 1 16 (byteAt (bytes [96, 16, 1]) 1) = true ∧ byteAt (bytes [96, 16, 1]) 2 = 1) := by
  unfold atTurn; decide +kernel

theorem witness_DefineSectionTaken :
    atTurn 24#8 1#8 (bytes [4, 1, 0, 16, 0, 15, 1, 16, 0, 16]) idle ∧ idle.mode = .config
      ∧ readSectionDef (bytes [4, 1, 0, 16, 0, 15, 1, 16, 0, 16]) = some (4, some ⟨16, 15, .manual, 16, 0, 16⟩) := by
  unfold atTurn; decide +kernel

theorem witness_SimpleDefinitionsTaken :
    idle.mode = .config
    ∧ (atTurn 25#8 1#8 (bytes ([24, 1] ++ List.replicate 8 65 ++ [4, 255, 254, 63, 63])) idle
      ∧ readZoneDef (bytes ([24, 1] ++ List.replicate 8 65 ++ [4, 255, 254, 63, 63]))
        = some (24, some ⟨List.replicate 8 65#8, 4, 65534, 63, 63⟩))
    ∧ (atTurn 26#8 1#8 (bytes ([96, 1, 24] ++ List.replicate 6 65 ++ [1])) idle
      ∧ readStationDef (bytes ([96, 1, 24] ++ List.replicate 6 65 ++ [1]))
        = some (96, some ⟨24, List.replicate 6 65#8, true⟩))
    ∧ (atTurn 27#8 1#8 (bytes ([8] ++ List.replicate 8 65 ++ [2, 15, 8, 1, 5])) idle
      ∧ readClass (bytes ([8] ++ List.replicate 8 65 ++ [2, 15, 8, 1, 5]))
        = some (8, ⟨List.replicate 8 65#8, .immediate, 15, 8, .drop, .white⟩))
    ∧ (atTurn 28#8 1#8 (bytes (List.replicate 20 0 ++ [8])) idle
      ∧ readCodeMap (bytes (List.replicate 20 0 ++ [8]))
        = some ⟨List.replicate 4 ⟨false, 0, 0⟩, List.replicate 2 ⟨false, 0, 0, 0⟩, some 8⟩)
    ∧ (atTurn 34#8 1#8 (bytes [4, 1]) idle ∧ readAccountDef (bytes [4, 1]) = some (4, .pitch)) := by
  unfold atTurn; decide +kernel

theorem witness_DefineLadderTaken :
    atTurn 29#8 1#8 (bytes [8, 1, 0, 4, 0, 10, 140, 160, 0, 9, 140, 161]) idle ∧ idle.mode = .config
      ∧ readBasis (byteAt (bytes [8, 1, 0, 4, 0, 10, 140, 160, 0, 9, 140, 161]) 2) = some .unanswered := by
  unfold atTurn; decide +kernel

theorem witness_DefineEquationTaken :
    idle.mode = .config
    ∧ (atTurn 30#8 1#8 (bytes [48, 1, 0, 32, 0, 1, 0, 0, 1, 0, 0, 16, 0, 0]) idle
      ∧ equationFits (bytes [48, 1, 0, 32, 0, 1, 0, 0, 1, 0, 0, 16, 0, 0]) = true
      ∧ readEquation (bytes [48, 1, 0, 32, 0, 1, 0, 0, 1, 0, 0, 16, 0, 0])
        = .defined 48 ⟨.flag 32, .onDelay 1, [.operand .and (.input 16)]⟩ true)
    ∧ (atTurn 30#8 1#8 (bytes [48, 0, 0, 0, 0, 0, 0, 0, 0]) idle
      ∧ equationFits (bytes [48, 0, 0, 0, 0, 0, 0, 0, 0]) = true
      ∧ readEquation (bytes [48, 0, 0, 0, 0, 0, 0, 0, 0]) = .undefined 48)
    ∧ (atTurn 30#8 1#8 (bytes [48, 1, 0, 32, 0, 0, 0, 0, 1, 0, 0, 17, 0, 0]) idle
      ∧ equationFits (bytes [48, 1, 0, 32, 0, 0, 0, 0, 1, 0, 0, 17, 0, 0]) = true
      ∧ readEquation (bytes [48, 1, 0, 32, 0, 0, 0, 0, 1, 0, 0, 17, 0, 0]) = .badTerm 1) := by
  unfold atTurn; decide +kernel

/-- A field of a kind, 32 wide. -/
def showing (k : FieldKind) : FieldDef := ⟨k, 32, .green⟩

theorem witness_DefineBoardAndFieldTaken_numbers :
    (9999999999 : Nat) < 10000000000 ∧ (0 : Nat) < 10000000000 ∧ (100 : Nat) ≠ 0 := by decide

theorem witness_DefineBoardAndFieldTaken_calls :
    ((showing (.zone 24)).kind = .zone 24 ∧ running.zoneDef 24 = some ⟨[], 4, 1000, 48, 48⟩
        ∧ callsInScope running (.zone 24) = [])
      ∧ callsInScope (withCall aCall) (.zone 1) = [aCall]
      ∧ ((callsInScope running .all).length < 1 ∧ (callsInScope (withCall aCall) .all)[1 - 1]? = some aCall)
      ∧ ((withCall aCall).stationDef 1 = some ⟨1, [], false⟩ ∧ aCall.raised ≤ (withCall aCall).timeOfDay)
      ∧ ({ aCall with raised := 86399 } : Call).raised > (withCall aCall).timeOfDay := by decide +kernel

theorem witness_DefineBoardAndFieldTaken_figures :
    (running.shiftState = .none ∧ running.previous = none ∧ running.shift = none)
      ∧ (working.shiftState ≠ .none
        ∧ working.shift.map (fun sh => freeze working.shiftState sh working.timeOfDay) = some (freeze .work aShift 0))
      ∧ (({ running with previous := some (freeze .work aShift 0) } : State).previous = some (freeze .work aShift 0))
      ∧ (({ running with timeOfDay := 86399 } : State).timeOfDay < 86400)
      ∧ (working.shift = some aShift ∧ aShift.remaining = some 600 ∧ working.shiftState = .work) := by decide +kernel

theorem witness_DefineBoardAndFieldTaken :
    atTurn 31#8 1#8 (bytes [8, 1, 3]) idle ∧ atTurn 31#8 1#8 (bytes [8, 0, 0]) idle ∧ idle.mode = .config
      ∧ atTurn 32#8 1#8 (bytes [8, 12, 1, 5, 0, 0, 0, 32, 5]) { running with mode := .config }
      ∧ (({ running with mode := .config } : State).boardDepth 8).isSome = true
      ∧ readFieldDef (bytes [8, 12, 1, 5, 0, 0, 0, 32, 5]) = some ⟨.text, 32, .white⟩ := by
  unfold atTurn; decide +kernel

/-- A DEFINE LINKS body: input 16 with a debounce time of 0, the others with 10. -/
def linksBody : List Byte :=
  bytes ([10, 5, 10, 5, 40, 0, 0] ++ List.replicate 8 1 ++ [16, 30]
    ++ (List.replicate 15 [10, 0, 0, 0]).flatten ++ [0, 1, 0, 0])

/-- The settings it carries. -/
def linksGiven : LinkSettings :=
  { defaultLinks with inputs := alter defaultLinks.inputs 16 fun _ => ⟨0, true, false, false⟩ }

theorem witness_DefineLinksTaken :
    atTurn 33#8 1#8 linksBody { idle with inputs := alter idle.inputs 16 fun _ => ⟨true, false, true⟩ }
      ∧ linksBody.length = 81 ∧ readLinks linksBody = some (linksGiven, false)
      ∧ (pick (alter idle.inputs 16 fun _ => (⟨true, false, true⟩ : InputState)) 16).timing = true
      ∧ (pick linksGiven.inputs 16).debounceMs = 0 ∧ (pick idle.defs.links.inputs 16).debounceMs ≠ 0 := by
  unfold atTurn; decide +kernel

theorem witness_DefinesRefused :
    (atTurn 34#8 1#8 (bytes [1]) idle ∧ (bytes [1]).length ≠ 2)
      ∧ (atTurn 34#8 1#8 (bytes [1, 0]) running ∧ (bytes [1, 0]).length = 2 ∧ running.mode = .run) := by
  unfold atTurn; decide +kernel

theorem witness_ResetTaken :
    idle.store = none
      ∧ (({ idle with store := some plant } : State).store = some plant ∧ configCheck plant = none)
      ∧ (({ idle with store := some emptyDefinitions } : State).store = some emptyDefinitions
        ∧ configCheck emptyDefinitions = some (.noSection, 0)) := by decide +kernel

theorem witness_ResetTaken_restart : atTurn 21#8 1#8 [] running ∧ atTurn 21#8 1#8 [0#8] running := by
  unfold atTurn; decide +kernel

theorem witness_ResetTaken_pins : ∃ a b, (a, b) = Config.strapLevels running.freeCount := ⟨_, _, rfl⟩

theorem witness_EnterRunTaken :
    (atTurn 18#8 1#8 [] { idle with defs := plant } ∧ configCheck ({ idle with defs := plant } : State).defs = none)
      ∧ (atTurn 18#8 1#8 [] idle ∧ idle.mode = .config ∧ configCheck idle.defs = some (.noSection, 0)) := by
  unfold atTurn; decide +kernel

/-- Every output of the equation unit is false, and so are the flags and the relays, and no tune plays. -/
theorem outputsFollow_of_off (s : State) (h1 : ∀ i, 1 ≤ i → i ≤ 48 → (pick s.equations i).output = false)
    (h2 : ∀ f, 1 ≤ f → f ≤ 32 → pick s.flags f = false) (h3 : ∀ r, 1 ≤ r → r ≤ 8 → pick s.relays r = false)
    (h4 : ∀ c, 1 ≤ c → c ≤ 4 → pick s.tunes c = 0) : outputsFollow s := by
  refine ⟨fun i e f hi hm _ _ hf hg => ?_, fun r hr hs => ⟨fun h => ?_, fun ⟨i, e, hi, hm, _, _, h⟩ => ?_⟩,
    fun c hc hd => ⟨fun i e number hi hm _ _ h _ => ?_, fun _ => h4 c hc hd⟩⟩
  · rw [h1 i hi hm, h2 f hf hg]
  · simp [h3 r hr hs] at h
  · simp [h1 i hi hm] at h
  · simp [h1 i hi hm] at h

/-- A bounded claim from its decision on the numbers below the bound. -/
theorem upTo {p : Nat → Prop} (k : Nat) (h : ∀ n < k + 1, 1 ≤ n → p n) (n : Nat) (h1 : 1 ≤ n) (h2 : n ≤ k) : p n :=
  h n (by omega) h1

theorem witness_EnterRunTaken_outputs : outputsFollow { idle with defs := plant } :=
  outputsFollow_of_off _ (upTo 48 (by decide +kernel)) (upTo 32 (by decide +kernel)) (upTo 8 (by decide +kernel))
    (upTo 4 (by decide +kernel))

theorem witness_EnterConfigTaken :
    atTurn 17#8 1#8 [] running ∧ running.mode = .run ∧ running.shiftState = .none := by unfold atTurn; decide +kernel

theorem witness_EnterConfigTaken_records :
    let s := { withCall tagCall with
      history := List.replicate 128 ⟨3, .callClosed default⟩, nextSeq := 65535, overflowCount := 255 }
    atTurn 17#8 1#8 [] s ∧ s.mode = .run ∧ s.shiftState = .none ∧ s.history.length ≤ 128 ∧ s.nextSeq < 65536
      ∧ s.overflowCount ≤ 255 ∧ (s.calls.map (·.number)).Nodup := by unfold atTurn; decide +kernel

theorem witness_SettingsStoreTaken :
    atTurn 19#8 1#8 [] idle ∧ atTurn 20#8 1#8 [] idle ∧ idle.store = none
      ∧ atTurn 20#8 1#8 [] { idle with store := some plant }
      ∧ (settled { idle with host := { idle.host with serving := .storing, requests := [⟨1#8, 19#8, []⟩] } } = true) := by
  unfold atTurn; decide +kernel

theorem witness_SetClockAndReportsTaken :
    (atTurn 22#8 1#8 (bytes [1, 81, 127]) idle ∧ atTurn 22#8 1#8 (bytes [0, 0, 0]) running
        ∧ tripleAt (bytes [1, 81, 127]) 0 = 86399)
      ∧ (atTurn 22#8 1#8 (bytes [1, 81, 128]) idle ∧ 86399 < tripleAt (bytes [1, 81, 128]) 0)
      ∧ (atTurn 23#8 1#8 (bytes [1, 0, 0, 0, 0, 0, 0, 1]) idle
        ∧ readReports (bytes [1, 0, 0, 0, 0, 0, 0, 1])
          = some #v[true, false, false, false, false, false, false, true]) := by
  unfold atTurn; decide +kernel

/-- A plan of one WORK period of 0 minutes, clamped to 1, a takt of 300 and a volume of 9,999. -/
def planBody : List Byte := bytes [1, 0, 0, 0, 1, 44, 39, 15]

theorem witness_StartShiftTaken :
    atTurn 40#8 1#8 planBody running ∧ running.mode = .run ∧ running.shiftState = .none ∧ planFits planBody = true
      ∧ readPlan planBody = some [⟨.work, 0⟩] := by unfold atTurn; decide +kernel

theorem witness_EndShiftTaken :
    atTurn 41#8 1#8 [] working ∧ working.mode = .run ∧ working.shiftState ≠ .none ∧ working.shift = some aShift := by
  unfold atTurn; decide +kernel

theorem witness_ShiftCorrectionsTaken :
    working.mode = .run ∧ working.shiftState ≠ .none ∧ working.shift = some aShift
      ∧ atTurn 42#8 1#8 (bytes [0, 0]) working ∧ atTurn 43#8 1#8 (bytes [255, 255]) working
      ∧ atTurn 44#8 1#8 (bytes [255, 157]) working ∧ aShift.actual ≤ 9999 := by unfold atTurn; decide +kernel

theorem witness_ShiftRequestsRefused :
    (atTurn 40#8 1#8 planBody idle ∧ planFits planBody = true ∧ readPlan planBody = some [⟨.work, 0⟩])
      ∧ (atTurn 40#8 1#8 planBody working ∧ working.mode = .run ∧ working.shiftState ≠ .none)
      ∧ (atTurn 41#8 1#8 [] idle ∧ idle.mode = .config)
      ∧ (atTurn 44#8 1#8 (bytes [0, 1]) running ∧ running.mode = .run ∧ running.shiftState = .none) := by
  unfold atTurn; decide +kernel

theorem witness_RaiseCallTaken_repeat :
    atTurn 48#8 1#8 (bytes [32, 1, 1]) (withCall tagCall) ∧ (withCall tagCall).mode = .run
      ∧ (withCall tagCall).zoneDef (byteAt (bytes [32, 1, 1]) 2) = some ⟨[], 1, 0, 1, 63⟩
      ∧ callFrom (withCall tagCall) (.tag (byteAt (bytes [32, 1, 1]) 0)) (byteAt (bytes [32, 1, 1]) 1) = some tagCall
      ∧ tagCall.state ≠ .carried := by unfold atTurn; decide +kernel

theorem witness_RaiseCallTaken_new :
    (atTurn 48#8 1#8 (bytes [32, 1, 1]) running ∧ hasRoom running 1 = true
        ∧ callFrom running (.tag 32) 1 = none ∧ running.arrivalCount = 0
        ∧ (running.classDef 1).stop ≠ .immediate)
      ∧ (atTurn 48#8 1#8 (bytes [32, 8, 24]) running ∧ hasRoom running 8 = true
        ∧ callFrom running (.tag 32) 8 = none ∧ (running.classDef 8).stop = .immediate
        ∧ running.zoneDef 24 = some ⟨[], 4, 1000, 48, 48⟩) := by unfold atTurn; decide +kernel

/-- A CARRIED call of the tag 32 of class 8, in section 4. -/
def carriedCall : Call := { tagCall with cls := 8, zone := 24, sec := 4, state := .carried }

theorem witness_RaiseCallTaken_carried :
    (atTurn 48#8 1#8 (bytes [32, 1, 1]) (withCall { tagCall with state := .carried })
        ∧ callFrom (withCall { tagCall with state := .carried }) (.tag 32) 1 = some { tagCall with state := .carried }
        ∧ ((withCall tagCall).classDef 1).stop = .fixed)
      ∧ (atTurn 48#8 1#8 (bytes [32, 8, 24]) (withCall carriedCall)
        ∧ callFrom (withCall carriedCall) (.tag 32) 8 = some carriedCall
        ∧ ((withCall carriedCall).classDef carriedCall.cls).stop = .immediate) := by unfold atTurn; decide +kernel

theorem witness_RaiseCallTaken_last_arrival :
    let s := { withCall aCall with calls := [{ aCall with distance := none, timer := none }], arrivalCount := 4294967295 }
    atTurn 48#8 1#8 (bytes [32, 1, 1]) s ∧ hasRoom s 1 = true ∧ callFrom s (.tag 32) 1 = none
      ∧ s.arrivalCount ≤ 4294967295 := by unfold atTurn; decide +kernel

/-- A full table. -/
def full : State := { running with calls := List.replicate 64 tagCall }

theorem witness_RaiseCallTaken_full :
    atTurn 48#8 1#8 (bytes [1, 1, 1]) full ∧ full.mode = .run ∧ hasRoom full 1 = false
      ∧ callFrom full (.tag 1) 1 = none := by unfold atTurn; decide +kernel

theorem witness_ActOnCallTaken_answer :
    (atTurn 49#8 1#8 (bytes [0, 2, 3]) (withCall tagCall) ∧ (withCall tagCall).callOf 2 = none)
      ∧ (atTurn 49#8 1#8 (bytes [0, 1, 0]) (withCall tagCall) ∧ (withCall tagCall).callOf 1 = some tagCall
        ∧ tagCall.answered = none)
      ∧ (atTurn 49#8 1#8 (bytes [0, 1, 0]) (withCall { tagCall with answered := some 0 })
        ∧ (withCall { tagCall with answered := some 0 }).callOf 1 = some { tagCall with answered := some 0 }) := by
  unfold atTurn; decide +kernel

theorem witness_ActOnCallTaken_carry_and_close :
    (atTurn 49#8 1#8 (bytes [0, 1, 1]) (withCall tagCall) ∧ (withCall tagCall).callOf 1 = some tagCall
        ∧ carriable (withCall tagCall) tagCall = true ∧ tagCall.state ≠ .holding)
      ∧ (carriable (withCall { tagCall with state := .holding }) { tagCall with state := .holding } = true
        ∧ (withCall { tagCall with state := .holding }).callOf 1 = some { tagCall with state := .holding })
      ∧ (carriable (withCall { tagCall with cls := 2 }) { tagCall with cls := 2 } = false
        ∧ atTurn 49#8 1#8 (bytes [0, 1, 1]) (withCall { tagCall with cls := 2 }))
      ∧ atTurn 49#8 1#8 (bytes [0, 1, 2]) (withCall { tagCall with state := .holding })
      ∧ atTurn 49#8 1#8 (bytes [0, 1, 3]) (withCall tagCall) := by unfold atTurn; decide +kernel

/-- Section 4 with restart pending and its request asserted. -/
def pendingFour : State :=
  { running with stops := alter running.stops 4 fun x => { x with pending := true, request := true } }

theorem witness_RestartSectionTaken :
    (atTurn 51#8 1#8 [2#8] running ∧ running.sectionDef 2 = none)
      ∧ (atTurn 51#8 1#8 [4#8] { running with mode := .config } ∧ (running.sectionDef 4).isSome = true)
      ∧ (atTurn 51#8 1#8 [4#8] { running with stops := alter running.stops 4 fun x => { x with overflow := true } })
      ∧ (atTurn 51#8 1#8 [4#8] running ∧ (pick running.stops 4).pending = false)
      ∧ (atTurn 51#8 1#8 [4#8] pendingFour ∧ (pick pendingFour.stops 4).pending = true
        ∧ (pick pendingFour.stops 4).holdOrder = [] ∧ (pick pendingFour.stops 4).overflow = false) := by
  unfold atTurn; decide +kernel

/-- R89: a call of class IMMEDIATE in zone 24 asserts the stop request of section 4, and its announcement becomes STOP; zone
24 has a station on each loop. -/
theorem test_stop_announced :
    after (exec (.raiseCall 1#8 (bytes [1, 8, 24])) running) (fun t =>
      pick t.loopA.announcements 24 == bytesOf "STOP" && pick t.loopB.announcements 24 == bytesOf "STOP"
        && t.loopA.zonesOwed == [24] && t.loopB.zonesOwed == [24]
        && pick t.loopA.announcements 1 == bytesOf "    ") = true := by decide +kernel

theorem witness_zonesAnnounced :
    running.mode = .run ∧ running.zoneDef 24 = some ⟨[], 4, 1000, 48, 48⟩
      ∧ (loopOf 48 = .a ∧ loopOf 96 = .b ∧ running.stationDef 96 = some ⟨24, [], true⟩)
      ∧ after (exec (.raiseCall 1#8 (bytes [1, 8, 24])) running) (fun t =>
        (pick t.stops 4).request != (pick running.stops 4).request && t.shiftState == running.shiftState
          && (pick t.stops 1).request == (pick running.stops 1).request) = true
      ∧ after (exec (.startShift 1#8 planBody) running) (fun t =>
        t.shiftState != running.shiftState) = true := by decide +kernel

theorem witness_RequestsRefusedByLengthOrMode :
    (atTurn 62#8 1#8 [] running ∧ ([] : List Byte).length ≠ 1)
      ∧ (atTurn 61#8 1#8 (bytes [0, 0]) idle ∧ idle.mode = .config)
      ∧ (atTurn 18#8 1#8 [] running ∧ running.mode = .run) := by unfold atTurn; decide +kernel

theorem witness_RequestsRefusedByLengthOrMode_counts :
    (atTurn 40#8 1#8 [] running ∧ atTurn 40#8 1#8 (bytes [0, 1, 44, 0]) running)
      ∧ (atTurn 30#8 1#8 (bytes [1]) idle ∧ atTurn 30#8 1#8 (bytes [1, 0, 0, 0, 0, 0, 0, 0, 1, 0]) idle
        ∧ atTurn 30#8 1#8 (bytes [1, 0, 0, 0, 0, 0, 0, 0, 0]) running)
      ∧ (atTurn 57#8 1#8 (bytes [8, 12]) running ∧ atTurn 57#8 1#8 (bytes [8, 12, 1]) running
        ∧ atTurn 57#8 1#8 (bytes ([1, 1, 233] ++ List.replicate 233 65)) idle
        ∧ atTurn 57#8 1#8 (bytes [8, 12, 0]) idle ∧ atTurn 57#8 1#8 (bytes ([1, 1, 232] ++ List.replicate 232 65)) idle)
      ∧ (atTurn 62#8 1#8 [1#8] idle ∧ atTurn 62#8 1#8 [8#8] idle) := by unfold atTurn; decide +kernel

theorem witness_SetFlagTaken :
    atTurn 56#8 1#8 (bytes [1, 1]) idle
      ∧ (atTurn 56#8 1#8 (bytes [32, 1]) running ∧ running.equationDef 48
          = some ⟨.flag 32, .pulse 10, [.operand .and (.input 1)]⟩)
      ∧ (atTurn 56#8 1#8 (bytes [32, 1]) { running with defs := { plant with equations := Vector.replicate 48 none } })
      ∧ pick running.flags 1 = false := by unfold atTurn; decide +kernel

theorem witness_SetFlagTaken_unowned :
    ∀ i e, 1 ≤ i → i ≤ 48 → running.equationDef i = some e → e.target ≠ .flag 1 := by
  intro i e h1 h2
  have : ∀ i < 49, ∀ e ∈ (running.equationDef i).toList, e.target ≠ .flag 1 := by decide +kernel
  intro h
  exact this i (by omega) e (by rw [h]; exact List.mem_singleton.mpr rfl)

theorem witness_SetTextAndFlushTaken :
    running.mode = .run ∧ (running.boardDepth 8).isSome = true
      ∧ (atTurn 57#8 1#8 (bytes ([8, 12, 232] ++ List.replicate 232 200)) running
        ∧ running.fieldDef 8 12 = some ⟨.text, 32, .green⟩)
      ∧ atTurn 57#8 1#8 (bytes [8, 12, 0]) running
      ∧ atTurn 62#8 1#8 (bytes [8]) running := by unfold atTurn; decide +kernel

/-- A full queue of sound frames. -/
def fullQueue : List BoardFrame :=
  [⟨1, 3, none, 0, false⟩, ⟨2, 1, none, 0, false⟩, ⟨3, 1, none, 0, false⟩, ⟨4, 2, none, 0, false⟩]

theorem witness_SetTextAndFlushTaken_queue :
    ((pick (pick running.fields 8) 12).last ≠ some default ∧ (pick (pick running.fields 8) 12).marked = false
        ∧ queueSound (pick running.boards 8).queue ∧ running.boardDepth 8 = some 4)
      ∧ (queueSound fullQueue ∧ newestLowest fullQueue (fullQueue.take 2) ⟨3, 1, none, 0, false⟩ (fullQueue.drop 3)
        ∧ (∀ y ∈ fullQueue, y.field ≠ 12) ∧ 4 ≤ fullQueue.length)
      ∧ fullQueue = [] ++ ⟨1, 3, none, 0, false⟩ :: fullQueue.drop 1
      ∧ (⟨12, 2, some default, 0, false⟩ : BoardFrame).content = some default := by
  unfold queueSound newestLowest; decide +kernel

/-- Two records, their sequences 65535 and 0. -/
def twoRecords : State :=
  { running with
    history := [⟨65535, .callClosed default⟩, ⟨0, .callClosed default⟩], nextSeq := 1, staleTimer := some 5 }

theorem witness_ReleaseHistoryTaken :
    (atTurn 61#8 1#8 (bytes [0, 0]) twoRecords ∧ historyInOrder twoRecords
        ∧ (twoRecords.history[1]?.map (·.seq)) = some (wordAt (bytes [0, 0]) 0))
      ∧ (atTurn 61#8 1#8 (bytes [0, 1]) twoRecords ∧ ∀ r ∈ twoRecords.history, r.seq ≠ wordAt (bytes [0, 1]) 0) := by
  unfold atTurn historyInOrder twoRecords; unfold sequencesRun sequencesRun; decide +kernel

theorem witness_UnknownKindTaken :
    atTurn 255#8 1#8 [] running ∧ atTurn 46#8 1#8 [] running ∧ (46 : Nat) ∉ [48, 49, 51, 52, 53] := by
  unfold atTurn; decide +kernel

theorem witness_SetFlagTaken_outputs : definitionsAgree running ∧ outputsFollow running :=
  ⟨fun _ => by decide +kernel, outputsFollow_of_off _ (upTo 48 (by decide +kernel)) (upTo 32 (by decide +kernel))
    (upTo 8 (by decide +kernel)) (upTo 4 (by decide +kernel))⟩

theorem witness_HostFrameCarriesRequest :
    settled idle = true ∧ idle.host.receiver = .outside ∧ (List.replicate 240 0xF3#8).length ≤ 240
      ∧ ({ idle with host := { idle.host with requests := List.replicate 5 ⟨1#8, 2#8, []⟩ } } : State).host.requests.length < 8
      ∧ settled { idle with host := { idle.host with requests := List.replicate 8 ⟨1#8, 2#8, []⟩ } } = true := by
  decide +kernel

theorem witness_DamagedHostFramesCounted :
    settled idle = true ∧ idle.host.receiver = .outside ∧ (List.replicate 245 0xF3#8).length ≤ 245
      ∧ (List.replicate 246 0xF3#8).length = 246 ∧ (bytes [1, 2, 3, 4]).length < 5
      ∧ ((0xEF#8).toNat < 0xF0 ∧ 0xF4 < (0xF5#8).toNat) := by decide +kernel

/-- A wrong check, a body of one byte where the length says none, and a length byte above 240. -/
theorem witness_DamagedHostFramesCounted_contents :
    (∃ x check, bytes [3, 16, 0, 0, 0] = x ++ check ∧ check.length = 2 ∧ check ≠ checkBytes x)
      ∧ (∃ tag kind len body x, x = tag :: kind :: len :: body
        ∧ bytes [3, 16, 0, 9] ++ checkBytes (bytes [3, 16, 0, 9]) = x ++ checkBytes x
        ∧ (body.length ≠ len.toNat ∨ 240 < len.toNat))
      ∧ (∃ tag kind len body x, x = tag :: kind :: len :: body
        ∧ bytes [3, 16, 241] ++ checkBytes (bytes [3, 16, 241]) = x ++ checkBytes x
        ∧ (body.length ≠ len.toNat ∨ 240 < len.toNat)) :=
  ⟨⟨bytes [3, 16, 0], [0#8, 0#8], by decide +kernel⟩,
    ⟨3#8, 16#8, 0#8, [9#8], bytes [3, 16, 0, 9], by decide +kernel⟩,
    ⟨3#8, 16#8, 241#8, [], bytes [3, 16, 241], by decide +kernel⟩⟩

/-- The outbound queue at 31 frames and a reply that waits. -/
def replyWaiting : State :=
  { idle with host := { idle.host with
    outbound := List.replicate 31 (.reply 1#8 2#8 .done .empty), sending := true
    requests := List.replicate 3 ⟨1#8, 2#8, []⟩, selfPaused := true, serving := .replyWaits (.reply 1#8 2#8 .done .empty) } }

theorem witness_OutboundQueueFlows :
    settled idle = true ∧ idle.host.sending = false
      ∧ settled { idle with host := { idle.host with outbound := [.reply 1#8 2#8 .done .empty], sending := true } } = true
      ∧ replyWaiting.host.serving = .replyWaits (.reply 1#8 2#8 .done .empty)
      ∧ replyWaiting.host.outbound.length < 32 := by decide +kernel

theorem witness_TickTaken : settled running = true ∧ settled pendingFour = true := by decide +kernel

theorem witness_TickAccrues :
    (settled working = true ∧ working.shift = some aShift ∧ working.shiftState = .work)
      ∧ (settled { working with shiftState := .pause } = true)
      ∧ (settled { working with shiftState := .overtime } = true)
      ∧ (settled { working with shiftState := .none } = true)
      ∧ (settled running = true ∧ running.shift = none) := by decide +kernel

theorem witness_TargetUnitAndPeriodTaken :
    (let sh := { aShift with fraction := 300 };
      ({ working with shift := some sh } : State).shift = some sh ∧ sh.takt ≤ sh.fraction ∧ sh.target < sh.volume)
    ∧ (let sh := { aShift with remaining := some 0, plan := [⟨.work, 1⟩, ⟨.pause, 600⟩] };
      sh.fraction < sh.takt ∧ sh.remaining = some 0 ∧ sh.index = some 1 ∧ sh.plan[1]? = some ⟨.pause, 600⟩)
    ∧ (let sh := { aShift with remaining := some 0 };
      sh.fraction < sh.takt ∧ sh.remaining = some 0 ∧ sh.index = some 1 ∧ sh.plan[1]? = none)
    ∧ (aShift.fraction < aShift.takt ∧ aShift.remaining ≠ some 0) := by decide +kernel

theorem witness_SecondAndBlinkTaken :
    ({ idle with tenths := 10, timeOfDay := 86399 } : State).tenths = 10
      ∧ ({ idle with tenths := 9 } : State).tenths < 10
      ∧ settled { running with blinkPhase := 3 } = true := by decide +kernel

theorem witness_EscalationTaken :
    ((withCall aCall).calls.find? (fun c => c.timer == some 0) = some aCall
        ∧ (withCall aCall).callOf aCall.number = some aCall
        ∧ ladderOf (withCall aCall) aCall.cls = some ⟨.unanswered, 1, #v[10, 0, 0, 0]⟩)
      ∧ running.calls.find? (fun c => c.timer == some 0) = none
      ∧ ladderOf (withCall { aCall with cls := 8 }) 8 = none := by decide +kernel

theorem witness_EquationDelayTaken :
    (running.equationDef 48 = some ⟨.flag 32, .pulse 10, [.operand .and (.input 1)]⟩
        ∧ (pick (alter running.equations 48 fun e => { e with timer := some 0 }) 48).timer = some 0)
      ∧ (∀ j, 1 ≤ j → j < 48 → running.equationDef j = none
        ∨ (pick (alter running.equations 48 fun e => { e with timer := some 0 }) j).timer ≠ some 0)
      ∧ (∀ j, 1 ≤ j → j ≤ 48 → running.equationDef j = none ∨ (pick running.equations j).timer ≠ some 0) := by
  refine ⟨by decide +kernel, ?_, ?_⟩
  · have : ∀ j < 48, 1 ≤ j → running.equationDef j = none
        ∨ (pick (alter running.equations 48 fun e => { e with timer := some 0 }) j).timer ≠ some 0 := by decide +kernel
    exact fun j h1 h2 => this j h2 h1
  · have : ∀ j < 49, 1 ≤ j → running.equationDef j = none ∨ (pick running.equations j).timer ≠ some 0 := by
      decide +kernel
    exact fun j h1 h2 => this j (by omega) h1

theorem witness_EquationDelayTaken_outputs :
    let s := { running with equations := alter running.equations 48 fun e => { e with timer := some 0 } }
    s.mode = .run ∧ configCheck s.defs = none ∧ outputsFollow s :=
  ⟨rfl, by decide +kernel, outputsFollow_of_off _ (upTo 48 (by decide +kernel)) (upTo 32 (by decide +kernel))
    (upTo 8 (by decide +kernel)) (upTo 4 (by decide +kernel))⟩

/-- The plant in RUN, with equation 48 reading the flag of equation 1 and both delay timers expired. -/
def chained : State :=
  { running with
    defs := { plant with
      equations := alter (alter plant.equations 1 fun _ => some ⟨.flag 1, .pulse 10, [.operand .and (.input 1)]⟩) 48
        fun _ => some ⟨.flag 32, .pulse 10, [.operand .and (.flag 1)]⟩ }
    equations := alter (alter running.equations 1 fun _ => ⟨true, true, some 0⟩) 48 fun _ => ⟨true, true, some 0⟩
    flags := alter (alter running.flags 1 fun _ => true) 32 fun _ => true }

theorem witness_EquationDelayTaken_pass :
    (chained.mode = .run ∧ configCheck chained.defs = none ∧ (pick chained.equations 1).timer = some 0
        ∧ (pick chained.equations 48).timer = some 0)
      ∧ ((chained.equationDef 48).map fun x => x.reads (.flag 1)) = some true
      ∧ after (exec .equationDelayExpiry chained) (fun t => pick t.flags 1 != pick chained.flags 1) = true := by
  decide +kernel

/-- R112: one pass takes both expiries, and the second equation then its edge. -/
theorem test_equation_delays_one_pass :
    after (exec .equationDelayExpiry chained) (fun t =>
      pick t.equations 1 == ⟨true, false, none⟩ && pick t.equations 48 == ⟨false, false, none⟩
        && !pick t.flags 1 && !pick t.flags 32) = true := by decide +kernel

theorem witness_EquationDelayTaken_lists :
    (let ts := [.group .orNot, .operand .and (.input 1), .elseChain, .operand .and (.input 2), .endGroup,
        .operand .xor (.input 16)];
      balanced ts ∧ oneChain ts 0 ∧ ts ≠ [])
    ∧ balanced [.operand .andNot (.flag 32)]
    ∧ rawValue running [.operand .and (.input 1)] = operandValue running (.input 1) := by
  unfold balanced oneChain oneChain oneChain oneChain oneChain oneChain oneChain; decide +kernel

theorem witness_TimersTaken :
    (({ running with staleTimer := some 0 } : State).staleTimer = some 0 ∧ pick running.host.reports 5 = false
        ∧ pick (alter running.host.reports 5 fun _ => true) 5 = true ∧ running.host.outbound.length < 24
        ∧ 24 ≤ replyWaiting.host.outbound.length)
      ∧ ({ running with refreshTimer := some 0 } : State).refreshTimer = some 0
      ∧ (pick (alter running.boards 8 fun x => { x with probeTimer := some 0 }) 8).probeTimer = some 0
      ∧ (running.staleTimer ≠ some 0 ∧ running.refreshTimer ≠ some 0
        ∧ (pick running.boards 8).probeTimer ≠ some 0) := by decide +kernel

/-- The plant in RUN with section 1's tracker as given. -/
def tracked (phase debt : Nat) (saturated : Bool) : State :=
  { running with
    trackers := alter running.trackers 1 fun x => { x with phase := phase, debt := debt, saturated := saturated } }

theorem witness_ForwardPulseTaken :
    settled idle = true ∧ idle.mode = .config ∧ running.sectionDef 2 = none
      ∧ (settled running = true ∧ running.mode = .run ∧ running.sectionDef 1 = some ⟨16, 15, .auto, 1, 16, 2⟩)
      ∧ (settled (tracked 15 1 false) = true ∧ 0 < (pick (tracked 15 1 false).trackers 1).debt)
      ∧ ((pick (tracked 14 0 false).trackers 1).debt = 0 ∧ (pick (tracked 14 0 false).trackers 1).phase + 1 < 16)
      ∧ ((pick (tracked 15 0 false).trackers 1).debt = 0 ∧ (pick (tracked 15 0 false).trackers 1).phase + 1 = 16) := by
  decide +kernel

theorem witness_ReversePulseTaken :
    (settled (tracked 0 15 false) = true ∧ (pick (tracked 0 15 false).trackers 1).debt < 16)
      ∧ ((pick (tracked 0 16 true).trackers 1).debt = 16 ∧ (pick (tracked 0 16 true).trackers 1).saturated = true)
      ∧ ((pick (tracked 0 16 false).trackers 1).debt = 16 ∧ (pick (tracked 0 16 false).trackers 1).saturated = false)
      ∧ (pick running.host.reports 2 = false ∧ pick (alter running.host.reports 2 fun _ => true) 2 = true) := by
  decide +kernel

theorem witness_SyncEdgeForwardOrAligned :
    (16 / 2 ≤ (pick (tracked 8 0 false).trackers 1).phase ∧ 0 < (pick (tracked 8 0 false).trackers 1).phase)
      ∧ (pick (tracked 0 0 false).trackers 1).phase = 0 := by decide +kernel

theorem witness_SyncEdgeBackward :
    0 < (pick (tracked 7 0 false).trackers 1).phase ∧ (pick (tracked 7 0 false).trackers 1).phase < 16 / 2 := by
  decide +kernel

theorem witness_StopDistanceTaken :
    ((withCall aCall).calls.find? (fun c => c.sec == 1 && c.distance == some 0) = some aCall
        ∧ (withCall aCall).callOf aCall.number = some aCall)
      ∧ running.calls.find? (fun c => c.sec == 4 && c.distance == some 0) = none := by decide +kernel

/-- Input 16 as given, with a debounce time. -/
def wired (x : InputState) (ms : Nat) : State :=
  { running with
    inputs := alter running.inputs 16 fun _ => x
    defs := { plant with links := { plant.links with
      inputs := alter plant.links.inputs 16 fun i => { i with debounceMs := ms } } } }

theorem witness_RawInputTaken :
    (settled (wired ⟨true, false, true⟩ 10) = true ∧ (pick (wired ⟨true, false, true⟩ 10).inputs 16).raw = true)
      ∧ ((pick (wired ⟨true, false, true⟩ 10).inputs 16).raw ≠ false
        ∧ (pick (wired ⟨true, false, true⟩ 10).inputs 16).debounced = false)
      ∧ ((pick (wired ⟨false, false, false⟩ 10).inputs 16).raw ≠ true
        ∧ (pick (wired ⟨false, false, false⟩ 10).inputs 16).debounced ≠ true
        ∧ (pick (wired ⟨false, false, false⟩ 10).defs.links.inputs 16).debounceMs ≠ 0)
      ∧ (pick (wired ⟨false, false, false⟩ 0).defs.links.inputs 16).debounceMs = 0 := by decide +kernel

/-- Input 1, the sync input of section 1, away from its debounced state, with the phase of section 1 and a call there. -/
def synced (raw : Bool) (phase : Nat) : State :=
  { tracked phase 3 true with
    inputs := alter running.inputs 1 fun _ => ⟨raw, !raw, true⟩
    calls := [{ aCall with distance := some 5, timer := none }] }

theorem witness_InputDebounceTaken :
    (settled (wired ⟨true, false, true⟩ 10) = true ∧ (pick (wired ⟨true, false, true⟩ 10).inputs 16).timing = true
        ∧ ((pick (wired ⟨true, false, true⟩ 10).inputs 16).raw
          != (pick (wired ⟨true, false, true⟩ 10).defs.links.inputs 16).invert) = true
        ∧ (∃ d, (wired ⟨true, false, true⟩ 10).sectionDef 1 = some d ∧ d.passInput = 16))
      ∧ (pick (wired ⟨true, false, false⟩ 10).inputs 16).timing = false :=
  ⟨⟨by decide +kernel, by decide +kernel, by decide +kernel, ⟨16, 15, .auto, 1, 16, 2⟩, by decide +kernel,
    by decide +kernel⟩, by decide +kernel⟩

theorem witness_InputDebounceTaken_edges :
    (settled (synced true 8) = true ∧ (synced true 8).sectionDef 1 = some ⟨16, 15, .auto, 1, 16, 2⟩
        ∧ jumpsForward 1 ⟨16, 15, .auto, 1, 16, 2⟩ (pick (synced true 8).trackers 1))
      ∧ (settled (synced true 7) = true ∧ jumpsBackward 1 ⟨16, 15, .auto, 1, 16, 2⟩ (pick (synced true 7).trackers 1))
      ∧ (settled (synced true 0) = true ∧ ¬ jumpsForward 1 ⟨16, 15, .auto, 1, 16, 2⟩ (pick (synced true 0).trackers 1))
      ∧ (settled (synced false 8) = true
        ∧ ((pick (synced false 8).inputs 1).raw != (pick (synced false 8).defs.links.inputs 1).invert) = false)
      ∧ (synced true 8).calls[0]? = some { aCall with distance := some 5, timer := none }
      ∧ ((synced true 8).defs.counting = 1 ∧ (synced true 8).defs.source = .pitch
        ∧ (synced true 8).shiftState = .none ∧ working.shiftState ≠ .none) := by
  unfold jumpsForward jumpsBackward; decide +kernel

theorem witness_InputDebounceTaken_notice :
    (pick running.host.reports 8 = false ∧ pick (alter running.host.reports 8 fun _ => true) 8 = true)
      ∧ running.host.outbound.length < 20 := by decide +kernel

theorem witness_ArmingInRange :
    (1 ≤ (aSection 16 15).runOn ∧ (aSection 16 15).runOn < (aSection 16 15).pitch ∧ 15 < (aSection 16 15).pitch)
      ∧ armDistance (aSection 16 15) 15 0 = 17 ∧ armDistance (aSection 16 15) 15 65534 = 15 := by decide +kernel

/-- A number from 1 to 4. -/
theorem one_to_four {p : Nat → Prop} (h1 : p 1) (h2 : p 2) (h3 : p 3) (h4 : p 4) (n : Nat) (hn : 1 ≤ n) (hm : n ≤ 4) :
    p n := by
  obtain rfl | rfl | rfl | rfl : n = 1 ∨ n = 2 ∨ n = 3 ∨ n = 4 := by omega
  · exact h1
  · exact h2
  · exact h3
  · exact h4

/-- Loop A of the plant: the last address polled, the poll outstanding, the state of station 1. -/
def looped (last polled : Option Nat) (x : Station) : State :=
  { running with
    loopA := { startLoop with last := last, polled := polled }
    stations := alter running.stations 1 fun _ => x }

/-- An ONLINE station with a miss run and a hold run. -/
def online (missRun holdRun : Nat) : Station :=
  { startStation with state := .online, ackThrough := some 7, missRun := missRun, holdRun := holdRun }

theorem witness_PollTaken_next_address :
    (settled running = true ∧ (running.loop .a).polled = none ∧ toPoll running .a 0 1 = true)
      ∧ (toPoll (looped (some 1) none startStation) .a 0 48 = true
        ∧ ∀ a', 1 < a' → a' < 48 → toPoll (looped (some 1) none startStation) .a 0 a' = false) := by
  refine ⟨by decide +kernel, by decide +kernel, fun a' h1 h2 => ?_⟩
  have : ∀ a < 48, 1 < a → toPoll (looped (some 1) none startStation) .a 0 a = false := by decide +kernel
  exact this a' h2 h1

theorem witness_PollTaken_cycle_end :
    settled (looped (some 48) none startStation) = true
      ∧ ((looped (some 48) none startStation).loop .a).last ≠ none
      ∧ (∀ a', 48 < a' → a' ≤ 48 → toPoll (looped (some 48) none startStation) .a 0 a' = false)
      ∧ toPoll (looped (some 48) none startStation) .a 1 1 = true := by
  refine ⟨by decide +kernel, by decide +kernel, fun a' h1 h2 => absurd h1 (by omega), by decide +kernel⟩

/-- Loop A in its second cycle, its stations OFFLINE. -/
def silent : State :=
  { running with
    loopA := { startLoop with cycle := 1 }
    stations := alter (alter running.stations 1 fun x => { x with state := .offline }) 48
      fun x => { x with state := .offline } }

theorem witness_PollTaken_idle :
    (settled silent = true ∧ (silent.loop .a).polled = none ∧ (silent.loop .a).last = none
        ∧ ∃ a, 1 ≤ a ∧ a ≤ 48 ∧ (silent.stationDef (stationAt .a a)).isSome = true)
      ∧ (∀ a, 1 ≤ a → a ≤ 48 → toPoll silent .a (silent.loop .a).cycle a = false)
      ∧ (∃ a, 1 ≤ a ∧ a ≤ 48 ∧ toPoll running .a (running.loop .a).cycle a = true)
      ∧ ((looped none (some 1) startStation).loop .a).polled ≠ none := by
  refine ⟨⟨by decide +kernel, by decide +kernel, by decide +kernel, 48, by decide +kernel⟩, fun a h1 h2 => ?_,
    ⟨1, by decide +kernel⟩, by decide +kernel⟩
  have : ∀ a < 49, 1 ≤ a → toPoll silent .a (silent.loop .a).cycle a = false := by decide +kernel
  exact this a (by omega) h1

/-- An idle cycle follows: at the end of a cycle 0, and after the idle cycle 1; none follows the cycle 7. -/
theorem witness_PollTaken_idle_next :
    (let s := silent.modLoop .a fun x => { x with cycle := 0, last := some 48 };
      settled s = true ∧ s.mode = .run ∧ (s.loop .a).polled = none ∧ (s.loop .a).last = some 48)
      ∧ ((List.range 49).all fun a => !toPoll silent .a 1 a && !toPoll silent .a 2 a) = true
      ∧ (let s := silent.modLoop .a fun x => { x with cycle := 7 };
        settled s = true ∧ ((List.range 49).all fun a => !toPoll s .a 7 a) = true ∧ toPoll s .a 0 48 = true) := by
  decide +kernel

/-- R78: RUN, loop A without a defined station, an announcement pending. -/
def vacant : State :=
  State.reset.modLoop .a (fun x => { x with zonesOwed := [1] }) |> fun s => { s with mode := .run }

theorem witness_PollTaken_vacant :
    (settled vacant = true ∧ vacant.mode = .run ∧ (vacant.loop .a).polled = none ∧ (vacant.loop .a).last = none)
      ∧ (let s := vacant.modLoop .a fun x => { x with last := some 48 };
        settled s = true ∧ s.mode = .run ∧ (s.loop .a).polled = none ∧ (s.loop .a).last = some 48)
      ∧ ((List.range 49).all fun a =>
        (vacant.stationDef (stationAt .a a)).isNone && !toPoll vacant .a 0 a && !toPoll vacant .a 1 a) = true := by
  decide +kernel

theorem test_idle_cycle_vacant :
    after (exec (.idleCycleEnd .a) vacant)
      (fun t => (t.loop .a).cycle == 1 && (t.loop .a).sent.isEmpty && (t.loop .a).zonesOwed == [1]) = true := by
  decide +kernel

theorem witness_LoopRepliesTaken :
    (settled (looped (some 1) (some 1) (online 4 7)) = true
        ∧ ((looped (some 1) (some 1) (online 4 7)).loop .a).polled = some 1
        ∧ ((looped (some 1) (some 1) (online 4 7)).loop .a).receiver = .outside)
      ∧ readLoopFrame (bytes [1, 17, 0] ++ checkBytes (bytes [1, 17, 0])) false = some (.status (addressOf 1) [])
      ∧ (readLoopFrame (bytes [1, 17, 1, 3, 1, 240] ++ checkBytes (bytes [1, 17, 1, 3, 1, 240])) false
          = some (.status (addressOf 1) [⟨3, .call, 240⟩]))
      ∧ (readLoopFrame (bytes [1, 17, 1, 7, 1, 240] ++ checkBytes (bytes [1, 17, 1, 7, 1, 240])) false
          = some (.status (addressOf 1) [⟨7, .call, 240⟩]) ∧ (7 + 8 - 7) % 8 ∉ [1, 2, 3, 4])
      ∧ readLoopFrame (bytes [1, 18] ++ checkBytes (bytes [1, 18])) false = some (.hold (addressOf 1))
      ∧ (pick (looped (some 1) (some 1) (online 0 6)).stations 1).holdRun < 7
      ∧ ((pick (looped (some 1) (some 1) (online 3 7)).stations 1).holdRun = 7
        ∧ (pick (looped (some 1) (some 1) (online 3 7)).stations 1).missRun + 1
          < (loopSettings (looped (some 1) (some 1) (online 3 7)) (loopOf 1)).missLimit) := by decide +kernel

theorem witness_LoopRepliesTaken_hold :
    (settled (looped (some 1) (some 1) { startStation with holdRun := 6 }) = true
        ∧ (pick (looped (some 1) (some 1) { startStation with holdRun := 6 }).stations 1).state ≠ .online
        ∧ pick (alter running.host.reports 3 fun _ => true) 3 = true)
      ∧ (settled (looped (some 1) (some 1) (online 4 7)) = true
        ∧ (pick (looped (some 1) (some 1) (online 4 7)).stations 1).state ≠ .offline
        ∧ (pick (looped (some 1) (some 1) (online 4 7)).stations 1).holdRun = 7
        ∧ (loopSettings (looped (some 1) (some 1) (online 4 7)) (loopOf 1)).missLimit
          ≤ (pick (looped (some 1) (some 1) (online 4 7)).stations 1).missRun + 1) := by decide +kernel

theorem witness_LoopRepliesTaken_walk :
    (pick (looped (some 1) (some 1) (online 0 0)).stations 1).state = .online
      ∧ (pick (looped (some 1) (some 1) (online 0 0)).stations 1).ackThrough = some 7
      ∧ ((3 + 8 - 7) % 8 ∈ [1, 2, 3, 4] ∧ (7 + 8 - 7) % 8 ∉ [1, 2, 3, 4] ∧ (4 + 8 - 7) % 8 ∉ [1, 2, 3, 4])
      ∧ (pick ((looped (some 1) (some 1) (online 0 0)).takeStatus 1 [⟨3, .call, 33⟩]).stations 1).ackThrough = some 3
      ∧ (pick ({ looped (some 1) (some 1) (online 0 0) with
          calls := List.replicate 64 tagCall
          defs := { plant with codeMap := { emptyCodeMap with unmatched := some 2 } } }.takeStatus 1
            [⟨3, .call, 33⟩]).stations 1).ackThrough ≠ some 3 := by decide +kernel

/-- R83: with no acknowledgement every event of a STATUS is new: the second, of the same sequence, answers the call that
the first raised. -/
theorem test_first_status_all_new :
    let s := { looped (some 1) (some 1) startStation with
      defs := { plant with codeMap := { emptyCodeMap with unmatched := some 2 } } }
    let t := s.takeStatus 1 [⟨3, .call, 33⟩, ⟨3, .answer, 2⟩]
    (pick t.stations 1).ackThrough = some 3 ∧ t.calls.map (·.answered) = [some 0]
      ∧ (pick (s.takeStatus 1 [⟨3, .call, 33⟩]).stations 1).ackThrough = some 3
      ∧ (pick s.stations 1).state ≠ .online := by decide +kernel

/-- A state with station n ONLINE and polled on loop A, its event 7 acknowledged. -/
def heardAt (s : State) (n : Nat) : State :=
  { s with
    loopA := { startLoop with polled := some n }
    stations := alter s.stations n fun _ => { startStation with state := .online, ackThrough := some 7 } }

/-- A state in which every code has the class k. -/
def mapped (k : Nat) (s : State) : State :=
  { s with defs := { s.defs with codeMap := { emptyCodeMap with unmatched := some k } } }

/-- The premises that all clauses of StationEventsTaken share, in a state and at a station. -/
def hears (s : State) (n : Nat) : Prop :=
  settled s = true ∧ s.mode = .run ∧ (s.loop .a).polled = some n ∧ (s.loop .a).receiver = .outside
    ∧ (pick s.stations n).state = .online ∧ (pick s.stations n).waiting = none
    ∧ (pick s.stations n).ackThrough = some 7 ∧ (3 + 8 - 7) % 8 ∈ [1, 2, 3, 4]

/-- A call of the tag 32 that holds section 4, a TICK being next. -/
def holdingFour : State :=
  { running with
    calls := [{ carriedCall with state := .holding }], arrivalCount := 1
    stops := alter running.stops 4 fun x => { x with holdOrder := [1], request := true }, pending := [.tick] }

/-- A call of station 1 that counts down. -/
def armedCall : Call := { aCall with distance := some 1, timer := none, number := 1 }

theorem witness_StationEventsTaken_rejected :
    hears (heardAt running 1) 1 ∧ (heardAt running 1).defs.codeMap.classOf 33 = none
      ∧ stationCalls (heardAt running 1) 1 = 0 ∧ (heardAt running 1).stationDef 1 = some ⟨1, [], false⟩
      ∧ (heardAt running 1).zoneDef 1 = some ⟨[], 1, 0, 1, 63⟩
      ∧ readLoopFrame (bytes [1, 17, 1, 3, 1, 33] ++ checkBytes (bytes [1, 17, 1, 3, 1, 33])) false
        = some (.status (addressOf 1) [⟨3, .call, 33⟩]) := by unfold hears; decide +kernel

/-- No call, no selector that finds one. -/
theorem witness_StationEventsTaken_nothing_selected :
    (∀ c, ¬ selectorFinds (heardAt running 1) 1 8 c) ∧ ∀ c, ¬ selectorFinds (heardAt running 1) 1 15 c := by
  have h : callFrom (heardAt running 1) (.station 1) 8 = none
      ∧ (callsOfStation (heardAt running 1) 1).head? = none := by decide +kernel
  constructor <;> intro c hc <;> unfold selectorFinds at hc <;> simp [h] at hc

/-- Station 1 marked "stop call waiting" since 77, the mark counted in section 1. -/
def marked (s : State) : State :=
  { heardAt s 1 with
    stations := alter (heardAt s 1).stations 1 fun x => { x with waiting := some 77 }
    stops := alter s.stops 1 fun x => { x with waiting := 1, overflow := true, request := true } }

theorem witness_StationEventsTaken_waiting :
    (settled (marked running) = true ∧ (pick (marked running).stations 1).waiting = some 77
        ∧ (pick (marked running).stations 1).state = .online ∧ (marked running).arrivalCount < 4294967295
        ∧ (marked running).defs.codeMap.classOf 33 = none)
      ∧ (settled (marked (mapped 1 running)) = true ∧ (marked (mapped 1 running)).defs.codeMap.classOf 33 = some 1
        ∧ callFrom (marked (mapped 1 running)) (.station 1) 1 = none ∧ hasRoom (marked (mapped 1 running)) 1 = true
        ∧ ((marked (mapped 1 running)).classDef 1).stop ≠ .none)
      ∧ ((marked (mapped 2 running)).defs.codeMap.classOf 33 = some 2
        ∧ ((marked (mapped 2 running)).classDef 2).stop = .none ∧ hasRoom (marked (mapped 2 running)) 2 = true)
      ∧ (settled (marked (mapped 1 (withCall armedCall))) = true
        ∧ callFrom (marked (mapped 1 (withCall armedCall))) (.station 1) 1 = some armedCall) := by decide +kernel

theorem witness_StationEventsTaken_carried :
    (hears (heardAt (mapped 1 (withCall { armedCall with state := .carried, distance := none })) 1) 1
        ∧ callFrom (heardAt (mapped 1 (withCall { armedCall with state := .carried, distance := none })) 1) (.station 1) 1
          = some { armedCall with state := .carried, distance := none }
        ∧ ((withCall armedCall).classDef 1).stop = .fixed)
      ∧ (hears (heardAt (mapped 8 (withCall { carriedCall with origin := .station 1 })) 1) 1
        ∧ callFrom (heardAt (mapped 8 (withCall { carriedCall with origin := .station 1 })) 1) (.station 1) 8
          = some { carriedCall with origin := .station 1 }
        ∧ ((withCall carriedCall).classDef 8).stop = .immediate) := by unfold hears; decide +kernel

theorem witness_StationEventsTaken_selected :
    (selectorFinds (heardAt (withCall armedCall) 1) 1 15 armedCall
        ∧ selectorFinds (heardAt (withCall armedCall) 1) 1 1 armedCall
        ∧ carriable (heardAt (withCall armedCall) 1) armedCall = true ∧ armedCall.answered = none)
      ∧ (selectorFinds (heardAt (withCall { armedCall with cls := 8, state := .holding, distance := none }) 1) 1 8
          { armedCall with cls := 8, state := .holding, distance := none }
        ∧ carriable (heardAt running 1) { armedCall with cls := 8, state := .holding, distance := none } = true)
      ∧ (selectorFinds (heardAt (withCall { armedCall with cls := 2, answered := some 0 }) 1) 1 2
          { armedCall with cls := 2, answered := some 0 }
        ∧ carriable (heardAt running 1) { armedCall with cls := 2, answered := some 0 } = false)
      ∧ ((heardAt (withCall armedCall) 1).history.length ≤ 128 ∧ (heardAt (withCall armedCall) 1).nextSeq < 65536
        ∧ (heardAt (withCall armedCall) 1).overflowCount ≤ 255) := by unfold selectorFinds; decide +kernel

theorem witness_StationEventsTaken_noRoom :
    (hears (heardAt (mapped 1 full) 1) 1 ∧ callFrom (heardAt (mapped 1 full) 1) (.station 1) 1 = none
        ∧ hasRoom (heardAt (mapped 1 full) 1) 1 = false
        ∧ (heardAt (mapped 1 full) 1).defs.codeMap.classOf 33 = some 1
        ∧ ((heardAt (mapped 1 full) 1).classDef 1).stop ≠ .none)
      ∧ (hears (heardAt (mapped 2 full) 1) 1 ∧ hasRoom (heardAt (mapped 2 full) 1) 2 = false
        ∧ ((heardAt (mapped 2 full) 1).classDef 2).stop = .none) := by unfold hears; decide +kernel

theorem witness_StationEventsTaken_callAndAnswer :
    (hears (heardAt (mapped 1 running) 1) 1 ∧ hasRoom (heardAt (mapped 1 running) 1) 1 = true
        ∧ callFrom (heardAt (mapped 1 running) 1) (.station 1) 1 = none
        ∧ ((heardAt (mapped 1 running) 1).classDef 1).stop ≠ .immediate)
      ∧ (hears (heardAt (mapped 1 (withCall armedCall)) 1) 1
        ∧ callFrom (heardAt (mapped 1 (withCall armedCall)) 1) (.station 1) 1 = some armedCall
        ∧ armedCall.state ≠ .carried ∧ armedCall.answered = none) := by unfold hears; decide +kernel

theorem witness_StationEventsTaken_restart :
    let s := heardAt (running.modStop 4 fun x => { x with pending := true, request := true }) 48
    hears s 48 ∧ s.stationDef 48 = some ⟨24, [], true⟩ ∧ s.zoneDef 24 = some ⟨[], 4, 1000, 48, 48⟩
      ∧ (pick s.stops 4).holdOrder = [] ∧ (pick s.stops 4).overflow = false ∧ (pick s.stops 4).pending = true := by
  unfold hears; decide +kernel

/-- A RESTART of the leader 48 refused: nothing pending, held by the overflow hold, held by a call. -/
theorem witness_StationEventsTaken_restart_refused :
    (hears (heardAt running 48) 48 ∧ (heardAt running 48).stationDef 48 = some ⟨24, [], true⟩
        ∧ (pick (heardAt running 48).stops 4).pending = false)
      ∧ (let s := heardAt (running.modStop 4 fun x => { x with overflow := true, pending := true, request := true }) 48;
        hears s 48 ∧ (pick s.stops 4).overflow = true)
      ∧ (hears (heardAt holdingFour 48) 48 ∧ (pick (heardAt holdingFour 48).stops 4).holdOrder ≠ []) := by
  unfold hears; decide +kernel

/-- A marked station's CALL: refused again, and repeating a CARRIED call of class FIXED and of class IMMEDIATE. -/
theorem witness_StationEventsTaken_waiting_repeats :
    (settled (marked (mapped 1 full)) = true ∧ (pick (marked (mapped 1 full)).stations 1).waiting = some 77
        ∧ callFrom (marked (mapped 1 full)) (.station 1) 1 = none ∧ hasRoom (marked (mapped 1 full)) 1 = false)
      ∧ (let s := marked (mapped 1 (withCall { armedCall with state := .carried, distance := none }));
        settled s = true ∧ callFrom s (.station 1) 1 = some { armedCall with state := .carried, distance := none }
          ∧ (s.classDef 1).stop = .fixed)
      ∧ (let s := marked (mapped 8 (withCall { carriedCall with origin := .station 1 }));
        settled s = true ∧ callFrom s (.station 1) 8 = some { carriedCall with origin := .station 1 }
          ∧ (s.classDef 8).stop = .immediate) := by decide +kernel

theorem witness_PollMissesTaken :
    (settled (looped (some 1) (some 1) (online 3 0)) = true
        ∧ (pick (looped (some 1) (some 1) (online 3 0)).stations 1).missRun + 1
          < (loopSettings (looped (some 1) (some 1) (online 3 0)) (loopOf 1)).missLimit)
      ∧ (loopSettings (looped (some 1) (some 1) (online 4 0)) (loopOf 1)).missLimit
        ≤ (pick (looped (some 1) (some 1) (online 4 0)).stations 1).missRun + 1
      ∧ (pick silent.stations 1).state = .offline
      ∧ missesPoll (looped (some 1) (some 1) (online 3 0)) .a 1 (.pollResponseTimeout .a)
      ∧ missesPoll { looped (some 1) (some 1) (online 3 0) with
          loopA := { startLoop with polled := some 1, started := true } } .a 1 (.loopReplyFrameTimeout .a) :=
  ⟨by decide +kernel, by decide +kernel, by decide +kernel, .inr (.inl ⟨rfl, rfl⟩), .inr (.inr ⟨rfl, rfl⟩)⟩

/-- A HOLD of station 1 with a wrong check, one from station 2, one with an unescaped flow mark, and a frame of nothing. -/
theorem witness_PollMissesTaken_frames :
    missesPoll (looped (some 1) (some 1) (online 3 0)) .a 1
        (.loopBadReply .a ([startMark] ++ escape (bytes [1, 18, 0, 0]) ++ [endMark]))
      ∧ missesPoll (looped (some 1) (some 1) (online 3 0)) .a 1 (.loopBadReply .a (frameBytes (bytes [2, 18])))
      ∧ missesPoll (looped (some 1) (some 1) (online 3 0)) .a 1
        (.loopBadReply .a ([startMark] ++ escape (bytes [1]) ++ [0xF3#8] ++ escape (bytes [18]) ++ [endMark]))
      ∧ missesPoll (looped (some 1) (some 1) (online 3 0)) .a 1
        (.loopBadReply .a ([startMark] ++ escape [] ++ [endMark])) := by
  refine ⟨.inl ⟨_, rfl, rfl, .inl ⟨_, rfl, ?_⟩⟩, .inl ⟨_, rfl, rfl, .inl ⟨bytes [2, 18] ++ checkBytes (bytes [2, 18]), rfl, ?_⟩⟩,
    .inl ⟨_, rfl, rfl, .inr ⟨_, _, _, .inl rfl, rfl⟩⟩, .inl ⟨_, rfl, rfl, .inl ⟨_, rfl, ?_⟩⟩⟩
  · rintro x ⟨a, ha, rfl | ⟨count, events, rfl, -⟩⟩ h
    · have h1 : a = 1#8 := by simpa [bytes] using congrArg List.head? h.symm
      subst h1
      exact absurd h (by decide +kernel)
    · simp [bytes] at h
  · rintro x ⟨a, ha, hx⟩ h
    have h1 : a = 2#8 := by
      obtain rfl | ⟨count, events, rfl, -⟩ := hx <;> simpa [bytes] using congrArg List.head? h.symm
    subst h1
    exact absurd ha (by decide +kernel)
  · rintro x - h
    simp [checkBytes] at h

/-- Station 1, marked, its call of policy DROP holding section 1, at its last miss. -/
def leaving : State :=
  { marked { running with calls := [{ armedCall with state := .holding, distance := none }], arrivalCount := 1 } with
    stations := alter running.stations 1 fun _ => { online 4 0 with waiting := some 77 }
    stops := alter running.stops 1 fun x =>
      { x with holdOrder := [1], waiting := 1, overflow := true, request := true } }

theorem witness_PollMissesTaken_offline :
    (settled leaving = true ∧ (leaving.loop .a).polled = some 1 ∧ (pick leaving.stations 1).state ≠ .offline
        ∧ (loopSettings leaving (loopOf 1)).missLimit ≤ (pick leaving.stations 1).missRun + 1)
      ∧ (orphans leaving 1 = [{ armedCall with state := .holding, distance := none }]
        ∧ orphans (looped (some 1) (some 1) (online 4 0)) 1 = []
        ∧ (pick (looped (some 1) (some 1) (online 4 0)).stations 1).waiting = none)
      ∧ (callsInOrder leaving ∧ leaving.history.length ≤ 128 ∧ leaving.nextSeq < 65536 ∧ leaving.overflowCount ≤ 255)
      ∧ holdOrdersAgree leaving ∧ requestsHaveCauses leaving := by
  refine ⟨by decide +kernel, by decide +kernel, by unfold callsInOrder; decide +kernel,
    ⟨by decide +kernel, one_to_four ?_ ?_ ?_ ?_⟩, one_to_four (by decide +kernel) (by decide +kernel) (by decide +kernel)
      (by decide +kernel)⟩ <;> refine ⟨by decide +kernel, fun k => ?_⟩ <;>
    (simp [leaving, marked, heardAt, running, armedCall, aCall, State.reset, startStop, pick, alter]; try omega)

theorem witness_LoopRepliesTaken_offline :
    let s := { leaving with stations := alter running.stations 1 fun _ => { online 4 7 with waiting := some 77 } }
    settled s = true ∧ s.mode = .run ∧ (s.loop .a).polled = some 1 ∧ (s.loop .a).receiver = .outside
      ∧ (pick s.stations 1).holdRun = 7
      ∧ (loopSettings s (loopOf 1)).missLimit ≤ (pick s.stations 1).missRun + 1
      ∧ callsInOrder s ∧ orphans s 1 ≠ [] := by unfold callsInOrder; decide +kernel

/-- A FIELD frame of field 12. -/
def aField : BoardFrame := { field := 12, priority := 1, content := none, attempts := 4, reconfirm := false }

/-- Board 8 as given, and what is in flight to it. -/
def boarded (x : Board) (flight : Option Flight) : State :=
  { running with
    boards := alter running.boards 8 fun _ => x
    link := { startBoardLink with inFlight := flight } }

theorem witness_BoardFrameSentTaken :
    (settled running = true ∧ running.link.inFlight = none)
      ∧ (∀ b, 1 ≤ b → b ≤ 8 → hasWork running b = false)
      ∧ (let s := boarded { startBoard with state := .dark, probeDue := true } none;
        settled s = true ∧ hasWork s 8 = true ∧ 8 = (s.link.position + 8 - 1) % 8 + 1)
      ∧ (let s := boarded { startBoard with queue := [clearFrame] } none;
        settled s = true ∧ hasWork s 8 = true ∧ (pick s.boards 8).toggle = none)
      ∧ (let s := boarded { startBoard with queue := [clearFrame, aField], toggle := some true, clearing := true } none;
        settled s = true ∧ hasWork s 8 = true ∧ (pick s.boards 8).queue = [clearFrame] ++ aField :: []
          ∧ ∀ x ∈ [clearFrame], x.priority < aField.priority) := by
  refine ⟨by decide +kernel, fun b h1 h2 => ?_, by decide +kernel, by decide +kernel, by decide +kernel⟩
  have : ∀ b < 9, 1 ≤ b → hasWork running b = false := by decide +kernel
  exact this b (by omega) h1

theorem witness_BoardFrameSentTaken_serving :
    let s := boarded { startBoard with queue := [aField], toggle := some true } none
    settled s = true ∧ hasWork s 8 = true ∧ (pick s.boards 8).clearing = false
      ∧ (∀ f, 1 ≤ f → f ≤ 12 → (pick (pick s.fields 8) f).marked = false)
      ∧ (pick (pick (alter s.fields 8 fun row => alter row 12 fun x => { x with marked := true }) 8) 12).marked = true :=
  ⟨by decide +kernel, by decide +kernel, by decide +kernel, upTo 12 (by decide +kernel), by decide +kernel⟩

theorem witness_BoardAnswersTaken :
    (let s := boarded { startBoard with toggle := some true, owed := true } (some (.field 8 aField true));
      settled s = true ∧ s.link.receiver = .outside ∧ (pick s.boards 8).state ≠ .dark ∧ aField.field ≠ 0
        ∧ aField.reconfirm = false)
    ∧ (let s := boarded { startBoard with state := .lagging, toggle := some true, queue := [clearFrame, clearFrame, clearFrame] }
          (some (.field 8 { aField with reconfirm := true } true));
      settled s = true ∧ (∀ x ∈ (pick s.boards 8).queue, x.field ≠ aField.field)
        ∧ (pick s.boards 8).queue.length < (s.boardDepth 8).getD 0)
    ∧ (let s := boarded { startBoard with state := .dark } (some (.probe 8));
      settled s = true ∧ s.link.inFlight = some (.probe 8) ∧ (pick s.boards 8).state = .dark)
    ∧ (let s := boarded startBoard (some (.probe 8)); settled s = true ∧ (pick s.boards 8).state ≠ .dark) := by
  decide +kernel

theorem witness_BoardAnswersTaken_clear :
    (let s := boarded { startBoard with toggle := some true, clearing := true } (some (.field 8 { clearFrame with attempts := 1 } true));
      settled s = true ∧ (pick s.boards 8).state ≠ .dark ∧ (pick s.boards 8).owed = false
        ∧ (∀ x ∈ (pick s.boards 8).queue, x.field ≠ 0) ∧ (s.boardDepth 8).isSome = true)
    ∧ (let s := boarded { startBoard with toggle := some true, clearing := true, queue := [clearFrame] }
          (some (.field 8 clearFrame true));
      settled s = true ∧ ∃ x ∈ (pick s.boards 8).queue, x.field = 0) := by decide +kernel

theorem witness_BoardAnswersTaken_put_back :
    (let s := boarded { startBoard with toggle := some true, queue := fullQueue }
        (some (.field 8 { aField with reconfirm := true } true));
      settled s = true ∧ (pick s.boards 8).state ≠ .dark ∧ s.boardDepth 8 = some 4
        ∧ (∀ y ∈ (pick s.boards 8).queue, y.field ≠ aField.field) ∧ 4 ≤ (pick s.boards 8).queue.length)
    ∧ queueSound fullQueue ∧ queueSound [aField] := by unfold queueSound; decide +kernel

theorem witness_BoardFailuresTaken :
    (let s := boarded { startBoard with state := .lagging, timeoutRun := 6 } (some (.field 8 { aField with attempts := 3 } true));
      settled s = true ∧ (pick s.boards 8).state ≠ .dark ∧ (pick s.boards 8).timeoutRun < 7
        ∧ pick s.defs.links.retry 8 = .three ∧ (∀ x ∈ (pick s.boards 8).queue, x.field ≠ 12)
        ∧ (pick s.boards 8).queue.length < (s.boardDepth 8).getD 0)
    ∧ 4 ≤ aField.attempts
    ∧ (let s := boarded { startBoard with state := .lagging, timeoutRun := 7 } (some (.field 8 aField true));
      settled s = true ∧ (pick s.boards 8).timeoutRun = 7)
    ∧ (let s := boarded { startBoard with state := .dark } (some (.probe 8));
      settled s = true ∧ failsAttempt s .boardResponseTimeout
        ∧ failsAttempt { s with link := { s.link with started := true } } .boardReplyFrameTimeout) :=
  ⟨by decide +kernel, by decide +kernel, by decide +kernel, by decide +kernel, .inr (.inl ⟨rfl, rfl⟩),
    .inr (.inr ⟨rfl, rfl⟩)⟩

/-- An ACK of board 8 with a wrong check, one with the other toggle, a REFUSE to a PROBE. -/
theorem witness_BoardFailuresTaken_frames :
    failsAttempt (boarded startBoard (some (.field 8 aField true)))
        (.boardBadReply ([startMark] ++ escape (bytes [8, 17, 1, 0, 0]) ++ [endMark]))
      ∧ failsAttempt (boarded startBoard (some (.field 8 aField true))) (.boardBadReply (frameBytes (bytes [8, 17, 0])))
      ∧ failsAttempt (boarded startBoard (some (.probe 8))) (.boardBadReply (frameBytes (bytes [8, 18, 1, 1]))) := by
  refine ⟨.inl ⟨_, _, rfl, rfl, rfl, .inl ⟨_, rfl, ?_⟩⟩,
    .inl ⟨_, _, rfl, rfl, rfl, .inl ⟨bytes [8, 17, 0] ++ checkBytes (bytes [8, 17, 0]), rfl, ?_⟩⟩,
    .inl ⟨_, _, rfl, rfl, rfl, .inl ⟨bytes [8, 18, 1, 1] ++ checkBytes (bytes [8, 18, 1, 1]), rfl, ?_⟩⟩⟩
  · rintro x ⟨a, -, rfl | rfl | rfl⟩ h
    · have h1 : a = 8#8 := by simpa [bytes] using congrArg List.head? h.symm
      subst h1
      exact absurd h (by decide +kernel)
    · simp [bytes] at h
    · simp [bytes] at h
  · rintro x ⟨a, -, rfl | rfl | rfl⟩ h <;> simp [bytes] at h
  · rintro x ⟨a, -, rfl | rfl⟩ h <;> simp [bytes] at h

theorem witness_BoardFailuresTaken_put_back :
    (let s := boarded { startBoard with queue := fullQueue, timeoutRun := 6 } (some (.field 8 { aField with attempts := 1 } true));
      settled s = true ∧ (pick s.boards 8).timeoutRun < 7 ∧ pick s.defs.links.retry 8 = .three
        ∧ s.boardDepth 8 = some 4 ∧ (pick s.boards 8).state ≠ .dark)
    ∧ (let s := boarded { startBoard with queue := fullQueue, timeoutRun := 7 } (some (.field 8 aField true));
      settled s = true ∧ (pick s.boards 8).timeoutRun = 7)
    ∧ queueSound fullQueue := by unfold queueSound; decide +kernel

theorem witness_BoardFailuresTaken_clear_and_probe :
    (let s := boarded { startBoard with clearing := true } (some (.field 8 { clearFrame with attempts := 4 } true));
      settled s = true ∧ (pick s.boards 8).timeoutRun < 7 ∧ (∀ x ∈ (pick s.boards 8).queue, x.field ≠ 0)
        ∧ pick s.defs.links.retry 8 = .three)
    ∧ (let s := boarded { startBoard with timeoutRun := 6 } (some (.probe 8));
      settled s = true ∧ (pick s.boards 8).state ≠ .dark ∧ (pick s.boards 8).timeoutRun < 7)
    ∧ (let s := boarded { startBoard with timeoutRun := 7 } (some (.probe 8));
      settled s = true ∧ (pick s.boards 8).timeoutRun = 7) := by decide +kernel

theorem witness_DelayEdgesTaken :
    startEquation.raw = false ∧ startEquation.timer = none
      ∧ ({ startEquation with raw := true } : EquationState).raw = true
      ∧ ({ startEquation with timer := some 0 } : EquationState).timer ≠ none := by decide +kernel

/-- The premises of the statements on what every step keeps: a state other than reset that meets each invariant, and a
step from it. -/
theorem witness_StepKeeps_step : after (step { twoRecords with pending := [.tick] }) (fun _ => true) = true := by
  decide +kernel

theorem witness_StepKeepsCapacity : withinCapacity { twoRecords with pending := [.tick] } := by
  unfold withinCapacity; decide +kernel

theorem witness_StepKeepsHistoryInOrder : historyInOrder { twoRecords with pending := [.tick] } := by
  unfold historyInOrder twoRecords; unfold sequencesRun sequencesRun; decide +kernel

theorem witness_StepKeepsTrackersInRange : trackersInRange { (tracked 15 16 true) with pending := [.tick] } := by
  have sections : sectionsInRange plant := by
    intro n hn hm x hx
    have : ∀ n < 5, ∀ x ∈ (pick plant.sections n).toList, 16 ≤ x.pitch ∧ 1 ≤ x.runOn ∧ x.runOn < x.pitch := by
      decide +kernel
    exact this n (by omega) x (by rw [hx]; exact List.mem_singleton.mpr rfl)
  refine ⟨sections, fun d hd => (Option.some_ne_none d hd.symm).elim, fun n hn hm x hx => ?_⟩
  have : ∀ n < 5, ∀ x ∈ ((tracked 15 16 true).sectionDef n).toList,
      (pick (tracked 15 16 true).trackers n).phase < x.pitch ∧ (pick (tracked 15 16 true).trackers n).debt ≤ x.pitch := by
    decide +kernel
  have hx : (tracked 15 16 true).sectionDef n = some x := hx
  exact this n (by omega) x (by rw [hx]; exact List.mem_singleton.mpr rfl)

theorem witness_StepKeepsConfigIdle :
    (configIdle { idle with pending := [.tick] } ∧ shiftPresent { idle with pending := [.tick] })
      ∧ (configIdle { working with pending := [.tick] } ∧ shiftPresent { working with pending := [.tick] }) := by
  unfold configIdle shiftPresent equationsIdle; decide +kernel

theorem witness_StepKeeps_held :
    noneWithinCapacity { full with pending := [.tick] } ∧ noneWithinCapacity holdingFour ∧ callsInOrder holdingFour
      ∧ configIdle holdingFour
      ∧ after (step holdingFour) (fun _ => true) = true := by
  unfold noneWithinCapacity callsInOrder configIdle equationsIdle; decide +kernel

theorem witness_StepKeeps_holdOrders : holdOrdersAgree holdingFour := by
  refine ⟨by decide +kernel, one_to_four ?_ ?_ ?_ ?_⟩ <;> refine ⟨by decide +kernel, fun k => ?_⟩ <;>
    (simp [holdingFour, running, carriedCall, tagCall, aCall, State.reset, startStop, pick, alter]; try omega)

theorem witness_StepKeeps_queues :
    boardQueuesFit { boarded { startBoard with queue := fullQueue } (some (.field 8 aField true)) with
      pending := [.tick] } := by
  refine ⟨?_, fun d hd => (Option.some_ne_none d hd.symm).elim, fun h => absurd h (by decide), ?_, ?_, ?_⟩
  · have h : ∀ b < 9, ∀ depth ∈ (pick plant.boards b).toList, 4 ≤ depth ∧ depth ≤ 16 := by decide +kernel
    exact fun b _ hb depth hd => h b (by omega) depth (by
      have hd : pick plant.boards b = some depth := hd
      rw [hd]; exact List.mem_singleton.mpr rfl)
  · intro b fr toggle h
    have h : some (Flight.field 8 aField true) = some (Flight.field b fr toggle) := h
    simp only [Option.some.injEq, Flight.field.injEq] at h
    obtain ⟨rfl, rfl, rfl⟩ := h
    decide +kernel
  · intro b h
    have h : some (Flight.field 8 aField true) = some (Flight.probe b) := h
    simp at h
  · exact upTo 8 (by decide +kernel)

theorem witness_StepKeeps_definitions :
    definitionsAgree { running with pending := [.tick] } ∧ outputsFollow { running with pending := [.tick] } :=
  ⟨fun _ => by decide +kernel, outputsFollow_of_off _ (upTo 48 (by decide +kernel)) (upTo 32 (by decide +kernel))
    (upTo 8 (by decide +kernel)) (upTo 4 (by decide +kernel))⟩

theorem witness_StepKeepsRequestsWithCauses : requestsHaveCauses { pendingFour with pending := [.tick] } :=
  one_to_four (by decide +kernel) (by decide +kernel) (by decide +kernel) (by decide +kernel)

end Sys2Proof.Tests
end

section
/-! PROOFS. Conveyor: what a sync edge does with a rollback debt and at a backward jump (R38, R40, R57). -/

namespace Sys2Proof.Machine

/-! ## Banks changed twice at one place -/

/-- Two changes at one place are one. -/
theorem alter_alter {α : Type} {n : Nat} (v : Vector α n) (i : Nat) (f g : α → α) :
    alter (alter v i f) i g = alter v i fun x => g (f x) := by
  by_cases hi : 1 ≤ i ∧ i ≤ n
  · simp only [alter_of_within _ _ hi.1 hi.2, Vector.getElem_set_self, Vector.set_set]
  · simp only [alter_outside _ _ (show i = 0 ∨ n < i by omega)]

/-- Changes that agree on the thing at the place change the bank alike. -/
theorem alter_congr_at {α : Type} [Inhabited α] {n i : Nat} (v : Vector α n) {f g : α → α}
    (h : f (pick v i) = g (pick v i)) : alter v i f = alter v i g := by
  by_cases hi : 1 ≤ i ∧ i ≤ n
  · rw [pick_of_within v hi.1 hi.2] at h
    rw [alter_of_within v f hi.1 hi.2, alter_of_within v g hi.1 hi.2, h]
  · rw [alter_outside v f (by omega), alter_outside v g (by omega)]

/-! ## The host link apart -/

/-- Two states alike but for the host link: the one is the other with its own host link put in. -/
theorem eq_with_host_of_butHost {s t : State} (h : t.butHost = s.butHost) : t = { s with host := t.host } :=
  calc t = { t.butHost with host := t.host } := rfl
    _ = { s.butHost with host := t.host } := by rw [h]
    _ = { s with host := t.host } := rfl

theorem sectionNotice_butHost (s : State) (n : Nat) (cause : SectionCause) :
    (s.sectionNotice n cause).butHost = s.butHost :=
  notify_butHost ..

/-! ## The debt dropped at a sync edge (R38) -/

/-- The debt and the status go whether or not a ROLLBACK notice tells of them. -/
theorem dropDebt_butHost (s : State) (n : Nat) :
    (s.dropDebt n).butHost = (s.modTracker n fun t => { t with debt := 0, saturated := false }).butHost := by
  unfold State.dropDebt
  dsimp only
  split
  · exact sectionNotice_butHost ..
  · rfl

theorem dropDebt_eq (s : State) (n : Nat) :
    s.dropDebt n = { s with
      trackers := alter s.trackers n fun t => { t with debt := 0, saturated := false }
      host := (s.dropDebt n).host } :=
  eq_with_host_of_butHost (dropDebt_butHost s n)

theorem dropDebt_trackers (s : State) (n : Nat) :
    (s.dropDebt n).trackers = alter s.trackers n fun t => { t with debt := 0, saturated := false } :=
  congrArg State.trackers (dropDebt_butHost s n)

/-- The phase that a sync edge judges is the one before its debt is dropped. -/
theorem dropDebt_phase (s : State) (n : Nat) :
    (pick (s.dropDebt n).trackers n).phase = (pick s.trackers n).phase := by
  rw [dropDebt_trackers, pick_alter]
  split <;> rfl

/-! ## A backward jump at a sync edge (R40, R57) -/

/-- The edge below ⌊P/2⌋ is a debt dropped, the tracker set to BACKWARD, and a backward jump of φ pulses. -/
theorem syncEdge_of_phase_below_half {s : State} {n : Nat} {d : SectionDef} (hpos : 0 < (pick s.trackers n).phase)
    (hlow : (pick s.trackers n).phase < d.pitch / 2) :
    s.syncEdge n d = ((s.dropDebt n).modTracker n fun t =>
        { t with phase := 0, lastSync := some (.backward, (pick s.trackers n).phase) }).backwardJump
      n (pick s.trackers n).phase d := by
  unfold State.syncEdge
  dsimp only
  rw [dropDebt_phase, if_neg hpos.ne', if_neg (Nat.not_le.mpr hlow)]

/-- The tracker after a backward jump, its size read off the tracker itself. -/
theorem syncEdge_backward_trackers (v : Vector Tracker 4) (n : Nat) :
    alter (alter v n fun t => { t with debt := 0, saturated := false }) n
        (fun t => { t with phase := 0, lastSync := some (.backward, (pick v n).phase) }) =
      alter v n fun t => { t with
        debt := 0, saturated := false, phase := 0, lastSync := some (.backward, t.phase) } := by
  rw [alter_alter]
  exact alter_congr_at v rfl

/-- Settles O42: below ⌊P/2⌋ the edge is a backward jump of φ pulses, and the host link hears of the dropped
debt alone. -/
theorem syncEdgeBackward : Obligations.SyncEdgeBackward := by
  intro s n d _ _ hpos hlow
  rw [syncEdge_of_phase_below_half hpos hlow, dropDebt_eq, ← syncEdge_backward_trackers]
  rfl

end Sys2Proof.Machine
end

section
/-! PROOFS. Delays: what an edge of the raw value, and the expiry of the timer, do under each delay kind (R109–R111). -/

namespace Sys2Proof.Machine

section DelayEdges

variable {e : EquationState} (d : Nat)

/-! ## Edges -/

theorem ne_raw_of_rise (h : e.raw = false) : true ≠ e.raw := by simp [h]

theorem ne_raw_of_fall (h : e.raw = true) : false ≠ e.raw := by simp [h]

/-- No edge, no change, whatever the delay. -/
@[simp] theorem takeRaw_raw (k : DelayKind) (e : EquationState) : takeRaw k e e.raw = e := if_pos rfl

/-! ## NONE and ON-DELAY (R109) -/

theorem takeRaw_none_edge {now : Bool} (h : e.raw ≠ now) :
    takeRaw .none e now = { e with raw := now, output := now } :=
  if_neg h.symm

theorem takeRaw_onDelay_rise (h : e.raw = false) :
    takeRaw (.onDelay d) e true = { e with raw := true, timer := some d } :=
  if_neg (ne_raw_of_rise h)

theorem takeRaw_onDelay_fall (h : e.raw = true) :
    takeRaw (.onDelay d) e false = { e with raw := false, timer := none, output := false } :=
  if_neg (ne_raw_of_fall h)

theorem takeExpiry_onDelay (e : EquationState) :
    takeExpiry (.onDelay d) e = { e with timer := none, output := true } := rfl

/-! ## OFF-DELAY (R110) -/

theorem takeRaw_offDelay_rise (h : e.raw = false) :
    takeRaw (.offDelay d) e true = { e with raw := true, timer := none, output := true } :=
  if_neg (ne_raw_of_rise h)

theorem takeRaw_offDelay_fall (h : e.raw = true) :
    takeRaw (.offDelay d) e false = { e with raw := false, timer := some d } :=
  if_neg (ne_raw_of_fall h)

theorem takeExpiry_offDelay (e : EquationState) :
    takeExpiry (.offDelay d) e = { e with timer := none, output := false } := rfl

/-! ## PULSE (R111) -/

/-- At an edge a pulse begins exactly when the edge rises and no timer runs; the rest of the edges change the raw
value alone. -/
theorem takeRaw_pulse_edge {now : Bool} (h : now ≠ e.raw) :
    takeRaw (.pulse d) e now =
      if now && e.timer.isNone then { e with raw := now, timer := some d, output := true } else { e with raw := now } :=
  if_neg h

theorem takeRaw_pulse_rise_of_timer_absent (h : e.raw = false) (ht : e.timer = none) :
    takeRaw (.pulse d) e true = { e with raw := true, timer := some d, output := true } := by
  rw [takeRaw_pulse_edge d (ne_raw_of_rise h), if_pos (by simp [ht])]

theorem takeRaw_pulse_rise_of_timer_present (h : e.raw = false) (ht : e.timer ≠ none) :
    takeRaw (.pulse d) e true = { e with raw := true } := by
  rw [takeRaw_pulse_edge d (ne_raw_of_rise h), if_neg (by simp [ht])]

theorem takeRaw_pulse_fall (h : e.raw = true) : takeRaw (.pulse d) e false = { e with raw := false } :=
  takeRaw_pulse_edge d (ne_raw_of_fall h)

theorem takeExpiry_pulse (e : EquationState) :
    takeExpiry (.pulse d) e = { e with timer := none, output := false } := rfl

end DelayEdges

/-- Settles O54: the equations of the four delay kinds, each at its edges and at its expiry. -/
theorem delayEdgesTaken : Obligations.DelayEdgesTaken := fun d e =>
  ⟨fun _ => takeRaw_none_edge,
    takeRaw_onDelay_rise d, takeRaw_onDelay_fall d, takeExpiry_onDelay d e,
    takeRaw_offDelay_rise d, takeRaw_offDelay_fall d, takeExpiry_offDelay d e,
    takeRaw_pulse_rise_of_timer_absent d, takeRaw_pulse_rise_of_timer_present d, takeRaw_pulse_fall d,
    takeExpiry_pulse d e, fun k => takeRaw_raw k e⟩

end Sys2Proof.Machine
end

section
/-! PROOFS. Shared: what the shared operations leave unchanged, field by field; what a board, a field and the host link
show of a change; and stop logic after each of its operations. -/

namespace Sys2Proof.Machine

/-! ## Banks -/

theorem pick_alter_within {α : Type} [Inhabited α] {n i j : Nat} (v : Vector α n) (f : α → α) (h1 : 1 ≤ j) (h2 : j ≤ n) :
    pick (alter v i f) j = if j = i then f (pick v j) else pick v j := by
  rw [pick_alter]
  by_cases h : j = i
  · subst h; rw [if_pos ⟨rfl, h1, h2⟩, if_pos rfl]
  · rw [if_neg (fun c => h c.1), if_neg h]

/-- A change that leaves the thing at the place as it is leaves the bank as it is. -/
theorem alter_fixed {α : Type} [Inhabited α] {n i : Nat} (v : Vector α n) {f : α → α} (h : f (pick v i) = pick v i) :
    alter v i f = v := by
  rw [alter_congr_at v (g := id) h]
  by_cases hi : 1 ≤ i ∧ i ≤ n
  · rw [alter_of_within _ _ hi.1 hi.2]; simp
  · rw [alter_outside _ _ (by omega)]

/-- Banks that agree at each of their numbers are one. -/
theorem bank_ext {α : Type} [Inhabited α] {n : Nat} {v w : Vector α n} (h : ∀ i, 1 ≤ i → i ≤ n → pick v i = pick w i) :
    v = w := by
  apply Vector.ext
  intro i hi
  have := h (i + 1) (by omega) (by omega)
  rwa [pick_of_within _ (by omega) (by omega), pick_of_within _ (by omega) (by omega)] at this

/-! ## What the shared operations leave unchanged -/

section Unchanged

variable (s : State) (n : Notice) (cs : List Change) (zs : List Nat) (p : FieldKind → Bool) (e : HistoryEntry)

@[simp] theorem notify_mode : (s.notify n).mode = s.mode := (congrArg State.mode (notify_butHost s n) :)
@[simp] theorem notify_defs : (s.notify n).defs = s.defs := (congrArg State.defs (notify_butHost s n) :)
@[simp] theorem notify_calls : (s.notify n).calls = s.calls := (congrArg State.calls (notify_butHost s n) :)
@[simp] theorem notify_stops : (s.notify n).stops = s.stops := (congrArg State.stops (notify_butHost s n) :)
@[simp] theorem notify_stations : (s.notify n).stations = s.stations := (congrArg State.stations (notify_butHost s n) :)
@[simp] theorem notify_timeOfDay : (s.notify n).timeOfDay = s.timeOfDay := (congrArg State.timeOfDay (notify_butHost s n) :)
@[simp] theorem notify_loopA : (s.notify n).loopA = s.loopA := (congrArg State.loopA (notify_butHost s n) :)
@[simp] theorem notify_loopB : (s.notify n).loopB = s.loopB := (congrArg State.loopB (notify_butHost s n) :)
@[simp] theorem notify_shiftState : (s.notify n).shiftState = s.shiftState :=
  (congrArg State.shiftState (notify_butHost s n) :)
@[simp] theorem notify_shift : (s.notify n).shift = s.shift := (congrArg State.shift (notify_butHost s n) :)
@[simp] theorem notify_history : (s.notify n).history = s.history := (congrArg State.history (notify_butHost s n) :)
@[simp] theorem notify_nextSeq : (s.notify n).nextSeq = s.nextSeq := (congrArg State.nextSeq (notify_butHost s n) :)
@[simp] theorem notify_overflowCount : (s.notify n).overflowCount = s.overflowCount :=
  (congrArg State.overflowCount (notify_butHost s n) :)
@[simp] theorem notify_staleTimer : (s.notify n).staleTimer = s.staleTimer :=
  (congrArg State.staleTimer (notify_butHost s n) :)
@[simp] theorem notify_arrivalCount : (s.notify n).arrivalCount = s.arrivalCount :=
  (congrArg State.arrivalCount (notify_butHost s n) :)
@[simp] theorem notify_lastNumber : (s.notify n).lastNumber = s.lastNumber :=
  (congrArg State.lastNumber (notify_butHost s n) :)
@[simp] theorem notify_trackers : (s.notify n).trackers = s.trackers := (congrArg State.trackers (notify_butHost s n) :)
@[simp] theorem notify_inputs : (s.notify n).inputs = s.inputs := (congrArg State.inputs (notify_butHost s n) :)
@[simp] theorem notify_boards : (s.notify n).boards = s.boards := (congrArg State.boards (notify_butHost s n) :)
@[simp] theorem notify_fields : (s.notify n).fields = s.fields := (congrArg State.fields (notify_butHost s n) :)
@[simp] theorem notify_equations : (s.notify n).equations = s.equations :=
  (congrArg State.equations (notify_butHost s n) :)
@[simp] theorem notify_flags : (s.notify n).flags = s.flags := (congrArg State.flags (notify_butHost s n) :)
@[simp] theorem notify_relays : (s.notify n).relays = s.relays := (congrArg State.relays (notify_butHost s n) :)
@[simp] theorem notify_tunes : (s.notify n).tunes = s.tunes := (congrArg State.tunes (notify_butHost s n) :)

@[simp] theorem handOn_mode : (s.handOn cs).mode = s.mode := (congrArg State.mode (handOn_butEquations s cs) :)
@[simp] theorem handOn_defs : (s.handOn cs).defs = s.defs := (congrArg State.defs (handOn_butEquations s cs) :)
@[simp] theorem handOn_calls : (s.handOn cs).calls = s.calls := (congrArg State.calls (handOn_butEquations s cs) :)
@[simp] theorem handOn_stops : (s.handOn cs).stops = s.stops := (congrArg State.stops (handOn_butEquations s cs) :)
@[simp] theorem handOn_stations : (s.handOn cs).stations = s.stations := (congrArg State.stations (handOn_butEquations s cs) :)
@[simp] theorem handOn_timeOfDay : (s.handOn cs).timeOfDay = s.timeOfDay :=
  (congrArg State.timeOfDay (handOn_butEquations s cs) :)
@[simp] theorem handOn_loopA : (s.handOn cs).loopA = s.loopA := (congrArg State.loopA (handOn_butEquations s cs) :)
@[simp] theorem handOn_loopB : (s.handOn cs).loopB = s.loopB := (congrArg State.loopB (handOn_butEquations s cs) :)
@[simp] theorem handOn_shiftState : (s.handOn cs).shiftState = s.shiftState :=
  (congrArg State.shiftState (handOn_butEquations s cs) :)
@[simp] theorem handOn_shift : (s.handOn cs).shift = s.shift := (congrArg State.shift (handOn_butEquations s cs) :)
@[simp] theorem handOn_history : (s.handOn cs).history = s.history := (congrArg State.history (handOn_butEquations s cs) :)
@[simp] theorem handOn_nextSeq : (s.handOn cs).nextSeq = s.nextSeq := (congrArg State.nextSeq (handOn_butEquations s cs) :)
@[simp] theorem handOn_overflowCount : (s.handOn cs).overflowCount = s.overflowCount :=
  (congrArg State.overflowCount (handOn_butEquations s cs) :)
@[simp] theorem handOn_staleTimer : (s.handOn cs).staleTimer = s.staleTimer :=
  (congrArg State.staleTimer (handOn_butEquations s cs) :)
@[simp] theorem handOn_arrivalCount : (s.handOn cs).arrivalCount = s.arrivalCount :=
  (congrArg State.arrivalCount (handOn_butEquations s cs) :)
@[simp] theorem handOn_lastNumber : (s.handOn cs).lastNumber = s.lastNumber :=
  (congrArg State.lastNumber (handOn_butEquations s cs) :)
@[simp] theorem handOn_trackers : (s.handOn cs).trackers = s.trackers := (congrArg State.trackers (handOn_butEquations s cs) :)
@[simp] theorem handOn_inputs : (s.handOn cs).inputs = s.inputs := (congrArg State.inputs (handOn_butEquations s cs) :)
@[simp] theorem handOn_boards : (s.handOn cs).boards = s.boards := (congrArg State.boards (handOn_butEquations s cs) :)
@[simp] theorem handOn_fields : (s.handOn cs).fields = s.fields := (congrArg State.fields (handOn_butEquations s cs) :)
@[simp] theorem handOn_host : (s.handOn cs).host = s.host := (congrArg State.host (handOn_butEquations s cs) :)

@[simp] theorem announce_mode : (s.announce zs).mode = s.mode := (congrArg State.mode (announce_butLoops s zs) :)
@[simp] theorem announce_defs : (s.announce zs).defs = s.defs := (congrArg State.defs (announce_butLoops s zs) :)
@[simp] theorem announce_calls : (s.announce zs).calls = s.calls := (congrArg State.calls (announce_butLoops s zs) :)
@[simp] theorem announce_stops : (s.announce zs).stops = s.stops := (congrArg State.stops (announce_butLoops s zs) :)
@[simp] theorem announce_stations : (s.announce zs).stations = s.stations :=
  (congrArg State.stations (announce_butLoops s zs) :)
@[simp] theorem announce_timeOfDay : (s.announce zs).timeOfDay = s.timeOfDay :=
  (congrArg State.timeOfDay (announce_butLoops s zs) :)
@[simp] theorem announce_shiftState : (s.announce zs).shiftState = s.shiftState :=
  (congrArg State.shiftState (announce_butLoops s zs) :)
@[simp] theorem announce_shift : (s.announce zs).shift = s.shift := (congrArg State.shift (announce_butLoops s zs) :)
@[simp] theorem announce_history : (s.announce zs).history = s.history := (congrArg State.history (announce_butLoops s zs) :)
@[simp] theorem announce_nextSeq : (s.announce zs).nextSeq = s.nextSeq := (congrArg State.nextSeq (announce_butLoops s zs) :)
@[simp] theorem announce_overflowCount : (s.announce zs).overflowCount = s.overflowCount :=
  (congrArg State.overflowCount (announce_butLoops s zs) :)
@[simp] theorem announce_staleTimer : (s.announce zs).staleTimer = s.staleTimer :=
  (congrArg State.staleTimer (announce_butLoops s zs) :)
@[simp] theorem announce_arrivalCount : (s.announce zs).arrivalCount = s.arrivalCount :=
  (congrArg State.arrivalCount (announce_butLoops s zs) :)
@[simp] theorem announce_lastNumber : (s.announce zs).lastNumber = s.lastNumber :=
  (congrArg State.lastNumber (announce_butLoops s zs) :)
@[simp] theorem announce_boards : (s.announce zs).boards = s.boards := (congrArg State.boards (announce_butLoops s zs) :)
@[simp] theorem announce_fields : (s.announce zs).fields = s.fields := (congrArg State.fields (announce_butLoops s zs) :)
@[simp] theorem announce_host : (s.announce zs).host = s.host := (congrArg State.host (announce_butLoops s zs) :)

@[simp] theorem recompose_mode : (s.recompose p).mode = s.mode := (congrArg State.mode (recompose_butBoards s p) :)
@[simp] theorem recompose_defs : (s.recompose p).defs = s.defs := (congrArg State.defs (recompose_butBoards s p) :)
@[simp] theorem recompose_calls : (s.recompose p).calls = s.calls := (congrArg State.calls (recompose_butBoards s p) :)
@[simp] theorem recompose_stops : (s.recompose p).stops = s.stops := (congrArg State.stops (recompose_butBoards s p) :)
@[simp] theorem recompose_stations : (s.recompose p).stations = s.stations :=
  (congrArg State.stations (recompose_butBoards s p) :)
@[simp] theorem recompose_timeOfDay : (s.recompose p).timeOfDay = s.timeOfDay :=
  (congrArg State.timeOfDay (recompose_butBoards s p) :)
@[simp] theorem recompose_loopA : (s.recompose p).loopA = s.loopA := (congrArg State.loopA (recompose_butBoards s p) :)
@[simp] theorem recompose_loopB : (s.recompose p).loopB = s.loopB := (congrArg State.loopB (recompose_butBoards s p) :)
@[simp] theorem recompose_shiftState : (s.recompose p).shiftState = s.shiftState :=
  (congrArg State.shiftState (recompose_butBoards s p) :)
@[simp] theorem recompose_shift : (s.recompose p).shift = s.shift := (congrArg State.shift (recompose_butBoards s p) :)
@[simp] theorem recompose_history : (s.recompose p).history = s.history := (congrArg State.history (recompose_butBoards s p) :)
@[simp] theorem recompose_nextSeq : (s.recompose p).nextSeq = s.nextSeq := (congrArg State.nextSeq (recompose_butBoards s p) :)
@[simp] theorem recompose_overflowCount : (s.recompose p).overflowCount = s.overflowCount :=
  (congrArg State.overflowCount (recompose_butBoards s p) :)
@[simp] theorem recompose_staleTimer : (s.recompose p).staleTimer = s.staleTimer :=
  (congrArg State.staleTimer (recompose_butBoards s p) :)
@[simp] theorem recompose_arrivalCount : (s.recompose p).arrivalCount = s.arrivalCount :=
  (congrArg State.arrivalCount (recompose_butBoards s p) :)
@[simp] theorem recompose_lastNumber : (s.recompose p).lastNumber = s.lastNumber :=
  (congrArg State.lastNumber (recompose_butBoards s p) :)
@[simp] theorem recompose_trackers : (s.recompose p).trackers = s.trackers :=
  (congrArg State.trackers (recompose_butBoards s p) :)
@[simp] theorem recompose_host : (s.recompose p).host = s.host := (congrArg State.host (recompose_butBoards s p) :)

@[simp] theorem appendRecord_mode : (s.appendRecord e).mode = s.mode := (congrArg State.mode (appendRecord_butHistory s e) :)
@[simp] theorem appendRecord_defs : (s.appendRecord e).defs = s.defs := (congrArg State.defs (appendRecord_butHistory s e) :)
@[simp] theorem appendRecord_calls : (s.appendRecord e).calls = s.calls :=
  (congrArg State.calls (appendRecord_butHistory s e) :)
@[simp] theorem appendRecord_stops : (s.appendRecord e).stops = s.stops :=
  (congrArg State.stops (appendRecord_butHistory s e) :)
@[simp] theorem appendRecord_stations : (s.appendRecord e).stations = s.stations :=
  (congrArg State.stations (appendRecord_butHistory s e) :)
@[simp] theorem appendRecord_timeOfDay : (s.appendRecord e).timeOfDay = s.timeOfDay :=
  (congrArg State.timeOfDay (appendRecord_butHistory s e) :)
@[simp] theorem appendRecord_loopA : (s.appendRecord e).loopA = s.loopA :=
  (congrArg State.loopA (appendRecord_butHistory s e) :)
@[simp] theorem appendRecord_loopB : (s.appendRecord e).loopB = s.loopB :=
  (congrArg State.loopB (appendRecord_butHistory s e) :)
@[simp] theorem appendRecord_boards : (s.appendRecord e).boards = s.boards :=
  (congrArg State.boards (appendRecord_butHistory s e) :)
@[simp] theorem appendRecord_fields : (s.appendRecord e).fields = s.fields :=
  (congrArg State.fields (appendRecord_butHistory s e) :)
@[simp] theorem appendRecord_arrivalCount : (s.appendRecord e).arrivalCount = s.arrivalCount :=
  (congrArg State.arrivalCount (appendRecord_butHistory s e) :)
@[simp] theorem appendRecord_lastNumber : (s.appendRecord e).lastNumber = s.lastNumber :=
  (congrArg State.lastNumber (appendRecord_butHistory s e) :)

end Unchanged

/-! ## Stop logic after its operations (R58–R64) -/

/-- R61: the stop request in line with its causes; an assertion sets the coast count to 0. -/
def StopLogic.lined (x : StopLogic) : StopLogic :=
  { x with request := x.hasCause, coast := if x.hasCause && !x.request then 0 else x.coast }

/-- R62: restart pending set, where the section is MANUAL and has no cause left. -/
def StopLogic.restarts (isManual : Bool) (x : StopLogic) : StopLogic :=
  if x.holdOrder.isEmpty && !x.overflow && isManual && !x.pending then { x with pending := true } else x

/-- R31: the section is defined with the restart mode MANUAL. -/
def manual (s : State) (n : Nat) : Bool := match s.sectionDef n with
  | some d => d.restart == .manual
  | none => false

theorem manual_iff {s : State} {n : Nat} : manual s n = true ↔ ∃ d, s.sectionDef n = some d ∧ d.restart = .manual := by
  unfold manual; split <;> simp_all

theorem manual_congr {s t : State} (h : t.defs = s.defs) (n : Nat) : manual t n = manual s n := by
  unfold manual State.sectionDef; rw [h]

theorem StopLogic.lined_of_inLine {x : StopLogic} (h : x.hasCause = x.request) : x.lined = x := by
  obtain ⟨order, overflow, waiting, pending, request, coast, unattributed⟩ := x
  have h : _ = request := h
  simp [lined, h]

@[simp] theorem StopLogic.lined_hasCause (x : StopLogic) : x.lined.hasCause = x.hasCause := rfl
@[simp] theorem StopLogic.lined_request (x : StopLogic) : x.lined.request = x.hasCause := rfl
@[simp] theorem StopLogic.lined_holdOrder (x : StopLogic) : x.lined.holdOrder = x.holdOrder := rfl

@[simp] theorem StopLogic.restarts_holdOrder (m : Bool) (x : StopLogic) : (x.restarts m).holdOrder = x.holdOrder := by
  unfold restarts; split <;> rfl

theorem assertRequest_stops (s : State) (n : Nat) :
    (s.assertRequest n).stops = alter s.stops n fun x => { x with request := true, coast := 0 } := by
  simp [State.assertRequest, State.sectionNotice]

theorem releaseRequest_stops (s : State) (n : Nat) :
    (s.releaseRequest n).stops = alter s.stops n fun x => { x with request := false } := by
  simp [State.releaseRequest, State.sectionNotice]

theorem lineUp_stops (s : State) (n : Nat) : (s.lineUp n).stops = alter s.stops n StopLogic.lined := by
  unfold State.lineUp
  dsimp only
  split
  · next h => exact (alter_fixed _ (StopLogic.lined_of_inLine (by simpa using h))).symm
  · next h =>
    have hne : (pick s.stops n).hasCause ≠ (pick s.stops n).request := by simpa using h
    split
    · next hc =>
      rw [assertRequest_stops]
      refine alter_congr_at _ ?_
      have : (pick s.stops n).request = false := by simpa [hc] using hne.symm
      simp [StopLogic.lined, hc, this]
    · next hc =>
      rw [releaseRequest_stops]
      refine alter_congr_at _ ?_
      simp [StopLogic.lined, hc]

theorem causeLeft_stops (s : State) (n : Nat) :
    (s.causeLeft n).stops = alter s.stops n fun x => (x.restarts (manual s n)).lined := by
  show (if (pick s.stops n).holdOrder.isEmpty && !(pick s.stops n).overflow && manual s n && !(pick s.stops n).pending
    then _ else s.lineUp n : State).stops = _
  split
  · next h =>
    rw [lineUp_stops]
    simp only [State.sectionNotice, notify_stops, handOn_stops, modStop_stops, alter_alter]
    exact alter_congr_at _ (by unfold StopLogic.restarts; rw [if_pos h])
  · next h =>
    rw [lineUp_stops]
    exact alter_congr_at _ (by unfold StopLogic.restarts; rw [if_neg h])

theorem giveRestart_stops (s : State) (n : Nat) :
    (s.giveRestart n).stops = alter s.stops n fun x => StopLogic.lined { x with pending := false } := by
  simp only [State.giveRestart, lineUp_stops, handOn_stops, modStop_stops, alter_alter]

theorem enterHold_stops (s : State) (n k : Nat) :
    (s.enterHold n k).stops = alter s.stops n fun x => { x with holdOrder := x.holdOrder ++ [k] } := by
  unfold State.enterHold; dsimp only; split <;> simp

theorem leaveHold_stops (s : State) (n k : Nat) :
    (s.leaveHold n k).stops = alter s.stops n fun x => { x with holdOrder := x.holdOrder.erase k } := by
  unfold State.leaveHold; dsimp only; split <;> simp

/-- R63: stop logic after a mark is set for a station of its section. -/
def StopLogic.marked (x : StopLogic) : StopLogic :=
  if x.waiting = 0 then StopLogic.lined { x with waiting := 1, overflow := true } else { x with waiting := x.waiting + 1 }

/-- R62, R63: stop logic after a mark is cleared for a station of its section. -/
def StopLogic.unmarked (isManual : Bool) (x : StopLogic) : StopLogic :=
  if x.waiting ≤ 1 then (StopLogic.restarts isManual { x with waiting := x.waiting - 1, overflow := false }).lined
  else { x with waiting := x.waiting - 1 }

theorem waitingRises_stops (s : State) (n : Nat) : (s.waitingRises n).stops = alter s.stops n StopLogic.marked := by
  unfold State.waitingRises
  dsimp only
  split
  · next h =>
    have h : (pick s.stops n).waiting = 0 := by simpa using h
    simp only [lineUp_stops, notify_stops, handOn_stops, modStop_stops, alter_alter]
    exact alter_congr_at _ (by simp [StopLogic.marked, h])
  · next h =>
    have h : (pick s.stops n).waiting ≠ 0 := by simpa using h
    simp only [modStop_stops]
    exact alter_congr_at _ (by simp [StopLogic.marked, h])

theorem waitingFalls_stops (s : State) (n : Nat) :
    (s.waitingFalls n).stops = alter s.stops n (StopLogic.unmarked (manual s n)) := by
  unfold State.waitingFalls
  dsimp only
  split
  · next h =>
    have h : (pick s.stops n).waiting ≤ 1 := by simpa using h
    rw [causeLeft_stops, manual_congr (by simp : _ = s.defs)]
    simp only [notify_stops, handOn_stops, modStop_stops, alter_alter]
    exact alter_congr_at _ (by simp [StopLogic.unmarked, h])
  · next h =>
    have h : ¬ (pick s.stops n).waiting ≤ 1 := by simpa using h
    simp only [modStop_stops]
    exact alter_congr_at _ (by simp [StopLogic.unmarked, h])

end Sys2Proof.Machine
end

section
/-! PROOFS. SharedOperations: the operations on calls, holds and the shift are made of a few others (a notice, a change
handed to the equation unit, the announcements, the recomposed fields, a record of the history queue, and changes of the
tables themselves). What those do not disturb, none of the operations disturbs. -/

namespace Sys2Proof.Machine

/-- All but the call table, stop logic and the stations. -/
def State.butTable (s : State) : State :=
  { s with calls := [], lastNumber := 0, arrivalCount := 0, stops := Vector.replicate 4 startStop
           stations := Vector.replicate 96 startStation }

/-- The second state is made from the first by shared operations. -/
inductive ByOps : State → State → Prop
  | refl (s : State) : ByOps s s
  | trans {s t u : State} (h : ByOps s t) (k : ByOps t u) : ByOps s u
  | notify (s : State) (n : Notice) : ByOps s (s.notify n)
  | handOn (s : State) (cs : List Change) : ByOps s (s.handOn cs)
  | announce (s : State) (zs : List Nat) : ByOps s (s.announce zs)
  | recompose (s : State) (p : FieldKind → Bool) : ByOps s (s.recompose p)
  | appendRecord (s : State) (e : HistoryEntry) : ByOps s (s.appendRecord e)
  | table {s t : State} (h : t.butTable = s.butTable) : ByOps s t
  | modShift (s : State) (f : Shift → Shift) : ByOps s (s.modShift f)

namespace ByOps

theorem ite {s t u : State} {c : Prop} [Decidable c] (h : ByOps s t) (k : ByOps s u) :
    ByOps s (if c then t else u) := by
  split
  · exact h
  · exact k

theorem modStop (s : State) (n : Nat) (f : StopLogic → StopLogic) : ByOps s (s.modStop n f) := .table rfl

theorem modStation (s : State) (n : Nat) (f : Station → Station) : ByOps s (s.modStation n f) := .table rfl

theorem modCall (s : State) (n : Nat) (f : Call → Call) : ByOps s (s.modCall n f) := .table rfl

theorem insertRecord (s : State) (c : Call) : ByOps s (s.insertRecord c) := .ite (.table rfl) (.table rfl)

theorem handBehind (s b : State) : ByOps s (s.handBehind b) := by
  unfold State.handBehind; split
  · exact .refl s
  · exact ByOps.handOn ..

theorem composeAccount (s : State) : ByOps s s.composeAccount := by
  unfold State.composeAccount; split
  · exact .refl s
  · exact ByOps.recompose ..

theorem sectionNotice (s : State) (n : Nat) (c : SectionCause) : ByOps s (s.sectionNotice n c) := ByOps.notify ..

theorem assertRequest (s : State) (n : Nat) : ByOps s (s.assertRequest n) :=
  (ByOps.modStop ..).trans (((ByOps.handOn ..).trans (ByOps.announce ..)).trans (ByOps.sectionNotice ..))

theorem releaseRequest (s : State) (n : Nat) : ByOps s (s.releaseRequest n) :=
  (ByOps.modStop ..).trans (((ByOps.handOn ..).trans (ByOps.announce ..)).trans (ByOps.sectionNotice ..))

theorem lineUp (s : State) (n : Nat) : ByOps s (s.lineUp n) := by
  unfold State.lineUp; dsimp only
  split
  · exact .refl s
  · split
    · exact ByOps.assertRequest ..
    · exact ByOps.releaseRequest ..

theorem causeLeft (s : State) (n : Nat) : ByOps s (s.causeLeft n) := by
  unfold State.causeLeft
  exact .ite ((ByOps.modStop ..).trans (((ByOps.handOn ..).trans (ByOps.sectionNotice ..)).trans (ByOps.lineUp ..)))
    (ByOps.lineUp ..)

theorem giveRestart (s : State) (n : Nat) : ByOps s (s.giveRestart n) :=
  (ByOps.modStop ..).trans ((ByOps.handOn ..).trans (ByOps.lineUp ..))

theorem enterHold (s : State) (n k : Nat) : ByOps s (s.enterHold n k) := by
  unfold State.enterHold; dsimp only; split
  · exact (ByOps.modStop ..).trans (ByOps.handOn ..)
  · exact ByOps.modStop ..

theorem leaveHold (s : State) (n k : Nat) : ByOps s (s.leaveHold n k) := by
  unfold State.leaveHold; dsimp only; split
  · exact (ByOps.modStop ..).trans (ByOps.handOn ..)
  · exact ByOps.modStop ..

theorem waitingRises (s : State) (n : Nat) : ByOps s (s.waitingRises n) := by
  unfold State.waitingRises; dsimp only; split
  · exact (ByOps.modStop ..).trans (((ByOps.handOn ..).trans (ByOps.notify ..)).trans (ByOps.lineUp ..))
  · exact ByOps.modStop ..

theorem waitingFalls (s : State) (n : Nat) : ByOps s (s.waitingFalls n) := by
  unfold State.waitingFalls; dsimp only; split
  · exact (ByOps.modStop ..).trans (((ByOps.handOn ..).trans (ByOps.notify ..)).trans (ByOps.causeLeft ..))
  · exact ByOps.modStop ..

theorem markWaiting (s : State) (n : Nat) : ByOps s (s.markWaiting n) := by
  unfold State.markWaiting; split
  · exact .refl s
  · exact (ByOps.modStation ..).trans (ByOps.waitingRises ..)

theorem clearWaiting (s : State) (n : Nat) : ByOps s (s.clearWaiting n) := by
  unfold State.clearWaiting; split
  · exact .refl s
  · exact (ByOps.modStation ..).trans (ByOps.waitingFalls ..)

theorem callsChanged (s : State) (c : Call) (full : Bool) : ByOps s (s.callsChanged c full) := by
  unfold State.callsChanged; dsimp only
  split
  · exact (ByOps.modStation ..).trans ((ByOps.handOn ..).trans (ByOps.recompose ..))
  · exact (ByOps.handOn ..).trans (ByOps.recompose ..)

theorem callNotice (s : State) (x : CallChange) (o : Option Closing) (c : Call) :
    ByOps s (s.callNotice x o c) := ByOps.notify ..

theorem noticeOf (s : State) (x : CallChange) (n : Nat) : ByOps s (s.noticeOf x n) := by
  unfold State.noticeOf; split
  · exact ByOps.callNotice ..
  · exact .refl s

theorem tableNotice (s : State) : ByOps s s.tableNotice := ByOps.notify ..

theorem createCall (s : State) (o : Origin) (cls zone : Nat) (w : Option Nat) :
    ByOps s (s.createCall o cls zone w) := by
  have entered : ∀ t : State, ∀ c : Call, ByOps t (if c.state = .holding then t.enterHold c.sec c.number else t) :=
    fun t _ => .ite (ByOps.enterHold ..) (.refl t)
  have told : ∀ t : State, ∀ c : Call, ByOps t ((t.callsChanged c (tableFull t)).noticeOf .new c.number) :=
    fun _ _ => (ByOps.callsChanged ..).trans (ByOps.noticeOf ..)
  have full : ∀ t : State, ByOps t (if tableFull t then t.tableNotice else t) := fun t =>
    .ite (ByOps.tableNotice t) (.refl t)
  have held : ∀ t : State, ∀ c : Call, ByOps t (if c.state = .holding then t.lineUp c.sec else t) :=
    fun t _ => .ite (ByOps.lineUp ..) (.refl t)
  exact (ByOps.insertRecord s (newRecord s o cls zone w)).trans
    ((entered _ _).trans ((told _ _).trans ((full _).trans (held _ _))))

theorem repeatCall (s : State) (c : Call) : ByOps s (s.repeatCall c) := by
  unfold State.repeatCall
  exact (((ByOps.modCall s c.number _).trans (.ite (ByOps.enterHold ..) (.refl _))).trans
    ((ByOps.callsChanged ..).trans (ByOps.noticeOf ..))).trans (.ite (ByOps.lineUp ..) (.refl _))

theorem answerCall (s : State) (c : Call) : ByOps s (s.answerCall c) := by
  unfold State.answerCall; dsimp only; split
  · exact .refl s
  · exact (ByOps.modCall ..).trans ((ByOps.callsChanged ..).trans (ByOps.noticeOf ..))

theorem carryCall (s : State) (c : Call) : ByOps s (s.carryCall c) := by
  unfold State.carryCall
  exact (((ByOps.modCall s c.number _).trans (.ite (ByOps.leaveHold ..) (.refl _))).trans
    ((ByOps.callsChanged ..).trans (ByOps.noticeOf ..))).trans (.ite (ByOps.causeLeft ..) (.refl _))

theorem closeCall (s : State) (o : Closing) (b : Bool) (c : Call) : ByOps s (s.closeCall o b c) := by
  have left : ByOps s (if c.state = .holding then
      if b then (s.leaveHold c.sec c.number).causeLeft c.sec else s.leaveHold c.sec c.number else s) :=
    .ite (.ite ((ByOps.leaveHold ..).trans (ByOps.causeLeft ..)) (ByOps.leaveHold ..)) (.refl s)
  have removed : ∀ t : State, ByOps t { t with calls := t.calls.filter fun x => x.number != c.number } :=
    fun _ => .table rfl
  have told : ∀ t : State, ByOps t ((t.callsChanged c (tableFull s)).callNotice .close (some o) c) :=
    fun _ => (ByOps.callsChanged ..).trans (ByOps.callNotice ..)
  have full : ∀ t : State, ByOps t (if tableFull s then t.tableNotice else t) := fun t =>
    .ite (ByOps.tableNotice t) (.refl t)
  exact left.trans ((ByOps.appendRecord ..).trans ((removed _).trans ((told _).trans (full _))))

theorem closeNumber (s : State) (o : Closing) (b : Bool) (k : Nat) : ByOps s (s.closeNumber o b k) := by
  unfold State.closeNumber; split
  · exact ByOps.closeCall ..
  · exact .refl s

theorem expireStop (s : State) (k : Nat) : ByOps s (s.expireStop k) := by
  unfold State.expireStop; split
  · exact .refl s
  · exact (ByOps.modCall ..).trans ((ByOps.enterHold ..).trans
      (((ByOps.callsChanged ..).trans (ByOps.noticeOf ..)).trans (ByOps.lineUp ..)))

theorem climb (s : State) (k : Nat) : ByOps s (s.climb k) := by
  unfold State.climb; split
  · exact .refl s
  · exact (ByOps.modCall ..).trans ((ByOps.callsChanged ..).trans (ByOps.noticeOf ..))

theorem dropOrphans (s : State) (n : Nat) : ByOps s (s.dropOrphans n) :=
  foldl_holds (ByOps s) _ (fun _ k ht => ht.trans (ByOps.closeNumber _ .dropped true k)) _ _ (.refl s)

theorem shiftNotice (s : State) (c : ShiftCause) : ByOps s (s.shiftNotice c) := by
  unfold State.shiftNotice; split
  · exact ByOps.notify ..
  · exact .refl s

theorem shiftChanged (s : State) : ByOps s s.shiftChanged :=
  ((ByOps.announce ..).trans (ByOps.handOn ..)).trans (ByOps.recompose ..)

theorem bodyProduced (s : State) : ByOps s s.bodyProduced := by
  unfold State.bodyProduced; dsimp only; split
  · exact .refl s
  · exact (ByOps.modShift s _).trans ((ByOps.handBehind ..).trans (ByOps.recompose ..))

theorem countRose (s : State) (n : Nat) (a : ActualSource) : ByOps s (s.countRose n a) := by
  unfold State.countRose; split
  · exact ByOps.bodyProduced s
  · exact .refl s

end ByOps

/-- All that the shared operations leave as it is. -/
def State.butOps (s : State) : State :=
  { s with equations := Vector.replicate 48 startEquation, flags := Vector.replicate 32 false
           relays := Vector.replicate 8 false, tunes := Vector.replicate 4 0
           loopA := startLoop, loopB := startLoop, stops := Vector.replicate 4 startStop, host := startHost
           boards := Vector.replicate 8 startBoard, fields := Vector.replicate 8 (Vector.replicate 12 startField)
           calls := [], stations := Vector.replicate 96 startStation, lastNumber := 0, arrivalCount := 0
           history := [], nextSeq := 0, overflowCount := 0, staleTimer := none, shift := none }

theorem ByOps.view {s t : State} (h : ByOps s t) : t.butOps = s.butOps := by
  induction h with
  | refl s => rfl
  | trans _ _ h k => exact k.trans h
  | notify s n => exact (congrArg State.butOps (notify_butHost s n) :)
  | handOn s cs => exact (congrArg State.butOps (handOn_butEquations s cs) :)
  | announce s zs => exact (congrArg State.butOps (announce_butLoops s zs) :)
  | recompose s p => exact (congrArg State.butOps (recompose_butBoards s p) :)
  | appendRecord s e => exact (congrArg State.butOps (appendRecord_butHistory s e) :)
  | table h => exact (congrArg State.butOps h :)
  | modShift s f => rfl

namespace ByOps

variable {s t : State} (h : ByOps s t)
include h

theorem mode : t.mode = s.mode := (congrArg State.mode h.view :)
theorem defs : t.defs = s.defs := (congrArg State.defs h.view :)
theorem shiftState : t.shiftState = s.shiftState := (congrArg State.shiftState h.view :)
theorem timeOfDay : t.timeOfDay = s.timeOfDay := (congrArg State.timeOfDay h.view :)
theorem trackers : t.trackers = s.trackers := (congrArg State.trackers h.view :)
theorem inputs : t.inputs = s.inputs := (congrArg State.inputs h.view :)

end ByOps

end Sys2Proof.Machine
end

section
/-! PROOFS. Shown: what the boards, the fields and the host link show of a change of the state (R107, R163, R183), and the
answer that a request at its turn gets after the notices of its handling (R186). -/

namespace Sys2Proof.Machine

/-! ## Notices alone on the host link (R183) -/

/-- R183: between the two host links notices alone have entered the outbound queue, or been lost. -/
structure HostLink.Notified (h k : HostLink) : Prop where
  outbound : ∃ notices, k.outbound = h.outbound ++ notices
  rest : k = { h with outbound := k.outbound, sending := k.sending, lostNotices := k.lostNotices }
  room : k.outbound.length ≤ max 24 h.outbound.length
  lost : min 65535 h.lostNotices ≤ k.lostNotices

theorem HostLink.Notified.refl (h : HostLink) : h.Notified h :=
  ⟨⟨[], by simp⟩, rfl, Nat.le_max_right .., Nat.min_le_right ..⟩

theorem HostLink.Notified.trans {h k l : HostLink} (hk : h.Notified k) (kl : k.Notified l) : h.Notified l := by
  obtain ⟨⟨ns, h1⟩, h2, h3, h4⟩ := hk
  obtain ⟨⟨ms, k1⟩, k2, k3, k4⟩ := kl
  refine ⟨⟨ns ++ ms, by rw [k1, h1, List.append_assoc]⟩, ?_, by omega, by omega⟩
  rw [k2, h2]

theorem notify_notified (s : State) (n : Notice) : s.host.Notified (s.notify n).host := by
  unfold State.notify
  split
  · split
    · next hroom =>
      refine ⟨⟨[_], rfl⟩, rfl, ?_, Nat.min_le_right ..⟩
      simp only [modHost_host, HostLink.enter, List.length_append, List.length_singleton, Config.noticeCapacity] at *
      omega
    · exact ⟨⟨[], by simp⟩, rfl, Nat.le_max_right .., by simp [saturate]⟩
  · exact .refl _

/-! ## What is shown of a change -/

/-- R107, R163, R183: of the boards only queues and refreshes owed differ, of the fields only last contents, and of the
host link what notices change. -/
structure Shows (s t : State) : Prop where
  boards : ∀ b, pick t.boards b =
    { pick s.boards b with queue := (pick t.boards b).queue, owed := (pick t.boards b).owed }
  fields : ∀ b f, pick (pick t.fields b) f = { pick (pick s.fields b) f with last := (pick (pick t.fields b) f).last }
  host : s.host.Notified t.host

theorem Shows.refl (s : State) : Shows s s := ⟨fun _ => rfl, fun _ _ => rfl, .refl _⟩

theorem Shows.trans {s t u : State} (h : Shows s t) (k : Shows t u) : Shows s u :=
  ⟨fun b => by rw [k.boards, h.boards], fun b f => by rw [k.fields, h.fields], h.host.trans k.host⟩

theorem Shows.ite {s t u : State} {c : Prop} [Decidable c] (h : Shows s t) (k : Shows s u) :
    Shows s (if c then t else u) := by
  split
  · exact h
  · exact k

/-- A change that leaves boards, fields and host link as they are shows nothing. -/
theorem Shows.of_eq {s t : State} (hb : t.boards = s.boards) (hf : t.fields = s.fields) (hh : t.host = s.host) :
    Shows s t := by
  refine ⟨fun b => ?_, fun b f => ?_, ?_⟩
  · rw [hb]
  · rw [hf]
  · rw [hh]; exact .refl _

theorem notify_shows (s : State) (n : Notice) : Shows s (s.notify n) :=
  ⟨fun b => by rw [notify_boards], fun b f => by rw [notify_fields], notify_notified s n⟩

theorem handOn_shows (s : State) (cs : List Change) : Shows s (s.handOn cs) := .of_eq (by simp) (by simp) (by simp)

theorem announce_shows (s : State) (zs : List Nat) : Shows s (s.announce zs) := .of_eq (by simp) (by simp) (by simp)

theorem enqueue_shown (depth : Nat) (fr : BoardFrame) (c : Content) (b : Board) :
    enqueue depth fr c b = { b with queue := (enqueue depth fr c b).queue, owed := (enqueue depth fr c b).owed } := by
  unfold enqueue; split <;> [rfl; split <;> [rfl; split <;> rfl]]

/-- The record of one field changed is read back in its place alone. -/
theorem pick_modField (s : State) (b f m k : Nat) (g : FieldState → FieldState) :
    pick (pick (s.modField b f g).fields m) k =
      if m = b ∧ k = f ∧ 1 ≤ b ∧ b ≤ 8 ∧ 1 ≤ f ∧ f ≤ 12 then g (pick (pick s.fields m) k)
      else pick (pick s.fields m) k := by
  simp only [modField_fields, pick_alter]
  by_cases hm : m = b ∧ 1 ≤ b ∧ b ≤ 8
  · obtain ⟨rfl, hb⟩ := hm
    simp only [true_and, if_pos hb, pick_alter]
    by_cases hk : k = f ∧ 1 ≤ f ∧ f ≤ 12
    · obtain ⟨rfl, hf⟩ := hk
      rw [if_pos ⟨rfl, hf⟩, if_pos ⟨rfl, hb.1, hb.2, hf⟩]
    · rw [if_neg hk, if_neg (fun c => hk ⟨c.1, c.2.2.2⟩)]
  · rw [if_neg hm, if_neg (fun c => hm ⟨c.1, c.2.2.1, c.2.2.2.1⟩)]

theorem modField_last_shows (s : State) (b f : Nat) (c : Option Content) :
    Shows s (s.modField b f fun x => { x with last := c }) := by
  refine ⟨fun m => by rw [modField_boards], fun m k => ?_, .refl _⟩
  rw [pick_modField]; split <;> rfl

theorem enqueue_shows (s : State) (b depth : Nat) (fr : BoardFrame) (c : Content) :
    Shows s (s.modBoard b (enqueue depth fr c)) := by
  refine ⟨fun m => ?_, fun m k => by rw [modBoard_fields], .refl _⟩
  simp only [modBoard_boards, pick_alter]
  split
  · next h => rw [← h.1]; exact enqueue_shown ..
  · rfl

theorem recomposeField_shows (s : State) (b f : Nat) : Shows s (recomposeField s b f) := by
  unfold recomposeField
  split
  · dsimp only
    split
    · exact .refl s
    · split
      · exact modField_last_shows ..
      · exact (modField_last_shows ..).trans (enqueue_shows ..)
  · exact .refl s

theorem recompose_shows (s : State) (p : FieldKind → Bool) : Shows s (s.recompose p) := by
  unfold State.recompose
  split
  · refine foldl_holds (Shows s) _ (fun t bf ht => ?_) _ _ (.refl s)
    split
    · split
      · exact ht.trans (recomposeField_shows ..)
      · exact ht
    · exact ht
  · exact .refl s

theorem historyOccasion_shows (s : State) (b : Bool) : Shows s (s.historyOccasion b) :=
  .trans (t := { s with staleTimer := some (staleLoad s) }) (.of_eq rfl rfl rfl) (notify_shows ..)

theorem appendRecord_shows (s : State) (e : HistoryEntry) : Shows s (s.appendRecord e) := by
  unfold State.appendRecord
  refine .ite (.ite (.trans ?_ (historyOccasion_shows ..)) ?_) (.trans ?_ (notify_shows ..)) <;>
    exact .of_eq rfl rfl rfl

/-- What the shared operations show. -/
theorem ByOps.shows {s t : State} (h : ByOps s t) : Shows s t := by
  induction h with
  | refl s => exact .refl s
  | trans _ _ h k => exact h.trans k
  | notify s n => exact notify_shows s n
  | handOn s cs => exact handOn_shows s cs
  | announce s zs => exact announce_shows s zs
  | recompose s p => exact recompose_shows s p
  | appendRecord s e => exact appendRecord_shows s e
  | table h => exact .of_eq (congrArg State.boards h :) (congrArg State.fields h :) (congrArg State.host h :)
  | modShift s f => exact .of_eq rfl rfl rfl

end Sys2Proof.Machine
end

section
/-! PROOFS. CallTable: the standing calls and stop logic after each operation on a call (R11–R24, R56, R99). -/

namespace Sys2Proof.Machine

/-! ## What stop logic leaves unchanged -/

@[simp] theorem lineUp_mode (s : State) (n : Nat) : (s.lineUp n).mode = s.mode :=
  (congrArg State.mode (lineUp_butStops s n) :)
@[simp] theorem lineUp_defs (s : State) (n : Nat) : (s.lineUp n).defs = s.defs :=
  (congrArg State.defs (lineUp_butStops s n) :)
@[simp] theorem lineUp_calls (s : State) (n : Nat) : (s.lineUp n).calls = s.calls :=
  (congrArg State.calls (lineUp_butStops s n) :)
@[simp] theorem lineUp_stations (s : State) (n : Nat) : (s.lineUp n).stations = s.stations :=
  (congrArg State.stations (lineUp_butStops s n) :)
@[simp] theorem lineUp_timeOfDay (s : State) (n : Nat) : (s.lineUp n).timeOfDay = s.timeOfDay :=
  (congrArg State.timeOfDay (lineUp_butStops s n) :)
@[simp] theorem lineUp_arrivalCount (s : State) (n : Nat) : (s.lineUp n).arrivalCount = s.arrivalCount :=
  (congrArg State.arrivalCount (lineUp_butStops s n) :)
@[simp] theorem lineUp_lastNumber (s : State) (n : Nat) : (s.lineUp n).lastNumber = s.lastNumber :=
  (congrArg State.lastNumber (lineUp_butStops s n) :)
@[simp] theorem lineUp_history (s : State) (n : Nat) : (s.lineUp n).history = s.history :=
  (congrArg State.history (lineUp_butStops s n) :)
@[simp] theorem lineUp_nextSeq (s : State) (n : Nat) : (s.lineUp n).nextSeq = s.nextSeq :=
  (congrArg State.nextSeq (lineUp_butStops s n) :)
@[simp] theorem lineUp_overflowCount (s : State) (n : Nat) : (s.lineUp n).overflowCount = s.overflowCount :=
  (congrArg State.overflowCount (lineUp_butStops s n) :)
@[simp] theorem lineUp_shiftState (s : State) (n : Nat) : (s.lineUp n).shiftState = s.shiftState :=
  (congrArg State.shiftState (lineUp_butStops s n) :)
@[simp] theorem lineUp_staleTimer (s : State) (n : Nat) : (s.lineUp n).staleTimer = s.staleTimer :=
  (congrArg State.staleTimer (lineUp_butStops s n) :)
@[simp] theorem causeLeft_mode (s : State) (n : Nat) : (s.causeLeft n).mode = s.mode :=
  (congrArg State.mode (causeLeft_butStops s n) :)
@[simp] theorem causeLeft_defs (s : State) (n : Nat) : (s.causeLeft n).defs = s.defs :=
  (congrArg State.defs (causeLeft_butStops s n) :)
@[simp] theorem causeLeft_calls (s : State) (n : Nat) : (s.causeLeft n).calls = s.calls :=
  (congrArg State.calls (causeLeft_butStops s n) :)
@[simp] theorem causeLeft_stations (s : State) (n : Nat) : (s.causeLeft n).stations = s.stations :=
  (congrArg State.stations (causeLeft_butStops s n) :)
@[simp] theorem causeLeft_timeOfDay (s : State) (n : Nat) : (s.causeLeft n).timeOfDay = s.timeOfDay :=
  (congrArg State.timeOfDay (causeLeft_butStops s n) :)
@[simp] theorem causeLeft_arrivalCount (s : State) (n : Nat) : (s.causeLeft n).arrivalCount = s.arrivalCount :=
  (congrArg State.arrivalCount (causeLeft_butStops s n) :)
@[simp] theorem causeLeft_lastNumber (s : State) (n : Nat) : (s.causeLeft n).lastNumber = s.lastNumber :=
  (congrArg State.lastNumber (causeLeft_butStops s n) :)
@[simp] theorem causeLeft_history (s : State) (n : Nat) : (s.causeLeft n).history = s.history :=
  (congrArg State.history (causeLeft_butStops s n) :)
@[simp] theorem causeLeft_nextSeq (s : State) (n : Nat) : (s.causeLeft n).nextSeq = s.nextSeq :=
  (congrArg State.nextSeq (causeLeft_butStops s n) :)
@[simp] theorem causeLeft_overflowCount (s : State) (n : Nat) : (s.causeLeft n).overflowCount = s.overflowCount :=
  (congrArg State.overflowCount (causeLeft_butStops s n) :)
@[simp] theorem causeLeft_shiftState (s : State) (n : Nat) : (s.causeLeft n).shiftState = s.shiftState :=
  (congrArg State.shiftState (causeLeft_butStops s n) :)
@[simp] theorem causeLeft_staleTimer (s : State) (n : Nat) : (s.causeLeft n).staleTimer = s.staleTimer :=
  (congrArg State.staleTimer (causeLeft_butStops s n) :)
@[simp] theorem enterHold_mode (s : State) (n k : Nat) : (s.enterHold n k).mode = s.mode :=
  (congrArg State.mode (enterHold_butStops s n k) :)
@[simp] theorem enterHold_defs (s : State) (n k : Nat) : (s.enterHold n k).defs = s.defs :=
  (congrArg State.defs (enterHold_butStops s n k) :)
@[simp] theorem enterHold_calls (s : State) (n k : Nat) : (s.enterHold n k).calls = s.calls :=
  (congrArg State.calls (enterHold_butStops s n k) :)
@[simp] theorem enterHold_stations (s : State) (n k : Nat) : (s.enterHold n k).stations = s.stations :=
  (congrArg State.stations (enterHold_butStops s n k) :)
@[simp] theorem enterHold_timeOfDay (s : State) (n k : Nat) : (s.enterHold n k).timeOfDay = s.timeOfDay :=
  (congrArg State.timeOfDay (enterHold_butStops s n k) :)
@[simp] theorem enterHold_arrivalCount (s : State) (n k : Nat) : (s.enterHold n k).arrivalCount = s.arrivalCount :=
  (congrArg State.arrivalCount (enterHold_butStops s n k) :)
@[simp] theorem enterHold_lastNumber (s : State) (n k : Nat) : (s.enterHold n k).lastNumber = s.lastNumber :=
  (congrArg State.lastNumber (enterHold_butStops s n k) :)
@[simp] theorem enterHold_history (s : State) (n k : Nat) : (s.enterHold n k).history = s.history :=
  (congrArg State.history (enterHold_butStops s n k) :)
@[simp] theorem enterHold_nextSeq (s : State) (n k : Nat) : (s.enterHold n k).nextSeq = s.nextSeq :=
  (congrArg State.nextSeq (enterHold_butStops s n k) :)
@[simp] theorem enterHold_overflowCount (s : State) (n k : Nat) : (s.enterHold n k).overflowCount = s.overflowCount :=
  (congrArg State.overflowCount (enterHold_butStops s n k) :)
@[simp] theorem enterHold_shiftState (s : State) (n k : Nat) : (s.enterHold n k).shiftState = s.shiftState :=
  (congrArg State.shiftState (enterHold_butStops s n k) :)
@[simp] theorem enterHold_staleTimer (s : State) (n k : Nat) : (s.enterHold n k).staleTimer = s.staleTimer :=
  (congrArg State.staleTimer (enterHold_butStops s n k) :)
@[simp] theorem leaveHold_mode (s : State) (n k : Nat) : (s.leaveHold n k).mode = s.mode :=
  (congrArg State.mode (leaveHold_butStops s n k) :)
@[simp] theorem leaveHold_defs (s : State) (n k : Nat) : (s.leaveHold n k).defs = s.defs :=
  (congrArg State.defs (leaveHold_butStops s n k) :)
@[simp] theorem leaveHold_calls (s : State) (n k : Nat) : (s.leaveHold n k).calls = s.calls :=
  (congrArg State.calls (leaveHold_butStops s n k) :)
@[simp] theorem leaveHold_stations (s : State) (n k : Nat) : (s.leaveHold n k).stations = s.stations :=
  (congrArg State.stations (leaveHold_butStops s n k) :)
@[simp] theorem leaveHold_timeOfDay (s : State) (n k : Nat) : (s.leaveHold n k).timeOfDay = s.timeOfDay :=
  (congrArg State.timeOfDay (leaveHold_butStops s n k) :)
@[simp] theorem leaveHold_arrivalCount (s : State) (n k : Nat) : (s.leaveHold n k).arrivalCount = s.arrivalCount :=
  (congrArg State.arrivalCount (leaveHold_butStops s n k) :)
@[simp] theorem leaveHold_lastNumber (s : State) (n k : Nat) : (s.leaveHold n k).lastNumber = s.lastNumber :=
  (congrArg State.lastNumber (leaveHold_butStops s n k) :)
@[simp] theorem leaveHold_history (s : State) (n k : Nat) : (s.leaveHold n k).history = s.history :=
  (congrArg State.history (leaveHold_butStops s n k) :)
@[simp] theorem leaveHold_nextSeq (s : State) (n k : Nat) : (s.leaveHold n k).nextSeq = s.nextSeq :=
  (congrArg State.nextSeq (leaveHold_butStops s n k) :)
@[simp] theorem leaveHold_overflowCount (s : State) (n k : Nat) : (s.leaveHold n k).overflowCount = s.overflowCount :=
  (congrArg State.overflowCount (leaveHold_butStops s n k) :)
@[simp] theorem leaveHold_shiftState (s : State) (n k : Nat) : (s.leaveHold n k).shiftState = s.shiftState :=
  (congrArg State.shiftState (leaveHold_butStops s n k) :)
@[simp] theorem leaveHold_staleTimer (s : State) (n k : Nat) : (s.leaveHold n k).staleTimer = s.staleTimer :=
  (congrArg State.staleTimer (leaveHold_butStops s n k) :)
@[simp] theorem giveRestart_mode (s : State) (n : Nat) : (s.giveRestart n).mode = s.mode :=
  (congrArg State.mode (giveRestart_butStops s n) :)
@[simp] theorem giveRestart_defs (s : State) (n : Nat) : (s.giveRestart n).defs = s.defs :=
  (congrArg State.defs (giveRestart_butStops s n) :)
@[simp] theorem giveRestart_calls (s : State) (n : Nat) : (s.giveRestart n).calls = s.calls :=
  (congrArg State.calls (giveRestart_butStops s n) :)
@[simp] theorem giveRestart_stations (s : State) (n : Nat) : (s.giveRestart n).stations = s.stations :=
  (congrArg State.stations (giveRestart_butStops s n) :)
@[simp] theorem giveRestart_timeOfDay (s : State) (n : Nat) : (s.giveRestart n).timeOfDay = s.timeOfDay :=
  (congrArg State.timeOfDay (giveRestart_butStops s n) :)
@[simp] theorem giveRestart_arrivalCount (s : State) (n : Nat) : (s.giveRestart n).arrivalCount = s.arrivalCount :=
  (congrArg State.arrivalCount (giveRestart_butStops s n) :)
@[simp] theorem waitingRises_mode (s : State) (n : Nat) : (s.waitingRises n).mode = s.mode :=
  (congrArg State.mode (waitingRises_butStops s n) :)
@[simp] theorem waitingRises_defs (s : State) (n : Nat) : (s.waitingRises n).defs = s.defs :=
  (congrArg State.defs (waitingRises_butStops s n) :)
@[simp] theorem waitingRises_calls (s : State) (n : Nat) : (s.waitingRises n).calls = s.calls :=
  (congrArg State.calls (waitingRises_butStops s n) :)
@[simp] theorem waitingRises_stations (s : State) (n : Nat) : (s.waitingRises n).stations = s.stations :=
  (congrArg State.stations (waitingRises_butStops s n) :)
@[simp] theorem waitingRises_timeOfDay (s : State) (n : Nat) : (s.waitingRises n).timeOfDay = s.timeOfDay :=
  (congrArg State.timeOfDay (waitingRises_butStops s n) :)
@[simp] theorem waitingRises_arrivalCount (s : State) (n : Nat) : (s.waitingRises n).arrivalCount = s.arrivalCount :=
  (congrArg State.arrivalCount (waitingRises_butStops s n) :)
@[simp] theorem waitingFalls_mode (s : State) (n : Nat) : (s.waitingFalls n).mode = s.mode :=
  (congrArg State.mode (waitingFalls_butStops s n) :)
@[simp] theorem waitingFalls_defs (s : State) (n : Nat) : (s.waitingFalls n).defs = s.defs :=
  (congrArg State.defs (waitingFalls_butStops s n) :)
@[simp] theorem waitingFalls_calls (s : State) (n : Nat) : (s.waitingFalls n).calls = s.calls :=
  (congrArg State.calls (waitingFalls_butStops s n) :)
@[simp] theorem waitingFalls_stations (s : State) (n : Nat) : (s.waitingFalls n).stations = s.stations :=
  (congrArg State.stations (waitingFalls_butStops s n) :)
@[simp] theorem waitingFalls_timeOfDay (s : State) (n : Nat) : (s.waitingFalls n).timeOfDay = s.timeOfDay :=
  (congrArg State.timeOfDay (waitingFalls_butStops s n) :)
@[simp] theorem waitingFalls_arrivalCount (s : State) (n : Nat) : (s.waitingFalls n).arrivalCount = s.arrivalCount :=
  (congrArg State.arrivalCount (waitingFalls_butStops s n) :)

/-! ## What a change of a call leaves unchanged -/

@[simp] theorem callsChanged_mode (s : State) (c : Call) (b : Bool) : (s.callsChanged c b).mode = s.mode :=
  (congrArg State.mode (callsChanged_butChange s c b) :)
@[simp] theorem callsChanged_defs (s : State) (c : Call) (b : Bool) : (s.callsChanged c b).defs = s.defs :=
  (congrArg State.defs (callsChanged_butChange s c b) :)
@[simp] theorem callsChanged_timeOfDay (s : State) (c : Call) (b : Bool) : (s.callsChanged c b).timeOfDay = s.timeOfDay :=
  (congrArg State.timeOfDay (callsChanged_butChange s c b) :)
@[simp] theorem callsChanged_arrivalCount (s : State) (c : Call) (b : Bool) :
    (s.callsChanged c b).arrivalCount = s.arrivalCount :=
  (congrArg State.arrivalCount (callsChanged_butChange s c b) :)
@[simp] theorem callsChanged_shiftState (s : State) (c : Call) (b : Bool) :
    (s.callsChanged c b).shiftState = s.shiftState :=
  (congrArg State.shiftState (callsChanged_butChange s c b) :)

@[simp] theorem callsChanged_calls (s : State) (c : Call) (b : Bool) : (s.callsChanged c b).calls = s.calls := by
  unfold State.callsChanged; dsimp only; split <;> simp

@[simp] theorem callsChanged_stops (s : State) (c : Call) (b : Bool) : (s.callsChanged c b).stops = s.stops := by
  unfold State.callsChanged; dsimp only; split <;> simp

@[simp] theorem callsChanged_loopA (s : State) (c : Call) (b : Bool) : (s.callsChanged c b).loopA = s.loopA := by
  unfold State.callsChanged; dsimp only; split <;> simp

@[simp] theorem callsChanged_loopB (s : State) (c : Call) (b : Bool) : (s.callsChanged c b).loopB = s.loopB := by
  unfold State.callsChanged; dsimp only; split <;> simp

section

variable (s : State) (x : CallChange) (o : Option Closing) (c : Call) (n : Nat)

@[simp] theorem callNotice_mode : (s.callNotice x o c).mode = s.mode := notify_mode ..
@[simp] theorem callNotice_defs : (s.callNotice x o c).defs = s.defs := notify_defs ..
@[simp] theorem callNotice_calls : (s.callNotice x o c).calls = s.calls := notify_calls ..
@[simp] theorem callNotice_stops : (s.callNotice x o c).stops = s.stops := notify_stops ..
@[simp] theorem callNotice_stations : (s.callNotice x o c).stations = s.stations := notify_stations ..
@[simp] theorem callNotice_loopA : (s.callNotice x o c).loopA = s.loopA := notify_loopA ..
@[simp] theorem callNotice_loopB : (s.callNotice x o c).loopB = s.loopB := notify_loopB ..
@[simp] theorem callNotice_arrivalCount : (s.callNotice x o c).arrivalCount = s.arrivalCount := notify_arrivalCount ..
@[simp] theorem callNotice_shiftState : (s.callNotice x o c).shiftState = s.shiftState := notify_shiftState ..

@[simp] theorem noticeOf_mode : (s.noticeOf x n).mode = s.mode := (congrArg State.mode (noticeOf_butChange s x n) :)
@[simp] theorem noticeOf_defs : (s.noticeOf x n).defs = s.defs := (congrArg State.defs (noticeOf_butChange s x n) :)
@[simp] theorem noticeOf_arrivalCount : (s.noticeOf x n).arrivalCount = s.arrivalCount :=
  (congrArg State.arrivalCount (noticeOf_butChange s x n) :)
@[simp] theorem noticeOf_shiftState : (s.noticeOf x n).shiftState = s.shiftState :=
  (congrArg State.shiftState (noticeOf_butChange s x n) :)
@[simp] theorem noticeOf_calls : (s.noticeOf x n).calls = s.calls := by unfold State.noticeOf; split <;> simp
@[simp] theorem noticeOf_stops : (s.noticeOf x n).stops = s.stops := by unfold State.noticeOf; split <;> simp
@[simp] theorem noticeOf_stations : (s.noticeOf x n).stations = s.stations := by unfold State.noticeOf; split <;> simp
@[simp] theorem noticeOf_loopA : (s.noticeOf x n).loopA = s.loopA := by unfold State.noticeOf; split <;> simp
@[simp] theorem noticeOf_loopB : (s.noticeOf x n).loopB = s.loopB := by unfold State.noticeOf; split <;> simp

@[simp] theorem tableNotice_mode : s.tableNotice.mode = s.mode := notify_mode ..
@[simp] theorem tableNotice_defs : s.tableNotice.defs = s.defs := notify_defs ..
@[simp] theorem tableNotice_calls : s.tableNotice.calls = s.calls := notify_calls ..
@[simp] theorem tableNotice_stops : s.tableNotice.stops = s.stops := notify_stops ..
@[simp] theorem tableNotice_stations : s.tableNotice.stations = s.stations := notify_stations ..
@[simp] theorem tableNotice_loopA : s.tableNotice.loopA = s.loopA := notify_loopA ..
@[simp] theorem tableNotice_loopB : s.tableNotice.loopB = s.loopB := notify_loopB ..
@[simp] theorem tableNotice_arrivalCount : s.tableNotice.arrivalCount = s.arrivalCount := notify_arrivalCount ..
@[simp] theorem tableNotice_shiftState : s.tableNotice.shiftState = s.shiftState := notify_shiftState ..

@[simp] theorem insertRecord_mode : (s.insertRecord c).mode = s.mode := by unfold State.insertRecord; dsimp only; split <;> rfl
@[simp] theorem insertRecord_defs : (s.insertRecord c).defs = s.defs := by unfold State.insertRecord; dsimp only; split <;> rfl
@[simp] theorem insertRecord_stops : (s.insertRecord c).stops = s.stops := by
  unfold State.insertRecord; dsimp only; split <;> rfl
@[simp] theorem insertRecord_stations : (s.insertRecord c).stations = s.stations := by
  unfold State.insertRecord; dsimp only; split <;> rfl

end

/-! ## A call repeated, answered, carried, closed (R13–R15, R22) -/

/-- R59, R61: stop logic after a call has entered its hold order. -/
def StopLogic.entered (number : Nat) (x : StopLogic) : StopLogic :=
  StopLogic.lined { x with holdOrder := x.holdOrder ++ [number] }

/-- R58, R61, R62: stop logic after a call has left its hold order. -/
def StopLogic.left (isManual : Bool) (number : Nat) (x : StopLogic) : StopLogic :=
  (StopLogic.restarts isManual { x with holdOrder := x.holdOrder.erase number }).lined

theorem repeatCall_calls (s : State) (c : Call) : (s.repeatCall c).calls = withRecord s c (repeated s c) := by
  unfold State.repeatCall withRecord
  dsimp only
  split <;> simp

theorem repeatCall_stops (s : State) (c : Call) :
    (s.repeatCall c).stops =
      if (repeated s c).state = .holding ∧ c.state ≠ .holding then alter s.stops c.sec (StopLogic.entered c.number)
      else s.stops := by
  unfold State.repeatCall
  dsimp only
  by_cases h : (repeated s c).state = .holding ∧ c.state ≠ .holding
  · simp [h, lineUp_stops, enterHold_stops, alter_alter]; rfl
  · simp [h]

theorem answerCall_calls (s : State) (c : Call) :
    (s.answerCall c).calls = if c.answered.isSome then s.calls else withRecord s c (answeredNow s c) := by
  unfold State.answerCall withRecord
  split <;> simp

@[simp] theorem answerCall_stops (s : State) (c : Call) : (s.answerCall c).stops = s.stops := by
  unfold State.answerCall
  split <;> simp

/-- R15: the record that a CARRY leaves. -/
theorem carried_eq (s : State) (c : Call) :
    { answeredNow s c with state := .carried, distance := none, carried := true } = carriedNow s c := by
  unfold answeredNow carriedNow
  cases hc : c.answered with
  | some t => simpa using hc
  | none =>
    cases hl : ladderOf s c.cls with
    | none => simp
    | some l => cases hb : l.basis <;> simp [hb]

theorem carryCall_calls (s : State) (c : Call) : (s.carryCall c).calls = withRecord s c (carriedNow s c) := by
  unfold State.carryCall withRecord
  dsimp only
  rw [carried_eq]
  split <;> simp

theorem carryCall_stops (s : State) (c : Call) :
    (s.carryCall c).stops =
      if c.state = .holding then alter s.stops c.sec (StopLogic.left (manual s c.sec) c.number) else s.stops := by
  unfold State.carryCall
  dsimp only
  by_cases h : c.state = .holding
  · simp only [h, decide_true, if_true, causeLeft_stops, noticeOf_stops, callsChanged_stops, leaveHold_stops,
      modCall_stops, alter_alter]
    rw [manual_congr (by simp : _ = s.defs)]; rfl
  · simp [h]

theorem closeCall_calls (s : State) (o : Closing) (b : Bool) (c : Call) :
    (s.closeCall o b c).calls = s.calls.filter fun x => x.number != c.number := by
  unfold State.closeCall
  dsimp only
  split <;> split <;> (try split) <;> simp

theorem closeCall_stops (s : State) (o : Closing) (b : Bool) (c : Call) :
    (s.closeCall o b c).stops =
      if c.state = .holding then
        alter s.stops c.sec (if b then StopLogic.left (manual s c.sec) c.number
          else fun x => { x with holdOrder := x.holdOrder.erase c.number })
      else s.stops := by
  have told : (s.closeCall o b c).stops =
      (if c.state = .holding then
        if b then (s.leaveHold c.sec c.number).causeLeft c.sec else s.leaveHold c.sec c.number else s).stops := by
    unfold State.closeCall
    dsimp only
    by_cases h : tableFull s <;> simp [h]
  rw [told]
  by_cases h : c.state = .holding
  · cases b
    · simp [h, leaveHold_stops]
    · simp only [h, if_true, causeLeft_stops, leaveHold_stops, alter_alter]
      rw [manual_congr (by simp : _ = s.defs)]; rfl
  · simp [h]

/-! ## A call created, expired, escalated (R12, R56, R99) -/

theorem createCall_calls (s : State) (o : Origin) (cls zone : Nat) (w : Option Nat) :
    (s.createCall o cls zone w).calls = (s.insertRecord (newRecord s o cls zone w)).calls := by
  unfold State.createCall
  dsimp only
  split <;> split <;> simp

theorem createCall_arrivalCount (s : State) (o : Origin) (cls zone : Nat) (w : Option Nat) :
    (s.createCall o cls zone w).arrivalCount = (s.insertRecord (newRecord s o cls zone w)).arrivalCount := by
  unfold State.createCall
  dsimp only
  split <;> split <;> simp

theorem createCall_stops (s : State) (o : Origin) (cls zone : Nat) (w : Option Nat) :
    (s.createCall o cls zone w).stops =
      if (newRecord s o cls zone w).state = .holding then
        alter s.stops (newRecord s o cls zone w).sec (StopLogic.entered (newRecord s o cls zone w).number)
      else s.stops := by
  unfold State.createCall
  generalize newRecord s o cls zone w = c
  dsimp only
  by_cases h : c.state = .holding
  · simp only [h, if_true, lineUp_stops]
    split <;> simp [enterHold_stops, alter_alter] <;> rfl
  · simp only [h, if_false]
    split <;> simp

theorem insertRecord_calls (s : State) (c : Call) :
    (s.insertRecord c).calls = if c.arrival = maxArrival then renumber (s.calls ++ [c]) else s.calls ++ [c] := by
  unfold State.insertRecord; dsimp only; split <;> rfl

theorem insertRecord_arrivalCount (s : State) (c : Call) :
    (s.insertRecord c).arrivalCount = if c.arrival = maxArrival then s.calls.length + 1 else c.arrival + 1 := by
  unfold State.insertRecord; dsimp only; split <;> simp

/-- R56: the record of a call that has entered HOLDING. -/
def heldNow (s : State) (c : Call) : Call :=
  { c with state := .holding, distance := none, firstHold := c.firstHold.orElse fun _ => some s.timeOfDay }

theorem callOf_number {s : State} {k : Nat} {c : Call} (h : s.callOf k = some c) : c.number = k := by
  unfold State.callOf at h; simpa using List.find?_some h

theorem callOf_mem {s : State} {k : Nat} {c : Call} (h : s.callOf k = some c) : c ∈ s.calls :=
  List.mem_of_find?_eq_some h

theorem expireStop_calls {s : State} {k : Nat} {c : Call} (h : s.callOf k = some c) :
    (s.expireStop k).calls = withRecord s c (heldNow s c) := by
  obtain rfl := callOf_number h
  unfold State.expireStop withRecord heldNow
  rw [h]
  simp

theorem expireStop_stops {s : State} {k : Nat} {c : Call} (h : s.callOf k = some c) :
    (s.expireStop k).stops = alter s.stops c.sec (StopLogic.entered k) := by
  unfold State.expireStop
  rw [h]
  simp [lineUp_stops, enterHold_stops, alter_alter]; rfl

theorem expireStop_of_none {s : State} {k : Nat} (h : s.callOf k = none) : s.expireStop k = s := by
  unfold State.expireStop; rw [h]

theorem climb_calls {s : State} {k : Nat} {c : Call} (h : s.callOf k = some c) :
    (s.climb k).calls = withRecord s c (climbed s c) := by
  obtain rfl := callOf_number h
  unfold State.climb withRecord
  rw [h]
  simp

@[simp] theorem climb_stops (s : State) (k : Nat) : (s.climb k).stops = s.stops := by
  unfold State.climb; split <;> simp

theorem climb_of_none {s : State} {k : Nat} (h : s.callOf k = none) : s.climb k = s := by
  unfold State.climb; rw [h]

/-! ## The frames of the operations on a call -/

theorem repeatCall_arrivalCount (s : State) (c : Call) : (s.repeatCall c).arrivalCount = s.arrivalCount :=
  (congrArg State.arrivalCount (repeatCall_butChange s c) :)
theorem answerCall_arrivalCount (s : State) (c : Call) : (s.answerCall c).arrivalCount = s.arrivalCount :=
  (congrArg State.arrivalCount (answerCall_butChange s c) :)
theorem carryCall_arrivalCount (s : State) (c : Call) : (s.carryCall c).arrivalCount = s.arrivalCount :=
  (congrArg State.arrivalCount (carryCall_butChange s c) :)
theorem expireStop_arrivalCount (s : State) (k : Nat) : (s.expireStop k).arrivalCount = s.arrivalCount :=
  (congrArg State.arrivalCount (expireStop_butChange s k) :)
theorem climb_arrivalCount (s : State) (k : Nat) : (s.climb k).arrivalCount = s.arrivalCount :=
  (congrArg State.arrivalCount (climb_butChange s k) :)
theorem closeCall_arrivalCount (s : State) (o : Closing) (b : Bool) (c : Call) :
    (s.closeCall o b c).arrivalCount = s.arrivalCount := by
  unfold State.closeCall
  dsimp only
  split <;> split <;> (try split) <;> simp

end Sys2Proof.Machine
end

section
/-! PROOFS. CallTableKept: what every operation on the standing calls keeps of the call table and of stop logic: the
capacity (R17), the order of the records (R6, R7, R11), the hold orders (R60) and the stop requests (R61). -/

namespace Sys2Proof.Machine

/-- R23: in CONFIG no call stands. -/
def callsIdle (s : State) : Prop := s.mode = .config → s.calls = []

/-- What a change of the state keeps of the call table and of stop logic; `p` is what an idle CONFIG presumes. -/
structure KeepsTable (p : Prop) (s t : State) : Prop where
  room : s.calls.length ≤ Config.callCapacity → t.calls.length ≤ Config.callCapacity
  idle : p → callsIdle s → callsIdle t
  order : callsInOrder s → callsInOrder t
  noneRoom : p → callsIdle s → callsInOrder s → noneWithinCapacity s → noneWithinCapacity t
  causes : requestsHaveCauses s → requestsHaveCauses t
  holds : p → callsIdle s → callsInOrder s → holdOrdersAgree s → holdOrdersAgree t

theorem KeepsTable.refl {p : Prop} (s : State) : KeepsTable p s s :=
  ⟨id, fun _ => id, id, fun _ _ _ => id, id, fun _ _ _ => id⟩

theorem KeepsTable.trans {p : Prop} {s t u : State} (h : KeepsTable p s t) (k : KeepsTable p t u) : KeepsTable p s u :=
  ⟨k.room ∘ h.room, fun hp => k.idle hp ∘ h.idle hp, k.order ∘ h.order,
    fun hp a b c => k.noneRoom hp (h.idle hp a) (h.order b) (h.noneRoom hp a b c), k.causes ∘ h.causes,
    fun hp a b c => k.holds hp (h.idle hp a) (h.order b) (h.holds hp a b c)⟩

theorem KeepsTable.weaken {p q : Prop} {s t : State} (h : KeepsTable p s t) (hq : q → p) : KeepsTable q s t :=
  ⟨h.room, fun a => h.idle (hq a), h.order, fun a => h.noneRoom (hq a), h.causes, fun a => h.holds (hq a)⟩

theorem KeepsTable.ite {p : Prop} {s t u : State} {c : Prop} [Decidable c] (h : KeepsTable p s t)
    (k : KeepsTable p s u) : KeepsTable p s (if c then t else u) := by
  split
  · exact h
  · exact k

/-- The part of the state that the call table's invariants read. -/
def State.tableView (s : State) : State :=
  { State.reset with mode := s.mode, defs := s.defs, calls := s.calls, arrivalCount := s.arrivalCount, stops := s.stops }

/-- A change of other parts of the state keeps all of them. -/
theorem KeepsTable.of_view {p : Prop} {s t : State} (h : t.tableView = s.tableView) : KeepsTable p s t := by
  have carry : ∀ p : State → Prop, (∀ x, p x ↔ p x.tableView) → (p s → p t) := fun p hp hs => by
    rw [hp, h, ← hp]; exact hs
  exact ⟨carry (fun x => x.calls.length ≤ Config.callCapacity) fun _ => .rfl, fun _ => carry callsIdle fun _ => .rfl,
    carry callsInOrder fun _ => .rfl, fun _ _ _ => carry noneWithinCapacity fun _ => .rfl,
    carry requestsHaveCauses fun _ => .rfl, fun _ _ _ => carry holdOrdersAgree fun _ => .rfl⟩

/-! ## Stop requests (R61) -/

/-- The request of a section stands with its causes. -/
def StopLogic.inLine (x : StopLogic) : Prop := x.request = x.hasCause

theorem StopLogic.inLine_lined (x : StopLogic) : x.lined.inLine := rfl

theorem StopLogic.inLine_marked {x : StopLogic} (h : x.inLine) : x.marked.inLine := by
  unfold marked; split
  · exact inLine_lined _
  · exact h

theorem StopLogic.inLine_unmarked {x : StopLogic} (m : Bool) (h : x.inLine) : (x.unmarked m).inLine := by
  unfold unmarked; split
  · exact inLine_lined _
  · exact h

/-- A change of one section's stop logic that leaves it in line keeps every request with its causes. -/
theorem requestsHaveCauses_of_alter {s t : State} {n : Nat} {f : StopLogic → StopLogic}
    (h : t.stops = alter s.stops n f) (hf : ∀ x : StopLogic, x.inLine → (f x).inLine) (hs : requestsHaveCauses s) :
    requestsHaveCauses t := by
  intro m h1 h2
  rw [h, pick_alter_within _ _ h1 h2]
  split
  · exact hf _ (hs m h1 h2)
  · exact hs m h1 h2

theorem requestsHaveCauses_congr {s t : State} (h : t.stops = s.stops) (hs : requestsHaveCauses s) :
    requestsHaveCauses t := by
  unfold requestsHaveCauses; rw [h]; exact hs

/-! ## The records changed in place -/

/-- A change of a record that keeps who it is. -/
def SameRecord (c d : Call) : Prop :=
  d.number = c.number ∧ d.arrival = c.arrival ∧ d.origin = c.origin ∧ d.cls = c.cls ∧ d.sec = c.sec

theorem callsInOrder_of_map {s t : State} {g : Call → Call} (hc : t.calls = s.calls.map g)
    (ha : t.arrivalCount = s.arrivalCount) (hg : ∀ c ∈ s.calls, SameRecord c (g c)) (h : callsInOrder s) :
    callsInOrder t := by
  obtain ⟨h1, h2, h3, h4, h5⟩ := h
  have num : (s.calls.map g).map (·.number) = s.calls.map (·.number) := by
    rw [List.map_map]; exact List.map_congr_left fun c h => (hg c h).1
  have key : (s.calls.map g).map (fun c => (c.origin, c.cls)) = s.calls.map fun c => (c.origin, c.cls) := by
    rw [List.map_map]
    exact List.map_congr_left fun c h => Prod.ext (hg c h).2.2.1 (hg c h).2.2.2.1
  unfold callsInOrder
  rw [hc, ha, num, key]
  refine ⟨h1, h2, ?_, h4, ?_⟩
  · rw [List.pairwise_map]
    refine h3.imp_of_mem fun {a b} hma hmb hlt => ?_
    rw [(hg a hma).2.1, (hg b hmb).2.1]; exact hlt
  · simp only [List.mem_map, forall_exists_index, and_imp, forall_apply_eq_imp_iff₂]
    intro c hmem
    rw [(hg c hmem).1, (hg c hmem).2.1]; exact h5 c hmem

theorem noneCount_of_map {s t : State} {g : Call → Call} (hc : t.calls = s.calls.map g) (hd : t.defs = s.defs)
    (hg : ∀ c ∈ s.calls, SameRecord c (g c)) : noneCount t = noneCount s := by
  unfold noneCount
  rw [hc, List.filter_map, List.length_map]
  congr 1
  refine List.filter_congr fun c h => ?_
  show isNoneClass t (g c) = isNoneClass s c
  unfold isNoneClass State.classDef
  rw [hd, (hg c h).2.2.2.1]

/-- What a change of records in place keeps, but for stop logic. -/
theorem KeepsTable.of_map {p : Prop} {s t : State} {g : Call → Call} (hc : t.calls = s.calls.map g)
    (ha : t.arrivalCount = s.arrivalCount) (hd : t.defs = s.defs) (hm : t.mode = s.mode)
    (hg : callsInOrder s → ∀ c ∈ s.calls, SameRecord c (g c))
    (hcauses : requestsHaveCauses s → requestsHaveCauses t)
    (hholds : callsInOrder s → holdOrdersAgree s → holdOrdersAgree t) : KeepsTable p s t := by
  refine ⟨fun h => ?_, fun _ h hm' => ?_, fun h => callsInOrder_of_map hc ha (hg h) h, fun _ _ ho h => ?_, hcauses,
    fun _ _ => hholds⟩
  · rw [hc, List.length_map]; exact h
  · rw [hc, h (hm ▸ hm')]; rfl
  · unfold noneWithinCapacity; rw [noneCount_of_map hc hd (hg ho)]; exact h

/-- With distinct numbers, a record's number names that record alone. -/
theorem eq_of_number {s : State} (h : callsInOrder s) {c d : Call} (hc : c ∈ s.calls) (hd : d ∈ s.calls)
    (e : d.number = c.number) : d = c :=
  List.inj_on_of_nodup_map h.1 hd hc e

theorem callOf_of_mem {s : State} (h : callsInOrder s) {c : Call} (hc : c ∈ s.calls) : s.callOf c.number = some c := by
  unfold State.callOf
  cases hf : s.calls.find? fun x => x.number == c.number with
  | none => exact absurd (List.find?_eq_none.mp hf c hc) (by simp)
  | some d =>
    rw [eq_of_number h hc (List.mem_of_find?_eq_some hf) (by simpa using List.find?_some hf)]

theorem sameRecord_refl (c : Call) : SameRecord c c := ⟨rfl, rfl, rfl, rfl, rfl⟩

/-- The record of one number replaced, in a table of distinct numbers, is a change in place. -/
theorem sameRecord_replaced {s : State} {c now : Call} (h : callsInOrder s) (hc : c ∈ s.calls) (hn : SameRecord c now) :
    ∀ x ∈ s.calls, SameRecord x (if x.number = c.number then now else x) := by
  intro x hx
  split
  · next e => exact eq_of_number h hc hx e ▸ hn
  · exact sameRecord_refl x

theorem mem_withRecord {s : State} {c now : Call} (hc : c ∈ s.calls) {x : Call} :
    x ∈ withRecord s c now ↔ x = now ∨ (x ∈ s.calls ∧ x.number ≠ c.number) := by
  unfold withRecord
  simp only [List.mem_map]
  constructor
  · rintro ⟨y, hy, rfl⟩
    split
    · exact .inl rfl
    · next e => exact .inr ⟨hy, e⟩
  · rintro (rfl | ⟨hx, e⟩)
    · exact ⟨c, hc, if_pos rfl⟩
    · exact ⟨x, hx, if_neg e⟩

/-! ## The hold orders (R60) -/

/-- The HOLDING calls of a section, by number. -/
def holdsAt (cs : List Call) (n k : Nat) : Prop := ∃ c ∈ cs, c.number = k ∧ c.sec = n ∧ c.state = .holding

/-- Records changed in place, none of them in whether it holds. -/
theorem holdOrdersAgree_of_map {s t : State} {g : Call → Call} (hc : t.calls = s.calls.map g)
    (ht : ∀ n, (pick t.stops n).holdOrder = (pick s.stops n).holdOrder)
    (hg : ∀ c ∈ s.calls, SameRecord c (g c) ∧ ((g c).state = .holding ↔ c.state = .holding)
      ∧ ((c.state ≠ .opened → c.distance = none) → (g c).state ≠ .opened → (g c).distance = none))
    (h : holdOrdersAgree s) : holdOrdersAgree t := by
  obtain ⟨h1, h2⟩ := h
  refine ⟨?_, fun n hn1 hn2 => ?_⟩
  · rw [hc]
    simp only [List.mem_map, forall_exists_index, and_imp, forall_apply_eq_imp_iff₂]
    exact fun c hm => (hg c hm).2.2 (h1 c hm)
  · rw [ht]
    refine ⟨(h2 n hn1 hn2).1, fun k => ((h2 n hn1 hn2).2 k).trans ?_⟩
    rw [hc]
    simp only [List.mem_map, exists_exists_and_eq_and]
    refine exists_congr fun c => and_congr_right fun hm => ?_
    obtain ⟨⟨e1, -, -, -, e2⟩, e3, -⟩ := hg c hm
    rw [e1, e2, e3]

/-- One record replaced, its section's hold order with it. -/
theorem holdOrdersAgree_of_record {s t : State} {c now : Call} (ho : callsInOrder s) (hc : c ∈ s.calls)
    (hn : SameRecord c now) (hcalls : t.calls = withRecord s c now)
    (hd : now.state ≠ .opened → now.distance = none)
    (hstops : ∀ n, 1 ≤ n → n ≤ 4 → n ≠ c.sec → (pick t.stops n).holdOrder = (pick s.stops n).holdOrder)
    (hsec : 1 ≤ c.sec → c.sec ≤ 4 → ∀ order, (pick s.stops c.sec).holdOrder = order → order.Nodup →
      (c.number ∈ order ↔ c.state = .holding) →
      (pick t.stops c.sec).holdOrder.Nodup
        ∧ (c.number ∈ (pick t.stops c.sec).holdOrder ↔ now.state = .holding)
        ∧ ∀ k, k ≠ c.number → (k ∈ (pick t.stops c.sec).holdOrder ↔ k ∈ order))
    (h : holdOrdersAgree s) : holdOrdersAgree t := by
  obtain ⟨h1, h2⟩ := h
  obtain ⟨e1, -, -, -, e2⟩ := hn
  have others : ∀ n k, (k ≠ c.number ∨ n ≠ c.sec) → (holdsAt t.calls n k ↔ holdsAt s.calls n k) := by
    intro n k hk
    unfold holdsAt
    rw [hcalls]
    constructor
    · rintro ⟨x, hx, rfl, rfl, hh⟩
      obtain rfl | ⟨hx, -⟩ := (mem_withRecord hc).mp hx
      · exact absurd hk (by rw [e1, e2]; simp)
      · exact ⟨x, hx, rfl, rfl, hh⟩
    · rintro ⟨x, hx, rfl, rfl, hh⟩
      refine ⟨x, (mem_withRecord hc).mpr (.inr ⟨hx, fun e => ?_⟩), rfl, rfl, hh⟩
      rw [eq_of_number ho hc hx e] at hk; simp at hk
  have own : holdsAt t.calls c.sec c.number ↔ now.state = .holding := by
    unfold holdsAt
    rw [hcalls]
    constructor
    · rintro ⟨x, hx, e, -, hh⟩
      obtain rfl | ⟨-, ne⟩ := (mem_withRecord hc).mp hx
      · exact hh
      · exact absurd e ne
    · exact fun hh => ⟨now, (mem_withRecord hc).mpr (.inl rfl), e1, e2, hh⟩
  have before : holdsAt s.calls c.sec c.number ↔ c.state = .holding :=
    ⟨fun ⟨x, hx, e, _, hh⟩ => eq_of_number ho hc hx e ▸ hh, fun hh => ⟨c, hc, rfl, rfl, hh⟩⟩
  refine ⟨fun x hx hs => ?_, fun n hn1 hn2 => ?_⟩
  · rw [hcalls] at hx
    obtain rfl | ⟨hx, -⟩ := (mem_withRecord hc).mp hx
    · exact hd hs
    · exact h1 x hx hs
  · by_cases hn : n = c.sec
    · subst hn
      obtain ⟨k1, k2, k3⟩ := hsec hn1 hn2 _ rfl (h2 _ hn1 hn2).1 (((h2 _ hn1 hn2).2 _).trans before)
      refine ⟨k1, fun k => ?_⟩
      by_cases hk : k = c.number
      · subst hk; exact k2.trans own.symm
      · exact ((k3 k hk).trans ((h2 _ hn1 hn2).2 k)).trans (others _ _ (.inl hk)).symm
    · rw [hstops n hn1 hn2 hn]
      exact ⟨(h2 n hn1 hn2).1, fun k => ((h2 n hn1 hn2).2 k).trans (others _ _ (.inr hn)).symm⟩

@[simp] theorem StopLogic.entered_holdOrder (k : Nat) (x : StopLogic) : (x.entered k).holdOrder = x.holdOrder ++ [k] :=
  rfl

@[simp] theorem StopLogic.left_holdOrder (m : Bool) (k : Nat) (x : StopLogic) :
    (x.left m k).holdOrder = x.holdOrder.erase k := by
  unfold left; rw [lined_holdOrder, restarts_holdOrder]

/-- One record that begins to hold, appended to its section's hold order. -/
theorem holdOrdersAgree_of_entered {s t : State} {c now : Call} (ho : callsInOrder s) (hc : c ∈ s.calls)
    (hn : SameRecord c now) (hcalls : t.calls = withRecord s c now) (hd : now.distance = none)
    (hold : c.state ≠ .holding) (hnow : now.state = .holding)
    (hstops : t.stops = alter s.stops c.sec (StopLogic.entered c.number))
    (h : holdOrdersAgree s) : holdOrdersAgree t := by
  refine holdOrdersAgree_of_record ho hc hn hcalls (fun _ => hd) (fun n h1 h2 hne => ?_)
    (fun h1 h2 order he hnd hmem => ?_) h
  · rw [hstops, pick_alter_within _ _ h1 h2, if_neg hne]
  · have hnot : c.number ∉ order := fun hm => hold (hmem.mp hm)
    rw [hstops, pick_alter_within _ _ h1 h2, if_pos rfl, StopLogic.entered_holdOrder, he]
    refine ⟨List.Nodup.append hnd (List.nodup_singleton _) (by simpa using hnot), by simp [hnow], fun k hk => ?_⟩
    simp [hk]

/-- One record that no longer holds, taken from its section's hold order. -/
theorem holdOrdersAgree_of_left {s t : State} {c now : Call} {f : StopLogic → StopLogic} (ho : callsInOrder s)
    (hc : c ∈ s.calls) (hn : SameRecord c now) (hcalls : t.calls = withRecord s c now)
    (hd : now.state ≠ .opened → now.distance = none) (hnow : now.state ≠ .holding)
    (hf : ∀ x, (f x).holdOrder = x.holdOrder.erase c.number)
    (hstops : t.stops = alter s.stops c.sec f) (h : holdOrdersAgree s) : holdOrdersAgree t := by
  refine holdOrdersAgree_of_record ho hc hn hcalls hd (fun n h1 h2 hne => ?_) (fun h1 h2 order he hnd _ => ?_) h
  · rw [hstops, pick_alter_within _ _ h1 h2, if_neg hne]
  · rw [hstops, pick_alter_within _ _ h1 h2, if_pos rfl, hf, he]
    refine ⟨hnd.erase _, by simp [hnow, hnd.mem_erase_iff], fun k hk => ?_⟩
    rw [hnd.mem_erase_iff]; simp [hk]

/-- One record changed, the hold orders as they were. -/
theorem holdOrdersAgree_of_unheld {s t : State} {c now : Call} (ho : callsInOrder s) (hc : c ∈ s.calls)
    (hn : SameRecord c now) (hcalls : t.calls = withRecord s c now)
    (hd : now.state ≠ .opened → now.distance = none) (hold : now.state = .holding ↔ c.state = .holding)
    (hstops : t.stops = s.stops) (h : holdOrdersAgree s) : holdOrdersAgree t :=
  holdOrdersAgree_of_record ho hc hn hcalls hd (fun n _ _ _ => by rw [hstops])
    (fun _ _ order he hnd hmem => by rw [hstops, he, hold]; exact ⟨hnd, hmem, fun _ _ => Iff.rfl⟩) h

/-! ## The operations on one record -/

theorem repeated_sameRecord (s : State) (c : Call) : SameRecord c (repeated s c) := by
  unfold repeated; dsimp only; split <;> (try split) <;> exact ⟨rfl, rfl, rfl, rfl, rfl⟩

theorem answeredNow_sameRecord (s : State) (c : Call) : SameRecord c (answeredNow s c) := by
  unfold answeredNow; split <;> exact ⟨rfl, rfl, rfl, rfl, rfl⟩

theorem answeredNow_state (s : State) (c : Call) :
    (answeredNow s c).state = c.state ∧ (answeredNow s c).distance = c.distance := by
  unfold answeredNow; split <;> exact ⟨rfl, rfl⟩

/-- R13: a repeat makes a call hold that was CARRIED, of class IMMEDIATE; otherwise whether it holds stays. -/
theorem repeated_holding (s : State) (c : Call) :
    (c.state = .holding → (repeated s c).state = .holding)
      ∧ ((c.state ≠ .opened → c.distance = none) → (repeated s c).state ≠ .opened → (repeated s c).distance = none) := by
  unfold repeated
  dsimp only
  split
  · next h => rw [h]; split <;> simp
  · exact ⟨id, id⟩

theorem repeatCall_keepsTable {p : Prop} {s : State} {c : Call} (hc : c ∈ s.calls) : KeepsTable p s (s.repeatCall c) := by
  refine .of_map (repeatCall_calls s c) (repeatCall_arrivalCount s c)
    (congrArg State.defs (repeatCall_butChange s c) :) (congrArg State.mode (repeatCall_butChange s c) :)
    (fun ho => sameRecord_replaced ho hc (repeated_sameRecord s c)) (fun h => ?_) (fun ho h => ?_)
  · have hst := repeatCall_stops s c
    split at hst
    · exact requestsHaveCauses_of_alter hst (fun x _ => StopLogic.inLine_lined _) h
    · exact requestsHaveCauses_congr hst h
  · have hst := repeatCall_stops s c
    obtain ⟨k1, k2⟩ := repeated_holding s c
    split at hst
    · next hr =>
      exact holdOrdersAgree_of_entered ho hc (repeated_sameRecord s c) (repeatCall_calls s c)
        (k2 (h.1 c hc) (by rw [hr.1]; decide)) hr.2 hr.1 hst h
    · next hr =>
      refine holdOrdersAgree_of_unheld ho hc (repeated_sameRecord s c) (repeatCall_calls s c) (k2 (h.1 c hc))
        ⟨fun hh => ?_, k1⟩ hst h
      by_contra hne
      exact hr ⟨hh, hne⟩

theorem answerCall_keepsTable {p : Prop} {s : State} {c : Call} (hc : c ∈ s.calls) : KeepsTable p s (s.answerCall c) := by
  by_cases ha : c.answered.isSome
  · rw [State.answerCall, if_pos ha]; exact .refl s
  · have hcalls := answerCall_calls s c
    rw [if_neg ha] at hcalls
    refine .of_map hcalls (answerCall_arrivalCount s c) (congrArg State.defs (answerCall_butChange s c) :)
      (congrArg State.mode (answerCall_butChange s c) :)
      (fun ho => sameRecord_replaced ho hc (answeredNow_sameRecord s c))
      (requestsHaveCauses_congr (answerCall_stops s c)) (fun ho h => ?_)
    obtain ⟨e1, e2⟩ := answeredNow_state s c
    exact holdOrdersAgree_of_unheld ho hc (answeredNow_sameRecord s c) hcalls (by rw [e1, e2]; exact h.1 c hc)
      (by rw [e1]) (answerCall_stops s c) h

theorem carryCall_keepsTable {p : Prop} {s : State} {c : Call} (hc : c ∈ s.calls) : KeepsTable p s (s.carryCall c) := by
  have same : SameRecord c (carriedNow s c) := ⟨rfl, rfl, rfl, rfl, rfl⟩
  refine .of_map (carryCall_calls s c) (carryCall_arrivalCount s c) (congrArg State.defs (carryCall_butChange s c) :)
    (congrArg State.mode (carryCall_butChange s c) :) (fun ho => sameRecord_replaced ho hc same) (fun h => ?_)
    (fun ho h => ?_)
  · have hst := carryCall_stops s c
    split at hst
    · exact requestsHaveCauses_of_alter hst (fun x _ => StopLogic.inLine_lined _) h
    · exact requestsHaveCauses_congr hst h
  · have hst := carryCall_stops s c
    split at hst
    · exact holdOrdersAgree_of_left ho hc same (carryCall_calls s c) (fun _ => rfl) nofun
        (fun x => StopLogic.left_holdOrder ..) hst h
    · next hr =>
      exact holdOrdersAgree_of_unheld ho hc same (carryCall_calls s c) (fun _ => rfl) ⟨nofun, fun e => absurd e hr⟩
        hst h

theorem climb_keepsTable {p : Prop} (s : State) (k : Nat) : KeepsTable p s (s.climb k) := by
  cases hk : s.callOf k with
  | none => rw [climb_of_none hk]; exact .refl s
  | some c =>
    have hc := callOf_mem hk
    have same : SameRecord c (climbed s c) := ⟨rfl, rfl, rfl, rfl, rfl⟩
    exact .of_map (climb_calls hk) (climb_arrivalCount s k) (congrArg State.defs (climb_butChange s k) :)
      (congrArg State.mode (climb_butChange s k) :) (fun ho => sameRecord_replaced ho hc same)
      (requestsHaveCauses_congr (climb_stops s k))
      (fun ho h => holdOrdersAgree_of_unheld ho hc same (climb_calls hk) (h.1 c hc) Iff.rfl (climb_stops s k) h)

/-- R56: a call that enters HOLDING at the end of its stop distance; only an OPEN call has one. -/
theorem expireStop_keepsTable {p : Prop} {s : State} {k : Nat}
    (hk : callsInOrder s → holdOrdersAgree s → ∀ c, s.callOf k = some c → c.state ≠ .holding) :
    KeepsTable p s (s.expireStop k) := by
  cases hf : s.callOf k with
  | none => rw [expireStop_of_none hf]; exact .refl s
  | some c =>
    obtain rfl := callOf_number hf
    have hc := callOf_mem hf
    have same : SameRecord c (heldNow s c) := ⟨rfl, rfl, rfl, rfl, rfl⟩
    exact .of_map (expireStop_calls hf) (expireStop_arrivalCount ..) (congrArg State.defs (expireStop_butChange ..) :)
      (congrArg State.mode (expireStop_butChange ..) :) (fun ho => sameRecord_replaced ho hc same)
      (requestsHaveCauses_of_alter (expireStop_stops hf) fun x _ => StopLogic.inLine_lined _)
      (fun ho h => holdOrdersAgree_of_entered ho hc same (expireStop_calls hf) rfl (hk ho h c hf) rfl
        (expireStop_stops hf) h)

/-! ## Calls closed (R22) -/

/-- Records taken out of the table keep what they shared with the rest. -/
theorem callsInOrder_of_sublist {s t : State} (hc : t.calls.Sublist s.calls) (ha : t.arrivalCount = s.arrivalCount)
    (h : callsInOrder s) : callsInOrder t := by
  obtain ⟨h1, h2, h3, h4, h5⟩ := h
  unfold callsInOrder
  rw [ha]
  exact ⟨h1.sublist (hc.map _), h2.sublist (hc.map _), h3.sublist hc, h4, fun c hm => h5 c (hc.subset hm)⟩

theorem noneCount_le_of_sublist {s t : State} (hc : t.calls.Sublist s.calls) (hd : t.defs = s.defs) :
    noneCount t ≤ noneCount s := by
  unfold noneCount
  have : isNoneClass t = isNoneClass s := by funext c; unfold isNoneClass State.classDef; rw [hd]
  rw [this]
  exact (hc.filter _).length_le

theorem closeCall_defs (s : State) (o : Closing) (b : Bool) (c : Call) : (s.closeCall o b c).defs = s.defs :=
  (congrArg State.defs (closeCall_butCalls s o b c) :)

theorem closeCall_mode (s : State) (o : Closing) (b : Bool) (c : Call) : (s.closeCall o b c).mode = s.mode :=
  (congrArg State.mode (closeCall_butCalls s o b c) :)

/-- R22: a closed call leaves the table and its hold order. -/
theorem closeCall_holds {s : State} {c : Call} (o : Closing) (b : Bool) (hc : c ∈ s.calls) (ho : callsInOrder s)
    (h : holdOrdersAgree s) : holdOrdersAgree (s.closeCall o b c) := by
  obtain ⟨h1, h2⟩ := h
  have mem : ∀ x, x ∈ (s.closeCall o b c).calls ↔ x ∈ s.calls ∧ x.number ≠ c.number := by
    intro x; rw [closeCall_calls]; simp
  have holds : ∀ n k, holdsAt (s.closeCall o b c).calls n k ↔ holdsAt s.calls n k ∧ k ≠ c.number := by
    intro n k
    unfold holdsAt
    constructor
    · rintro ⟨x, hx, rfl, hh⟩
      exact ⟨⟨x, ((mem x).mp hx).1, rfl, hh⟩, ((mem x).mp hx).2⟩
    · rintro ⟨⟨x, hx, rfl, hh⟩, ne⟩
      exact ⟨x, (mem x).mpr ⟨hx, ne⟩, rfl, hh⟩
  have own : ∀ n, holdsAt s.calls n c.number ↔ n = c.sec ∧ c.state = .holding := by
    intro n
    constructor
    · rintro ⟨x, hx, e, rfl, hh⟩
      rw [eq_of_number ho hc hx e] at hh ⊢; exact ⟨rfl, hh⟩
    · rintro ⟨rfl, hh⟩; exact ⟨c, hc, rfl, rfl, hh⟩
  refine ⟨fun x hx => h1 x ((mem x).mp hx).1, fun n hn1 hn2 => ?_⟩
  obtain ⟨nodup, agree⟩ := h2 n hn1 hn2
  by_cases hn : n = c.sec ∧ c.state = .holding
  · obtain ⟨rfl, hh⟩ := hn
    have horder : (pick (s.closeCall o b c).stops c.sec).holdOrder = (pick s.stops c.sec).holdOrder.erase c.number := by
      rw [closeCall_stops, if_pos hh, pick_alter_within _ _ hn1 hn2, if_pos rfl]
      cases b
      · rfl
      · exact StopLogic.left_holdOrder ..
    rw [horder]
    refine ⟨nodup.erase _, fun k => ?_⟩
    rw [nodup.mem_erase_iff]
    exact (and_congr_right fun _ => agree k).trans (and_comm.trans (holds _ k).symm)
  · have horder : (pick (s.closeCall o b c).stops n).holdOrder = (pick s.stops n).holdOrder := by
      rw [closeCall_stops]
      split
      · next hh => rw [pick_alter_within _ _ hn1 hn2, if_neg fun e => hn ⟨e, hh⟩]
      · rfl
    rw [horder]
    refine ⟨nodup, fun k => (agree k).trans ?_⟩
    refine Iff.trans ?_ (holds n k).symm
    refine ⟨fun hk => ⟨hk, ?_⟩, And.left⟩
    rintro rfl
    exact hn ((own n).mp hk)

theorem KeepsTable.of_sublist {p : Prop} {s t : State} (hc : t.calls.Sublist s.calls) (ha : t.arrivalCount = s.arrivalCount)
    (hd : t.defs = s.defs) (hm : t.mode = s.mode) (hcauses : requestsHaveCauses s → requestsHaveCauses t)
    (hholds : callsInOrder s → holdOrdersAgree s → holdOrdersAgree t) : KeepsTable p s t :=
  ⟨fun h => hc.length_le.trans h, fun _ h e => List.sublist_nil.mp (h (hm ▸ e) ▸ hc), callsInOrder_of_sublist hc ha,
    fun _ _ _ h => (noneCount_le_of_sublist hc hd).trans h, hcauses, fun _ _ => hholds⟩

theorem closeCall_keepsTable {p : Prop} {s : State} {c : Call} (o : Closing) (hc : c ∈ s.calls) :
    KeepsTable p s (s.closeCall o true c) := by
  refine .of_sublist ?_ (closeCall_arrivalCount ..) (closeCall_defs ..) (closeCall_mode ..) (fun h => ?_)
    (closeCall_holds o true hc)
  · rw [closeCall_calls]; exact List.filter_sublist
  · have hst := closeCall_stops s o true c
    split at hst
    · exact requestsHaveCauses_of_alter hst (fun x _ => StopLogic.inLine_lined _) h
    · exact requestsHaveCauses_congr hst h

theorem closeNumber_keepsTable {p : Prop} (s : State) (o : Closing) (k : Nat) : KeepsTable p s (s.closeNumber o true k) := by
  unfold State.closeNumber
  split
  · next c h => exact closeCall_keepsTable o (callOf_mem h)
  · exact .refl s

theorem dropOrphans_keepsTable {p : Prop} (s : State) (n : Nat) : KeepsTable p s (s.dropOrphans n) :=
  foldl_holds (KeepsTable p s) _ (fun _ k h => h.trans (closeNumber_keepsTable _ .dropped k)) _ _ (.refl s)

/-! ## A call created (R6, R7, R12) -/

theorem nextNumber_within (last : Nat) : 1 ≤ nextNumber last ∧ nextNumber last ≤ 9999 := by
  unfold nextNumber; split <;> omega

theorem freeNumber_within (used : List Nat) (fuel last : Nat) :
    1 ≤ freeNumber used fuel last ∧ freeNumber used fuel last ≤ 9999 := by
  induction fuel generalizing last with
  | zero => exact nextNumber_within last
  | succ fuel ih =>
    unfold freeNumber; split
    · exact ih _
    · exact nextNumber_within last

/-- R6: the k-th candidate after the last number. -/
def candidate (last : Nat) : Nat → Nat
  | 0 => nextNumber last
  | k + 1 => nextNumber (candidate last k)

/-- The candidates run through the numbers modulo 9999. -/
theorem candidate_eq (last k : Nat) : candidate last k = (nextNumber last - 1 + k) % 9999 + 1 := by
  induction k with
  | zero =>
    have := nextNumber_within last
    simp only [candidate, Nat.add_zero]
    rw [Nat.mod_eq_of_lt (by omega)]; omega
  | succ k ih =>
    have next : ∀ x, nextNumber x = if 9999 ≤ x then 1 else x + 1 := fun _ => rfl
    show nextNumber (candidate last k) = _
    rw [ih, next]
    generalize nextNumber last - 1 = b
    split <;> omega

theorem candidate_injective {last i j : Nat} (hi : i < 9999) (hj : j < 9999) (h : candidate last i = candidate last j) :
    i = j := by
  rw [candidate_eq, candidate_eq] at h; omega

theorem candidate_next (last k : Nat) : candidate (nextNumber last) k = candidate last (k + 1) := by
  induction k with
  | zero => rfl
  | succ k ih => simp only [candidate, ih]

/-- The number found is free, or each of the candidates is used. -/
theorem freeNumber_free_or (used : List Nat) (fuel last : Nat) :
    freeNumber used fuel last ∉ used ∨ ∀ k, k ≤ fuel → candidate last k ∈ used := by
  induction fuel generalizing last with
  | zero =>
    by_cases h : nextNumber last ∈ used
    · right; intro k hk; obtain rfl : k = 0 := by omega
      exact h
    · exact .inl h
  | succ fuel ih =>
    unfold freeNumber
    split
    · next h =>
      refine (ih (nextNumber last)).imp id fun all k hk => ?_
      cases k with
      | zero => exact h
      | succ k => rw [← candidate_next]; exact all k (by omega)
    · next h => exact .inl h

/-- R6: with fewer than 64 numbers used, the number found is free. -/
theorem freeNumber_not_mem {used : List Nat} (h : used.length ≤ 65) (last : Nat) : freeNumber used 65 last ∉ used := by
  refine (freeNumber_free_or used 65 last).resolve_right fun all => ?_
  have nodup : ((List.range 66).map (candidate last)).Nodup := by
    refine List.Nodup.map_on (fun i hi j hj e => ?_) List.nodup_range
    rw [List.mem_range] at hi hj
    exact candidate_injective (by omega) (by omega) e
  have sub : (List.range 66).map (candidate last) ⊆ used := by
    intro k hk
    obtain ⟨i, hi, rfl⟩ := List.mem_map.mp hk
    exact all i (by rw [List.mem_range] at hi; omega)
  have := (nodup.subperm sub).length_le
  simp at this; omega

/-- R7: a renumbered table has the records of the other in everything but the arrival order. -/
theorem renumber_map {β : Type} (f : Call → β) (hf : ∀ c i, f { c with arrival := i } = f c) (cs : List Call) :
    (renumber cs).map f = cs.map f := by
  unfold renumber
  refine List.ext_getElem (by simp) fun i h1 h2 => ?_
  simp only [List.getElem_map, List.getElem_mapIdx, hf]

theorem renumber_pairwise (cs : List Call) : (renumber cs).Pairwise fun c x => c.arrival < x.arrival := by
  unfold renumber
  rw [List.pairwise_iff_getElem]
  intro i j hi hj hij
  simpa using hij

theorem mem_renumber {cs : List Call} {x : Call} (h : x ∈ renumber cs) :
    ∃ c ∈ cs, ∃ i, i < cs.length ∧ x = { c with arrival := i } := by
  unfold renumber at h
  obtain ⟨i, hi, rfl⟩ := List.mem_mapIdx.mp h
  exact ⟨cs[i], List.getElem_mem _, i, hi, rfl⟩

/-- R6, R7, R11: a record put into the table, with a number and an origin and class that no other has. -/
theorem insertRecord_inOrder {s : State} {c : Call} (ha : c.arrival = s.arrivalCount) (hroom : s.calls.length < 64)
    (hn : c.number ∉ s.calls.map (·.number)) (hn1 : 1 ≤ c.number) (hn2 : c.number ≤ 9999)
    (hk : (c.origin, c.cls) ∉ s.calls.map fun x => (x.origin, x.cls)) (h : callsInOrder s) :
    callsInOrder (s.insertRecord c) := by
  obtain ⟨h1, h2, h3, h4, h5⟩ := h
  have nodup : ∀ {β : Type} (f : Call → β), (s.calls.map f).Nodup → f c ∉ s.calls.map f →
      ((s.calls ++ [c]).map f).Nodup := fun f hf hc => by
    rw [List.map_append]
    exact List.Nodup.append hf (List.nodup_singleton _) (by simpa using hc)
  unfold callsInOrder
  rw [insertRecord_calls, insertRecord_arrivalCount]
  split
  · refine ⟨?_, ?_, renumber_pairwise _, by omega, fun x hx => ?_⟩
    · rw [renumber_map (·.number) fun _ _ => rfl]; exact nodup _ h1 hn
    · rw [renumber_map (fun x => (x.origin, x.cls)) fun _ _ => rfl]; exact nodup _ h2 hk
    · obtain ⟨d, hd, i, hi, rfl⟩ := mem_renumber hx
      rw [List.length_append, List.length_singleton] at hi
      rw [List.mem_append, List.mem_singleton] at hd
      obtain hd | rfl := hd
      · exact ⟨(h5 d hd).1, (h5 d hd).2.1, by simpa using hi⟩
      · exact ⟨hn1, hn2, by simpa using hi⟩
  · next hmax =>
    refine ⟨nodup _ h1 hn, nodup _ h2 hk, ?_, by unfold maxArrival at hmax; omega, fun x hx => ?_⟩
    · rw [List.pairwise_append]
      exact ⟨h3, List.pairwise_singleton .., fun a ham b hb => by
        rw [List.mem_singleton.mp hb, ha]; exact (h5 a ham).2.2⟩
    · rw [List.mem_append, List.mem_singleton] at hx
      obtain hx | rfl := hx
      · obtain ⟨k1, k2, k3⟩ := h5 x hx
        exact ⟨k1, k2, by omega⟩
      · exact ⟨hn1, hn2, by omega⟩

/-- Whether a call of the table holds, by number, does not depend on arrival orders. -/
theorem insertRecord_holdsAt (s : State) (c : Call) (n k : Nat) :
    holdsAt (s.insertRecord c).calls n k ↔ holdsAt s.calls n k ∨ (c.number = k ∧ c.sec = n ∧ c.state = .holding) := by
  have app : holdsAt (s.calls ++ [c]) n k ↔ holdsAt s.calls n k ∨ (c.number = k ∧ c.sec = n ∧ c.state = .holding) := by
    unfold holdsAt; simp [or_and_right, exists_or]
  have image : ∀ cs, holdsAt cs n k ↔ (k, n, CallState.holding) ∈ cs.map fun x => (x.number, x.sec, x.state) := by
    intro cs; unfold holdsAt; simp
  rw [← app, insertRecord_calls, image, image]
  split
  · rw [renumber_map (fun x => (x.number, x.sec, x.state)) fun _ _ => rfl]
  · rfl

theorem insertRecord_distance {s : State} {c : Call} (hc : c.state ≠ .opened → c.distance = none)
    (h : ∀ x ∈ s.calls, x.state ≠ .opened → x.distance = none) :
    ∀ x ∈ (s.insertRecord c).calls, x.state ≠ .opened → x.distance = none := by
  have app : ∀ x ∈ s.calls ++ [c], x.state ≠ .opened → x.distance = none := by
    intro x hx
    rw [List.mem_append, List.mem_singleton] at hx
    obtain hx | rfl := hx
    · exact h x hx
    · exact hc
  rw [insertRecord_calls]
  split
  · intro x hx
    obtain ⟨d, hd, i, -, rfl⟩ := mem_renumber hx
    exact app d hd
  · exact app

theorem createCall_defs (s : State) (o : Origin) (cls zone : Nat) (w : Option Nat) :
    (s.createCall o cls zone w).defs = s.defs := (congrArg State.defs (createCall_butCalls s o cls zone w) :)

theorem createCall_mode (s : State) (o : Origin) (cls zone : Nat) (w : Option Nat) :
    (s.createCall o cls zone w).mode = s.mode := (congrArg State.mode (createCall_butCalls s o cls zone w) :)

theorem noneCount_insertRecord {s t : State} {c : Call} (hc : t.calls = (s.insertRecord c).calls) (hd : t.defs = s.defs) :
    noneCount t = noneCount s + if isNoneClass s c then 1 else 0 := by
  have same : isNoneClass t = isNoneClass s := by funext c; unfold isNoneClass State.classDef; rw [hd]
  have image : ∀ cs : List Call, (cs.filter (isNoneClass s)).length =
      ((cs.map (·.cls)).filter fun k => decide ((s.classDef k).stop = .none)).length := by
    intro cs; rw [List.filter_map, List.length_map]; rfl
  unfold noneCount
  rw [hc, same, image, insertRecord_calls]
  have : (if c.arrival = maxArrival then renumber (s.calls ++ [c]) else s.calls ++ [c]).map (·.cls) =
      (s.calls ++ [c]).map (·.cls) := by
    split
    · exact renumber_map (·.cls) (fun _ _ => rfl) _
    · rfl
  rw [this, ← image, List.filter_append, List.length_append]
  congr 1
  split <;> simp_all

theorem length_insertRecord (s : State) (c : Call) : (s.insertRecord c).calls.length = s.calls.length + 1 := by
  rw [insertRecord_calls]; split <;> simp [renumber]

/-- R18: there is room for a new call of the class. -/
theorem room_of_hasRoom {s : State} {cls : Nat} (h : hasRoom s cls = true) :
    s.calls.length < 64 ∧ ((s.classDef cls).stop = .none → noneCount s < 56) := by
  unfold hasRoom Config.callCapacity Config.noneCapacity at h
  split at h <;> simp_all

theorem callFrom_eq_none {s : State} {o : Origin} {cls : Nat} (h : callFrom s o cls = none) :
    (o, cls) ∉ s.calls.map fun x => (x.origin, x.cls) := by
  unfold callFrom at h
  rw [List.find?_eq_none] at h
  simp only [List.mem_map, Prod.mk.injEq, not_exists, not_and]
  intro x hx e1 e2
  exact h x hx (by simp [e1, e2])

theorem createCall_keepsTable {p : Prop} {s : State} {o : Origin} {cls zone : Nat} (w : Option Nat) (hm : p → s.mode = .run)
    (hroom : hasRoom s cls = true) (hnew : callFrom s o cls = none) : KeepsTable p s (s.createCall o cls zone w) := by
  obtain ⟨room, noneRoom⟩ := room_of_hasRoom hroom
  have hcalls := createCall_calls s o cls zone w
  have hst := createCall_stops s o cls zone w
  have hfree : (newRecord s o cls zone w).number ∉ s.calls.map (·.number) :=
    freeNumber_not_mem (by rw [List.length_map]; omega) _
  have hwithin := freeNumber_within (s.calls.map (·.number)) 65 s.lastNumber
  refine ⟨fun _ => ?_, fun hp _ e => ?_, fun h => ?_, fun _ _ _ h => ?_, fun h => ?_, fun _ _ _ h => ?_⟩
  · rw [hcalls, length_insertRecord]; exact room
  · rw [createCall_mode, hm hp] at e; exact absurd e (by decide)
  · have := insertRecord_inOrder (c := newRecord s o cls zone w) rfl room hfree hwithin.1 hwithin.2
      (callFrom_eq_none hnew) h
    unfold callsInOrder at this ⊢
    rw [hcalls, createCall_arrivalCount]; exact this
  · unfold noneWithinCapacity Config.noneCapacity at h ⊢
    rw [noneCount_insertRecord hcalls (createCall_defs ..)]
    split
    · next hn => exact noneRoom (of_decide_eq_true hn)
    · exact h
  · split at hst
    · exact requestsHaveCauses_of_alter hst (fun x _ => StopLogic.inLine_lined _) h
    · exact requestsHaveCauses_congr hst h
  · obtain ⟨h1, h2⟩ := h
    have notHeld : ∀ n, ¬ holdsAt s.calls n (newRecord s o cls zone w).number := fun n ⟨x, hx, e, _⟩ =>
      hfree (List.mem_map.mpr ⟨x, hx, e⟩)
    refine ⟨?_, fun n hn1 hn2 => ?_⟩
    · rw [hcalls]
      refine insertRecord_distance (fun hs => ?_) h1
      by_cases hw : w.isSome || (s.classDef cls).stop == .immediate
      · simp only [newRecord, hw]; rfl
      · simp only [newRecord, hw] at hs; exact absurd rfl hs
    · obtain ⟨nodup, agree⟩ := h2 n hn1 hn2
      have agree : ∀ k, k ∈ (pick s.stops n).holdOrder ↔ holdsAt s.calls n k := agree
      have key : ∀ k, holdsAt (s.createCall o cls zone w).calls n k ↔ holdsAt s.calls n k
          ∨ ((newRecord s o cls zone w).number = k ∧ (newRecord s o cls zone w).sec = n
            ∧ (newRecord s o cls zone w).state = .holding) := fun k => by
        rw [hcalls]; exact insertRecord_holdsAt s (newRecord s o cls zone w) n k
      by_cases hn : n = (newRecord s o cls zone w).sec ∧ (newRecord s o cls zone w).state = .holding
      · obtain ⟨rfl, hh⟩ := hn
        have hnot : (newRecord s o cls zone w).number ∉ (pick s.stops (newRecord s o cls zone w).sec).holdOrder :=
          fun hm => notHeld _ ((agree _).mp hm)
        rw [hst, if_pos hh, pick_alter_within _ _ hn1 hn2, if_pos rfl, StopLogic.entered_holdOrder]
        refine ⟨List.Nodup.append nodup (List.nodup_singleton _) (by simpa using hnot), fun k => ?_⟩
        rw [List.mem_append, List.mem_singleton]
        refine Iff.trans ?_ (key k).symm
        exact or_congr (agree k) ⟨fun e => ⟨e.symm, rfl, hh⟩, fun e => e.1.symm⟩
      · have horder : (pick (s.createCall o cls zone w).stops n).holdOrder = (pick s.stops n).holdOrder := by
          rw [hst]
          split
          · next hh => rw [pick_alter_within _ _ hn1 hn2, if_neg fun e => hn ⟨e, hh⟩]
          · rfl
        rw [horder]
        refine ⟨nodup, fun k => (agree k).trans (Iff.trans ?_ (key k).symm)⟩
        refine (or_iff_left ?_).symm
        rintro ⟨-, e, hh⟩
        exact hn ⟨e.symm, hh⟩

/-! ## Marks and restarts (R63, R64) -/

/-- A change of stop logic alone that leaves the hold orders. -/
theorem KeepsTable.of_stops {p : Prop} {s t : State} (hc : t.calls = s.calls) (ha : t.arrivalCount = s.arrivalCount)
    (hd : t.defs = s.defs) (hm : t.mode = s.mode) (hcauses : requestsHaveCauses s → requestsHaveCauses t)
    (horder : ∀ n, (pick t.stops n).holdOrder = (pick s.stops n).holdOrder) : KeepsTable p s t :=
  .of_map (g := id) (by rw [hc, List.map_id]) ha hd hm (fun _ c _ => sameRecord_refl c) hcauses
    fun _ => holdOrdersAgree_of_map (g := id) (by rw [hc, List.map_id]) horder fun c _ =>
      ⟨sameRecord_refl c, .rfl, id⟩

theorem holdOrder_of_alter {v : Vector StopLogic 4} {n : Nat} {f : StopLogic → StopLogic}
    (hf : ∀ x : StopLogic, (f x).holdOrder = x.holdOrder) (m : Nat) :
    (pick (alter v n f) m).holdOrder = (pick v m).holdOrder := by
  rw [pick_alter]; split
  · next h => rw [hf, h.1]
  · rfl

@[simp] theorem StopLogic.marked_holdOrder (x : StopLogic) : x.marked.holdOrder = x.holdOrder := by
  unfold marked; split <;> rfl

@[simp] theorem StopLogic.unmarked_holdOrder (m : Bool) (x : StopLogic) : (x.unmarked m).holdOrder = x.holdOrder := by
  unfold unmarked; split
  · rw [lined_holdOrder, restarts_holdOrder]
  · rfl

theorem markWaiting_keepsTable {p : Prop} (s : State) (n : Nat) : KeepsTable p s (s.markWaiting n) := by
  unfold State.markWaiting
  split
  · exact .refl s
  · have hst := waitingRises_stops (s.modStation n fun x => { x with waiting := some s.timeOfDay }) (sectionOfStation s n)
    refine .of_stops (by simp) (by simp) (by simp) (by simp)
      (requestsHaveCauses_of_alter hst fun x => StopLogic.inLine_marked) fun m => ?_
    rw [hst]; exact holdOrder_of_alter StopLogic.marked_holdOrder m

theorem clearWaiting_keepsTable {p : Prop} (s : State) (n : Nat) : KeepsTable p s (s.clearWaiting n) := by
  unfold State.clearWaiting
  split
  · exact .refl s
  · have hst := waitingFalls_stops (s.modStation n fun x => { x with waiting := none }) (sectionOfStation s n)
    refine .of_stops (by simp) (by simp) (by simp) (by simp)
      (requestsHaveCauses_of_alter hst fun x => StopLogic.inLine_unmarked _) fun m => ?_
    rw [hst]; exact holdOrder_of_alter (StopLogic.unmarked_holdOrder _) m

theorem giveRestart_keepsTable {p : Prop} (s : State) (n : Nat) : KeepsTable p s (s.giveRestart n) := by
  refine .of_stops (by simp) (by simp) (by simp) (by simp)
    (requestsHaveCauses_of_alter (giveRestart_stops s n) fun x _ => StopLogic.inLine_lined _) fun m => ?_
  rw [giveRestart_stops]
  exact holdOrder_of_alter (f := fun x => StopLogic.lined { x with pending := false }) (fun _ => rfl) m

/-! ## Travel, ticks and expiries (R55, R67, R98) -/

/-- Records changed in place, with no word of stop logic. -/
theorem KeepsTable.of_records {p : Prop} {s t : State} {g : Call → Call} (hc : t.calls = s.calls.map g)
    (ha : t.arrivalCount = s.arrivalCount) (hd : t.defs = s.defs) (hm : t.mode = s.mode)
    (horder : ∀ n, (pick t.stops n).holdOrder = (pick s.stops n).holdOrder)
    (hcauses : requestsHaveCauses s → requestsHaveCauses t)
    (hg : ∀ c, SameRecord c (g c) ∧ (g c).state = c.state ∧ (c.distance = none → (g c).distance = none)) :
    KeepsTable p s t :=
  .of_map hc ha hd hm (fun _ c _ => (hg c).1) hcauses fun _ => holdOrdersAgree_of_map hc horder fun c _ =>
    ⟨(hg c).1, by rw [(hg c).2.1], fun h hs => (hg c).2.2 (h ((hg c).2.1 ▸ hs))⟩

theorem forwardDistance_keepsTable {p : Prop} (s : State) (n k : Nat) : KeepsTable p s (s.forwardDistance n k) := by
  refine .of_records (g := countDown n k) rfl rfl rfl rfl
    (fun m => holdOrder_of_alter (n := n) (f := fun x => { x with coast := saturate 65535 k x.coast })
      (fun _ => rfl) m)
    (requestsHaveCauses_of_alter (n := n) (f := fun x => { x with coast := saturate 65535 k x.coast }) rfl
      fun x h => h) fun c => ?_
  unfold countDown
  split
  · exact ⟨⟨rfl, rfl, rfl, rfl, rfl⟩, rfl, fun h => by simp [h]⟩
  · exact ⟨sameRecord_refl c, rfl, id⟩

theorem backwardJump_keepsTable {p : Prop} (s : State) (n k : Nat) (d : SectionDef) : KeepsTable p s (s.backwardJump n k d) := by
  refine .of_records (t := s.backwardJump n k d) rfl rfl rfl rfl (fun _ => rfl) id fun c => ?_
  split
  · exact ⟨⟨rfl, rfl, rfl, rfl, rfl⟩, rfl, fun h => by simp [h]⟩
  · exact ⟨sameRecord_refl c, rfl, id⟩

/-- R67: a tick booked at section n, to the first call of its hold order or to its unattributed time. That it is the tick's
own operation says `tick_eq`. -/
def State.bookStop (s : State) (n : Nat) : State :=
  let x := pick s.stops n
  if x.request then
    match x.holdOrder with
    | first :: _ => s.modCall first fun c => { c with heldTime := saturate maxTenths 1 c.heldTime }
    | [] => s.modStop n fun x => { x with unattributed := saturate maxTenths 1 x.unattributed }
  else s

theorem bookStop_keepsTable {p : Prop} (s : State) (n : Nat) : KeepsTable p s (s.bookStop n) := by
  unfold State.bookStop
  dsimp only
  split
  · split
    · next first _ _ =>
      refine .of_records (t := s.modCall first _) rfl rfl rfl rfl (fun _ => rfl) id fun c => ?_
      split
      · exact ⟨⟨rfl, rfl, rfl, rfl, rfl⟩, rfl, id⟩
      · exact ⟨sameRecord_refl c, rfl, id⟩
    · exact .of_stops rfl rfl rfl rfl
        (requestsHaveCauses_of_alter (n := n)
          (f := fun x => { x with unattributed := saturate maxTenths 1 x.unattributed }) rfl fun x h => h)
        fun m => holdOrder_of_alter (n := n)
          (f := fun x => { x with unattributed := saturate maxTenths 1 x.unattributed }) (fun _ => rfl) m
  · exact .refl s

theorem lowerEscalation_keepsTable {p : Prop} (s : State) : KeepsTable p s s.lowerEscalation := by
  unfold State.lowerEscalation
  split
  · exact .refl s
  · exact .of_records (t := { s with calls := s.calls.map fun c => { c with timer := lower c.timer } }) rfl rfl rfl rfl
      (fun _ => rfl) id fun c => ⟨⟨rfl, rfl, rfl, rfl, rfl⟩, rfl, id⟩

/-- R55: the calls expired on a section enter HOLDING one after another; each of them is still OPEN at its turn. -/
theorem expireStops_keepsTable {p : Prop} (ks : List Nat) (s : State) (hn : ks.Nodup)
    (hk : ∀ k ∈ ks, ∃ c ∈ s.calls, c.number = k ∧ c.distance = some 0) :
    KeepsTable p s (ks.foldl State.expireStop s) := by
  induction ks generalizing s with
  | nil => exact .refl s
  | cons k ks ih =>
    rw [List.nodup_cons] at hn
    have now : KeepsTable p s (s.expireStop k) := expireStop_keepsTable fun ho h c hc => by
      obtain ⟨x, hx, e, hd⟩ := hk k (List.mem_cons_self ..)
      obtain rfl := eq_of_number ho (callOf_mem hc) hx (e.trans (callOf_number hc).symm)
      intro hs
      have := h.1 x hx (by rw [hs]; decide)
      rw [hd] at this; cases this
    refine now.trans (ih _ hn.2 fun j hj => ?_)
    obtain ⟨x, hx, rfl, hd⟩ := hk j (List.mem_cons_of_mem _ hj)
    refine ⟨x, ?_, rfl, hd⟩
    cases hf : s.callOf k with
    | none => rw [expireStop_of_none hf]; exact hx
    | some c =>
      rw [expireStop_calls hf]
      refine List.mem_map.mpr ⟨x, hx, if_neg fun e => hn.1 ?_⟩
      rw [← callOf_number hf, ← e]; exact hj

end Sys2Proof.Machine
end

section
/-! PROOFS. OutputsFollow: the equation unit keeps the flags, relays and tune channels as the outputs of its equations have
them (R113, R115, R116), while the definitions pass the checks of ENTER RUN: no flag then has two equations. -/

namespace Sys2Proof.Machine

/-! ## What passes the checks of ENTER RUN (R189) -/

/-- In definitions that agree, no equation of 1 to 48 is out of order. -/
theorem equationFails_of_agree {d : Definitions} (h : configCheck d = none) {i : Nat} (h1 : 1 ≤ i) (h2 : i ≤ 48) :
    equationFails d i = false := by
  unfold configCheck at h
  simp only [Option.or_eq_none_iff, firstFailing, Option.map_eq_none_iff, List.find?_eq_none] at h
  obtain ⟨⟨-, he⟩, -⟩ := h
  simpa using he i (mem_numbers.mpr ⟨h1, h2⟩)

/-- R113: one equation for a flag. -/
theorem flag_of_one_equation {d : Definitions} (h : configCheck d = none) {i j f : Nat} {e x : EquationDef}
    (hi : pick d.equations i = some e) (hj : pick d.equations j = some x) (he : e.target = .flag f)
    (hx : x.target = .flag f) (hi1 : 1 ≤ i) (hi2 : i ≤ 48) (hj1 : 1 ≤ j) (hj2 : j ≤ 48) : i = j := by
  have before : ∀ {i j : Nat} {e x : EquationDef}, pick d.equations i = some e → pick d.equations j = some x →
      e.target = .flag f → x.target = .flag f → 1 ≤ i → j ≤ 48 → i < j → False := by
    intro i j e x hi hj he hx h1 h2 hlt
    have hok := equationFails_of_agree h (i := j) (by omega) h2
    unfold equationFails at hok
    simp only [hj, hx, Bool.or_eq_false_iff] at hok
    have : flagTargeted d f 1 (j - 1) = true := by
      unfold flagTargeted
      rw [List.any_eq_true]
      refine ⟨i, mem_numbers.mpr ⟨h1, by omega⟩, ?_⟩
      simp [within, hi, he]; omega
    rw [this] at hok; exact absurd hok.1 (by decide)
  rcases Nat.lt_trichotomy i j with hlt | heq | hgt
  · exact (before hi hj he hx hi1 hj2 hlt).elim
  · exact heq
  · exact (before hj hi hx he hj1 hi2 hgt).elim

/-! ## The outputs, each as a function of the equations -/

/-- R113, R115, R116: the outputs in the form in which the equation unit computes them. -/
def outputsComputed (s : State) : Prop :=
  (∀ i e f, 1 ≤ i → i ≤ 48 → s.equationDef i = some e → e.target = .flag f → 1 ≤ f → f ≤ 32 →
    pick s.flags f = (pick s.equations i).output)
  ∧ (∀ r, 1 ≤ r → r ≤ 8 → pick s.relays r = relayDriven s r)
  ∧ ∀ c, 1 ≤ c → c ≤ 4 → pick s.tunes c = tuneDriven s c

theorem drives_iff {s : State} {p : Target → Bool} {i : Nat} :
    drives s p i = true ↔ ∃ e, s.equationDef i = some e ∧ p e.target = true ∧ (pick s.equations i).output = true := by
  unfold drives; split
  · next e h => simp [h]
  · next h => simp [h]

theorem relayDriven_iff {s : State} {r : Nat} : relayDriven s r = true ↔
    ∃ i e, 1 ≤ i ∧ i ≤ 48 ∧ s.equationDef i = some e ∧ e.target = .relay r ∧ (pick s.equations i).output = true := by
  unfold relayDriven
  rw [List.any_eq_true]
  refine exists_congr fun i => ?_
  rw [mem_numbers, drives_iff]
  constructor
  · rintro ⟨⟨h1, h2⟩, e, he, ht, ho⟩; exact ⟨e, h1, h2, he, by simpa using ht, ho⟩
  · rintro ⟨e, h1, h2, he, ht, ho⟩; exact ⟨⟨h1, h2⟩, e, he, by simpa using ht, ho⟩

/-- Whether a target is tune channel c. -/
def isTune (c : Nat) (t : Target) : Bool := match t with
  | .tune ch _ => ch == c
  | _ => false

theorem isTune_iff {c : Nat} {t : Target} : isTune c t = true ↔ ∃ number, t = .tune c number := by
  unfold isTune; split
  · simp
  · next h => simp; exact fun n e => h c n e

/-- The numbers are found in ascending order. -/
theorem numbers_find_first {n i : Nat} {p : Nat → Bool} (h : (numbers n).find? p = some i) :
    p i = true ∧ 1 ≤ i ∧ i ≤ n ∧ ∀ j, 1 ≤ j → j < i → p j = false := by
  rw [List.find?_eq_some_iff_append] at h
  obtain ⟨hp, as, bs, hab, hnot⟩ := h
  have hsplit : as.length < (numbers n).length := by rw [hab]; simp
  have hget : ∀ k (hk : k < (numbers n).length), (numbers n)[k] = k + 1 := by intro k hk; simp [numbers]
  have hlen : (numbers n).length = n := by simp [numbers]
  have hi : i = as.length + 1 := by
    rw [← hget as.length hsplit]; simp [hab]
  refine ⟨hp, by omega, by omega, fun j h1 h2 => ?_⟩
  have hj : j ∈ as := by
    rw [List.mem_iff_getElem]
    refine ⟨j - 1, by omega, ?_⟩
    have := hget (j - 1) (by omega)
    simp only [hab, List.getElem_append] at this
    rw [dif_pos (by omega)] at this
    omega
  simpa using hnot j hj

/-- R116: the tune channel, by its lowest equation with the output true. -/
theorem tuneDriven_eq (s : State) (c : Nat) : tuneDriven s c =
    match (numbers 48).find? (drives s (isTune c)) with
    | some i => match s.equationDef i with
      | some e => match e.target with
        | .tune _ number => number
        | _ => 0
      | none => 0
    | none => 0 := rfl

theorem tuneDriven_iff {s : State} {c v : Nat} : v = tuneDriven s c ↔
    (∀ i e number, 1 ≤ i → i ≤ 48 → s.equationDef i = some e → e.target = .tune c number →
      (pick s.equations i).output = true →
      (∀ j x k, 1 ≤ j → j < i → s.equationDef j = some x → x.target = .tune c k →
        (pick s.equations j).output = false) → v = number)
    ∧ ((∀ i e number, 1 ≤ i → i ≤ 48 → s.equationDef i = some e → e.target = .tune c number →
        (pick s.equations i).output = false) → v = 0) := by
  have drivesTune : ∀ i, drives s (isTune c) i = true ↔
      ∃ e number, s.equationDef i = some e ∧ e.target = .tune c number ∧ (pick s.equations i).output = true := by
    intro i
    rw [drives_iff]
    refine exists_congr fun e => ?_
    rw [isTune_iff]
    constructor
    · rintro ⟨h1, ⟨n, h2⟩, h3⟩; exact ⟨n, h1, h2, h3⟩
    · rintro ⟨n, h1, h2, h3⟩; exact ⟨h1, ⟨n, h2⟩, h3⟩
  rw [tuneDriven_eq]
  cases hf : (numbers 48).find? (drives s (isTune c)) with
  | none =>
    have none : ∀ i e number, 1 ≤ i → i ≤ 48 → s.equationDef i = some e → e.target = .tune c number →
        (pick s.equations i).output = false := by
      intro i e number h1 h2 he ht
      by_contra ho
      exact List.find?_eq_none.mp hf i (mem_numbers.mpr ⟨h1, h2⟩)
        ((drivesTune i).mpr ⟨e, number, he, ht, by simpa using ho⟩)
    constructor
    · rintro rfl
      refine ⟨fun i e number h1 h2 he ht ho _ => ?_, fun _ => rfl⟩
      rw [none i e number h1 h2 he ht] at ho; cases ho
    · exact fun h => h.2 none
  | some i =>
    obtain ⟨hp, h1, h2, first⟩ := numbers_find_first hf
    obtain ⟨e, number, he, ht, ho⟩ := (drivesTune i).mp hp
    have firstOnly : ∀ j x k, 1 ≤ j → j < i → s.equationDef j = some x → x.target = .tune c k →
        (pick s.equations j).output = false := by
      intro j x k hj1 hj2 hx hk
      by_contra hout
      have := (drivesTune j).mpr ⟨x, k, hx, hk, by simpa using hout⟩
      rw [first j hj1 hj2] at this; cases this
    simp only [he, ht]
    constructor
    · intro hv
      refine ⟨fun j x k hj1 hj2 hx hk hout hfirst => ?_, fun all => ?_⟩
      · rcases Nat.lt_trichotomy i j with hlt | rfl | hgt
        · rw [hfirst i e number h1 hlt he ht] at ho; cases ho
        · rw [he] at hx; cases hx; rw [ht] at hk; cases hk; exact hv
        · rw [firstOnly j x k hj1 hgt hx hk] at hout; cases hout
      · rw [all i e number h1 h2 he ht] at ho; cases ho
    · exact fun h => h.1 i e number h1 h2 he ht ho firstOnly

theorem outputsFollow_iff {s : State} : outputsFollow s ↔ outputsComputed s := by
  unfold outputsFollow outputsComputed
  refine and_congr Iff.rfl (and_congr ?_ ?_)
  · refine forall_congr' fun r => forall_congr' fun _ => forall_congr' fun _ => ?_
    rw [← relayDriven_iff, ← Bool.eq_iff_iff]
  · refine forall_congr' fun c => forall_congr' fun _ => forall_congr' fun _ => ?_
    rw [tuneDriven_iff]

/-! ## A pass of the equation unit -/

/-- The equation set to a new state, its target not yet. -/
def State.withEquation (s : State) (i : Nat) (e : EquationState) : State :=
  { s with equations := alter s.equations i fun _ => e }

theorem withEquation_output {s : State} {i j : Nat} {e : EquationState} (h1 : 1 ≤ j) (h2 : j ≤ 48) :
    (pick (s.withEquation i e).equations j).output = if j = i then e.output else (pick s.equations j).output := by
  show (pick (alter s.equations i fun _ => e) j).output = _
  rw [pick_alter_within _ _ h1 h2]; split <;> rfl

/-- An equation drives what it drove, unless its own output for its own target has changed. -/
theorem drives_withEquation {s : State} {i : Nat} {d : EquationDef} {e : EquationState} {p : Target → Bool}
    (hd : s.equationDef i = some d) (h : e.output = (pick s.equations i).output ∨ p d.target = false) {j : Nat}
    (h1 : 1 ≤ j) (h2 : j ≤ 48) : drives (s.withEquation i e) p j = drives s p j := by
  have def_eq : (s.withEquation i e).equationDef j = s.equationDef j := rfl
  unfold drives
  rw [def_eq, withEquation_output h1 h2]
  cases hj : s.equationDef j with
  | none => rfl
  | some x =>
    show (p x.target && _) = (p x.target && _)
    split
    · next hji =>
      subst hji
      rw [hd] at hj; cases hj
      rcases h with h | h
      · rw [h]
      · rw [h]; rfl
    · rfl

theorem relayDriven_withEquation {s : State} {i r : Nat} {d : EquationDef} {e : EquationState}
    (hd : s.equationDef i = some d) (h : e.output = (pick s.equations i).output ∨ d.target ≠ .relay r) :
    relayDriven (s.withEquation i e) r = relayDriven s r := by
  unfold relayDriven
  rw [Bool.eq_iff_iff, List.any_eq_true, List.any_eq_true]
  refine exists_congr fun j => and_congr_right fun hj => ?_
  rw [mem_numbers] at hj
  rw [drives_withEquation hd (h.imp id fun h => by simpa using h) hj.1 hj.2]

theorem find?_congr_mem {α : Type} {p q : α → Bool} {l : List α} (h : ∀ a ∈ l, p a = q a) : l.find? p = l.find? q := by
  induction l with
  | nil => rfl
  | cons a l ih =>
    rw [List.find?_cons, List.find?_cons, h a (List.mem_cons_self ..), ih fun b hb => h b (List.mem_cons_of_mem _ hb)]

theorem tuneDriven_withEquation {s : State} {i c : Nat} {d : EquationDef} {e : EquationState}
    (hd : s.equationDef i = some d) (h : e.output = (pick s.equations i).output ∨ isTune c d.target = false) :
    tuneDriven (s.withEquation i e) c = tuneDriven s c := by
  rw [tuneDriven_eq, tuneDriven_eq]
  have : (numbers 48).find? (drives (s.withEquation i e) (isTune c)) = (numbers 48).find? (drives s (isTune c)) :=
    find?_congr_mem fun j hj => drives_withEquation hd h (mem_numbers.mp hj).1 (mem_numbers.mp hj).2
  rw [this]; rfl

theorem settleEquation_eq (s : State) (i : Nat) (d : EquationDef) (e : EquationState) :
    settleEquation s i d e = if e.output = (pick s.equations i).output then (s.withEquation i e, [])
      else applyTarget (s.withEquation i e) d.target e.output := rfl

/-- What the target of an equation becomes, once its output has changed. -/
theorem applyTarget_computed {s : State} {i : Nat} {d : EquationDef} {e : EquationState}
    (hc : configCheck s.defs = none) (hd : s.equationDef i = some d) (h1 : 1 ≤ i) (h2 : i ≤ 48)
    (h : outputsComputed s) : outputsComputed (applyTarget (s.withEquation i e) d.target e.output).1 := by
  obtain ⟨hf, hr, ht⟩ := h
  set t := s.withEquation i e with hdef
  have flagElse : ∀ j x f, 1 ≤ j → j ≤ 48 → s.equationDef j = some x → x.target = .flag f → 1 ≤ f → f ≤ 32 →
      d.target ≠ .flag f → pick s.flags f = (pick t.equations j).output := by
    intro j x f hj1 hj2 hx hxt hf1 hf2 hne
    rw [hdef, withEquation_output hj1 hj2, hf j x f hj1 hj2 hx hxt hf1 hf2, if_neg]
    rintro rfl
    rw [hd] at hx; cases hx; exact hne hxt
  have relayElse : ∀ r, 1 ≤ r → r ≤ 8 → d.target ≠ .relay r → pick s.relays r = relayDriven t r :=
    fun r r1 r2 hne => by rw [hdef, relayDriven_withEquation hd (.inr hne)]; exact hr r r1 r2
  have tuneElse : ∀ c, 1 ≤ c → c ≤ 4 → isTune c d.target = false → pick s.tunes c = tuneDriven t c :=
    fun c c1 c2 hne => by rw [hdef, tuneDriven_withEquation hd (.inr hne)]; exact ht c c1 c2
  cases hdt : d.target with
  | flag f =>
    rw [hdt] at flagElse relayElse tuneElse
    have own : ∀ j x, 1 ≤ j → j ≤ 48 → s.equationDef j = some x → x.target = .flag f →
        (pick t.equations j).output = e.output := by
      intro j x hj1 hj2 hx hxt
      obtain rfl := flag_of_one_equation hc hx hd hxt hdt hj1 hj2 h1 h2
      rw [hdef, withEquation_output hj1 hj2, if_pos rfl]
    simp only [applyTarget]
    split
    · next same =>
      refine ⟨fun j x k hj1 hj2 hx hxt hk1 hk2 => ?_, fun r r1 r2 => relayElse r r1 r2 nofun,
        fun c c1 c2 => tuneElse c c1 c2 rfl⟩
      by_cases hk : k = f
      · subst hk; rw [own j x hj1 hj2 hx hxt]; exact same
      · exact flagElse j x k hj1 hj2 hx hxt hk1 hk2 fun e => hk (by injection e with e; exact e.symm)
    · refine ⟨fun j x k hj1 hj2 hx hxt hk1 hk2 => ?_, fun r r1 r2 => relayElse r r1 r2 nofun,
        fun c c1 c2 => tuneElse c c1 c2 rfl⟩
      show pick (alter t.flags f fun _ => e.output) k = (pick t.equations j).output
      rw [pick_alter_within _ _ hk1 hk2]
      by_cases hk : k = f
      · subst hk; rw [if_pos rfl, own j x hj1 hj2 hx hxt]
      · rw [if_neg hk]
        exact flagElse j x k hj1 hj2 hx hxt hk1 hk2 fun e => hk (by injection e with e; exact e.symm)
  | relay r =>
    rw [hdt] at flagElse relayElse tuneElse
    simp only [applyTarget]
    split
    · next same =>
      refine ⟨fun j x k hj1 hj2 hx hxt hk1 hk2 => flagElse j x k hj1 hj2 hx hxt hk1 hk2 nofun,
        fun k k1 k2 => ?_, fun c c1 c2 => tuneElse c c1 c2 rfl⟩
      by_cases hk : k = r
      · subst hk; exact same
      · exact relayElse k k1 k2 fun e => hk (by injection e with e; exact e.symm)
    · refine ⟨fun j x k hj1 hj2 hx hxt hk1 hk2 => flagElse j x k hj1 hj2 hx hxt hk1 hk2 nofun,
        fun k k1 k2 => ?_, fun c c1 c2 => tuneElse c c1 c2 rfl⟩
      show pick (alter t.relays r fun _ => relayDriven t r) k = relayDriven t k
      rw [pick_alter_within _ _ k1 k2]
      split
      · next hk => rw [hk]
      · next hk => exact relayElse k k1 k2 fun e => hk (by injection e with e; exact e.symm)
  | tune c number =>
    rw [hdt] at flagElse relayElse tuneElse
    refine ⟨fun j x k hj1 hj2 hx hxt hk1 hk2 => flagElse j x k hj1 hj2 hx hxt hk1 hk2 nofun,
      fun k k1 k2 => relayElse k k1 k2 nofun, fun k k1 k2 => ?_⟩
    show pick (alter t.tunes c fun _ => tuneDriven t c) k = tuneDriven t k
    rw [pick_alter_within _ _ k1 k2]
    split
    · next hk => rw [hk]
    · next hk => exact tuneElse k k1 k2 (by simpa [isTune] using fun e => hk e.symm)

theorem settleEquation_computed {s : State} {i : Nat} {d : EquationDef} {e : EquationState}
    (hc : configCheck s.defs = none) (hd : s.equationDef i = some d) (h1 : 1 ≤ i) (h2 : i ≤ 48)
    (h : outputsComputed s) : outputsComputed (settleEquation s i d e).1 := by
  rw [settleEquation_eq]
  split
  · next same =>
    obtain ⟨hf, hr, ht⟩ := h
    refine ⟨fun j x f hj1 hj2 hx hxt hf1 hf2 => ?_, fun r r1 r2 => ?_, fun c c1 c2 => ?_⟩
    · rw [withEquation_output hj1 hj2]
      refine (hf j x f hj1 hj2 hx hxt hf1 hf2).trans ?_
      split
      · next hji => rw [hji, same]
      · rfl
    · rw [relayDriven_withEquation hd (.inl same)]; exact hr r r1 r2
    · rw [tuneDriven_withEquation hd (.inl same)]; exact ht c c1 c2
  · exact applyTarget_computed hc hd h1 h2 h

theorem settleEquation_defs (s : State) (i : Nat) (d : EquationDef) (e : EquationState) :
    (settleEquation s i d e).1.defs = s.defs := (congrArg State.defs (settleEquation_butEquations s i d e) :)

theorem passOne_computed {b : Bool} {acc : State × List Change} {i : Nat} (hc : configCheck acc.1.defs = none)
    (h1 : 1 ≤ i) (h2 : i ≤ 48) (h : outputsComputed acc.1) : outputsComputed (passOne b acc i).1 := by
  unfold passOne
  split
  · exact h
  · next d hd =>
    have expired : ∀ x : State × List Change, x = (if b && (pick acc.1.equations i).timer == some 0 then
          ((settleEquation acc.1 i d (takeExpiry d.delay (pick acc.1.equations i))).1,
            acc.2 ++ (settleEquation acc.1 i d (takeExpiry d.delay (pick acc.1.equations i))).2) else acc) →
        x.1.defs = acc.1.defs ∧ outputsComputed x.1 := by
      rintro x rfl
      split
      · exact ⟨settleEquation_defs .., settleEquation_computed hc hd h1 h2 h⟩
      · exact ⟨rfl, h⟩
    obtain ⟨edefs, eout⟩ := expired _ rfl
    dsimp only
    split
    · exact settleEquation_computed (by rw [edefs]; exact hc)
        (show pick _ i = _ by rw [edefs]; exact hd) h1 h2 eout
    · exact eout

theorem equationPass_computed {b : Bool} {cs : List Change} {s : State} (hc : configCheck s.defs = none)
    (h : outputsComputed s) : outputsComputed (equationPass b cs s) := by
  have all : ∀ (is : List Nat) (acc : State × List Change), (∀ i ∈ is, 1 ≤ i ∧ i ≤ 48) → acc.1.defs = s.defs →
      outputsComputed acc.1 → outputsComputed (is.foldl (passOne b) acc).1 := by
    intro is
    induction is with
    | nil => exact fun _ _ _ h => h
    | cons i is ih =>
      intro acc hin hd hacc
      obtain ⟨h1, h2⟩ := hin i (List.mem_cons_self ..)
      refine ih _ (fun j hj => hin j (List.mem_cons_of_mem _ hj)) ?_ (passOne_computed (by rw [hd]; exact hc) h1 h2 hacc)
      exact ((congrArg State.defs (passOne_butEquations b acc i) :)).trans hd
  exact all (numbers 48) (s, cs) (fun i hi => mem_numbers.mp hi) rfl h

/-- R113–R116: what the equation unit does on a change keeps its outputs with its equations. -/
theorem handOn_outputsFollow {s : State} (cs : List Change) (hc : s.mode = .run → configCheck s.defs = none)
    (h : outputsFollow s) : outputsFollow (s.handOn cs) := by
  unfold State.handOn
  split
  · next hm => exact outputsFollow_iff.mpr (equationPass_computed (hc hm) (outputsFollow_iff.mp h))
  · exact h

end Sys2Proof.Machine
end

section
/-! PROOFS. QueuesKept: what a change of the state keeps of the queues, the history, the trackers, the idle CONFIG and the
outputs; and that the shared operations keep all of it. -/

namespace Sys2Proof.Machine

/-! ## The relation -/

/-- R23, R92, R117, R173, R188: CONFIG is idle, but for the standing calls. -/
def restIdle (s : State) : Prop :=
  s.mode = .config → s.shiftState = .none ∧ s.loopA.polled = none ∧ s.loopB.polled = none ∧ s.link.inFlight = none
    ∧ equationsIdle s

theorem configIdle_iff {s : State} (h : shiftPresent s) : configIdle s ↔ callsIdle s ∧ restIdle s := by
  unfold configIdle callsIdle restIdle
  constructor
  · intro k
    refine ⟨fun e => (k e).1, fun e => ?_⟩
    obtain ⟨-, h1, -, h2⟩ := k e
    exact ⟨h1, h2⟩
  · rintro ⟨k, r⟩ e
    exact ⟨k e, (r e).1, h.mp (r e).1, (r e).2⟩

/-- What a change of the state keeps of the host link's queues, the history queue, the trackers, the idle CONFIG and the
outputs of the equation unit. -/
structure KeepsRest (s t : State) : Prop where
  outbound : s.host.outbound.length ≤ Config.outboundCapacity → t.host.outbound.length ≤ Config.outboundCapacity
  requests : s.host.requests.length ≤ Config.requestCapacity → t.host.requests.length ≤ Config.requestCapacity
  history : s.history.length ≤ Config.historyCapacity → t.history.length ≤ Config.historyCapacity
  order : historyInOrder s → historyInOrder t
  trackers : trackersInRange s → trackersInRange t
  idle : restIdle s → shiftPresent s → restIdle t ∧ shiftPresent t
  agree : definitionsAgree s → definitionsAgree t
  outputs : restIdle s → shiftPresent s → definitionsAgree s → outputsFollow s → outputsFollow t

theorem KeepsRest.refl (s : State) : KeepsRest s s :=
  ⟨id, id, id, id, id, fun a b => ⟨a, b⟩, id, fun _ _ _ => id⟩

theorem KeepsRest.trans {s t u : State} (h : KeepsRest s t) (k : KeepsRest t u) : KeepsRest s u :=
  ⟨k.outbound ∘ h.outbound, k.requests ∘ h.requests, k.history ∘ h.history, k.order ∘ h.order, k.trackers ∘ h.trackers,
    fun a b => k.idle (h.idle a b).1 (h.idle a b).2, k.agree ∘ h.agree,
    fun a b c d => k.outputs (h.idle a b).1 (h.idle a b).2 (h.agree c) (h.outputs a b c d)⟩

/-- What of the state these invariants read, but for the host link's queues and the equation unit. -/
def State.restCore (s : State) : State :=
  { State.reset with
    mode := s.mode, defs := s.defs, store := s.store, trackers := s.trackers, history := s.history
    nextSeq := s.nextSeq, shiftState := s.shiftState, shift := s.shift
    loopA := { startLoop with polled := s.loopA.polled }, loopB := { startLoop with polled := s.loopB.polled }
    link := { startBoardLink with inFlight := s.link.inFlight } }

/-- The equation unit as it was. -/
def sameUnit (s t : State) : Prop :=
  t.equations = s.equations ∧ t.flags = s.flags ∧ t.relays = s.relays ∧ t.tunes = s.tunes

theorem outputsFollow_congr {s t : State} (hd : t.defs = s.defs) (hu : sameUnit s t) (h : outputsFollow s) :
    outputsFollow t := by
  obtain ⟨h1, h2, h3, h4⟩ := hu
  unfold outputsFollow State.equationDef at *
  rw [hd, h1, h2, h3, h4]; exact h

theorem equationsIdle_congr {s t : State} (hu : sameUnit s t) (h : equationsIdle s) : equationsIdle t := by
  obtain ⟨h1, h2, h3, h4⟩ := hu
  unfold equationsIdle; rw [h1, h2, h3, h4]; exact h

theorem KeepsRest.of_core {s t : State} (h : t.restCore = s.restCore)
    (ho : s.host.outbound.length ≤ Config.outboundCapacity → t.host.outbound.length ≤ Config.outboundCapacity)
    (hr : s.host.requests.length ≤ Config.requestCapacity → t.host.requests.length ≤ Config.requestCapacity)
    (hu : s.mode = .config → restIdle s → sameUnit s t)
    (hf : restIdle s → definitionsAgree s → outputsFollow s → outputsFollow t) :
    KeepsRest s t := by
  have hm : t.mode = s.mode := (congrArg State.mode h :)
  have hd : t.defs = s.defs := (congrArg State.defs h :)
  have carry : ∀ p : State → Prop, (∀ x, p x ↔ p x.restCore) → (p s → p t) := fun p hp hs => by
    rw [hp, h, ← hp]; exact hs
  refine ⟨ho, hr, carry (fun x => x.history.length ≤ Config.historyCapacity) fun _ => .rfl,
    carry historyInOrder fun _ => .rfl, carry trackersInRange fun _ => .rfl,
    fun hi hp => ⟨fun e => ?_, carry shiftPresent (fun _ => .rfl) hp⟩, carry definitionsAgree fun _ => .rfl,
    fun hi _ => hf hi⟩
  have he := hm ▸ e
  obtain ⟨h1, h2, h3, h4, h5⟩ := hi he
  have ha : t.loopA.polled = s.loopA.polled := (congrArg (fun x => x.loopA.polled) h :)
  have hb : t.loopB.polled = s.loopB.polled := (congrArg (fun x => x.loopB.polled) h :)
  have hl : t.link.inFlight = s.link.inFlight := (congrArg (fun x => x.link.inFlight) h :)
  have hst : t.shiftState = s.shiftState := (congrArg State.shiftState h :)
  exact ⟨hst ▸ h1, ha ▸ h2, hb ▸ h3, hl ▸ h4, equationsIdle_congr (hu he hi) h5⟩

/-- A change of none of these parts but the host link. -/
theorem KeepsRest.of_host {s t : State} (h : t.restCore = s.restCore) (hu : sameUnit s t)
    (ho : s.host.outbound.length ≤ Config.outboundCapacity → t.host.outbound.length ≤ Config.outboundCapacity)
    (hr : s.host.requests.length ≤ Config.requestCapacity → t.host.requests.length ≤ Config.requestCapacity) :
    KeepsRest s t :=
  .of_core h ho hr (fun _ _ => hu) fun _ _ => outputsFollow_congr (congrArg State.defs h :) hu

/-- A change of none of these parts. -/
theorem KeepsRest.of_same {s t : State} (h : t.restCore = s.restCore) (hu : sameUnit s t) (hh : t.host = s.host) :
    KeepsRest s t :=
  .of_host h hu (by rw [hh]; exact id) (by rw [hh]; exact id)

theorem notify_keepsRest (s : State) (n : Notice) : KeepsRest s (s.notify n) := by
  obtain ⟨-, rest, room, -⟩ := notify_notified s n
  have hv := notify_butHost s n
  refine .of_host (congrArg State.restCore hv :)
    ⟨(congrArg State.equations hv :), (congrArg State.flags hv :), (congrArg State.relays hv :),
      (congrArg State.tunes hv :)⟩ (fun h => ?_) (fun h => ?_)
  · unfold Config.outboundCapacity at h ⊢; omega
  · rw [rest]; exact h

theorem handOn_keepsRest (s : State) (cs : List Change) : KeepsRest s (s.handOn cs) := by
  refine .of_core (congrArg State.restCore (handOn_butEquations s cs) :) (by rw [handOn_host]; exact id)
    (by rw [handOn_host]; exact id) (fun hm _ => ?_) (fun _ ha => handOn_outputsFollow cs ha)
  unfold State.handOn
  rw [if_neg (by rw [hm]; decide)]
  exact ⟨rfl, rfl, rfl, rfl⟩

theorem announceZone_core (s : State) (l : LoopId) (z : Nat) : (announceZone s l z).restCore = s.restCore := by
  unfold announceZone; dsimp only; split
  · rfl
  · cases l <;> rfl

theorem announce_core (s : State) (zs : List Nat) : (s.announce zs).restCore = s.restCore := by
  unfold State.announce; split
  · exact foldl_keeps State.restCore _ (fun t z => (announceZone_core _ .b z).trans (announceZone_core t .a z)) zs s
  · rfl

theorem announce_keepsRest (s : State) (zs : List Nat) : KeepsRest s (s.announce zs) := by
  have hv := announce_butLoops s zs
  exact .of_same (announce_core s zs)
    ⟨(congrArg State.equations hv :), (congrArg State.flags hv :), (congrArg State.relays hv :),
      (congrArg State.tunes hv :)⟩ (announce_host s zs)

/-- What changes boards and fields alone. -/
theorem KeepsRest.of_butBoards {s t : State} (h : t.butBoards = s.butBoards) : KeepsRest s t :=
  .of_same (congrArg State.restCore h :)
    ⟨(congrArg State.equations h :), (congrArg State.flags h :), (congrArg State.relays h :),
      (congrArg State.tunes h :)⟩ (congrArg State.host h :)

/-! ## The history queue (R142, R143) -/

theorem sequencesRun_next {h : List HistoryRecord} {n : Nat} (hs : sequencesRun h n) : n < 65536 := by
  induction h with
  | nil => exact hs
  | cons r h ih =>
    cases h with
    | nil => obtain ⟨-, e⟩ := hs; omega
    | cons q rest => exact ih hs.2.2

theorem sequencesRun_tail {r : HistoryRecord} {h : List HistoryRecord} {n : Nat} (hs : sequencesRun (r :: h) n) :
    sequencesRun h n := by
  cases h with
  | nil => exact sequencesRun_next hs
  | cons q rest => exact hs.2.2

theorem sequencesRun_drop {h : List HistoryRecord} {n : Nat} (k : Nat) (hs : sequencesRun h n) :
    sequencesRun (h.drop k) n := by
  induction k generalizing h with
  | zero => exact hs
  | succ k ih =>
    cases h with
    | nil => exact hs
    | cons r h => exact ih (sequencesRun_tail hs)

theorem wrap_eq_mod {n : Nat} (h : n < 65536) : wrap 65535 n = (n + 1) % 65536 := by unfold wrap; split <;> omega

theorem sequencesRun_append {h : List HistoryRecord} {n : Nat} (e : HistoryEntry) (hs : sequencesRun h n) :
    sequencesRun (h ++ [⟨n, e⟩]) (wrap 65535 n) := by
  have hn := sequencesRun_next hs
  rw [wrap_eq_mod hn]
  induction h with
  | nil => exact ⟨hn, rfl⟩
  | cons r h ih =>
    cases h with
    | nil => exact ⟨hs.1, hs.2, hn, rfl⟩
    | cons q rest => exact ⟨hs.1, hs.2.1, ih hs.2.2⟩

theorem historyOccasion_history (s : State) (b : Bool) :
    (s.historyOccasion b).history = s.history ∧ (s.historyOccasion b).nextSeq = s.nextSeq := by
  unfold State.historyOccasion
  exact ⟨notify_history .., notify_nextSeq ..⟩

/-- R143: the history queue with one record more. -/
theorem appendRecord_history (s : State) (e : HistoryEntry) :
    (s.appendRecord e).history =
        (if s.history.length < 128 then s.history else s.history.drop 1) ++ [⟨s.nextSeq, e⟩]
      ∧ (s.appendRecord e).nextSeq = wrap 65535 s.nextSeq := by
  unfold State.appendRecord Config.historyCapacity
  by_cases h : s.history.length < 128
  · simp only [h, decide_true, if_true]
    split
    · exact historyOccasion_history ..
    · exact ⟨rfl, rfl⟩
  · simp only [h, decide_false, if_false, Bool.false_eq_true]
    exact ⟨notify_history .., notify_nextSeq ..⟩

theorem historyOccasion_keepsRest (s : State) (b : Bool) : KeepsRest s (s.historyOccasion b) :=
  .trans (t := { s with staleTimer := some (staleLoad s) }) (.of_same rfl ⟨rfl, rfl, rfl, rfl⟩ rfl) (notify_keepsRest ..)

/-- A change of the history queue that keeps it in order and within its capacity. -/
theorem KeepsRest.of_history {s t : State} {h : List HistoryRecord} {n : Nat}
    (e : t.restCore = { s.restCore with history := h, nextSeq := n }) (hu : sameUnit s t) (hh : t.host = s.host)
    (hl : s.history.length ≤ Config.historyCapacity → h.length ≤ Config.historyCapacity)
    (hs : sequencesRun s.history s.nextSeq → sequencesRun h n) : KeepsRest s t := by
  have mid : KeepsRest { s with history := h, nextSeq := n } t := .of_same e hu hh
  refine .trans (t := { s with history := h, nextSeq := n }) ?_ mid
  exact ⟨id, id, hl, hs, id, fun a b => ⟨a, b⟩, id, fun _ _ _ => id⟩

theorem appendRecord_keepsRest (s : State) (e : HistoryEntry) : KeepsRest s (s.appendRecord e) := by
  have appended : ∀ (kept : List HistoryRecord) (dropped : Nat) (stale : Option Nat),
      (s.history.length ≤ Config.historyCapacity → kept.length < Config.historyCapacity) →
      (sequencesRun s.history s.nextSeq → sequencesRun kept s.nextSeq) →
      KeepsRest s { s with history := kept ++ [⟨s.nextSeq, e⟩], nextSeq := wrap 65535 s.nextSeq
                           overflowCount := dropped, staleTimer := stale } :=
    fun kept dropped stale hlen hrun =>
      .of_history rfl ⟨rfl, rfl, rfl, rfl⟩ rfl (fun h => by rw [List.length_append]; exact hlen h)
        fun h => sequencesRun_append e (hrun h)
  unfold State.appendRecord
  by_cases hroom : s.history.length < Config.historyCapacity
  · have kept := fun stale => appended s.history s.overflowCount stale (fun _ => hroom) id
    simp only [hroom, decide_true, if_true]
    split
    · exact (kept _).trans (historyOccasion_keepsRest ..)
    · exact kept _
  · have kept := fun dropped stale => appended (s.history.drop 1) dropped stale
      (fun h => by rw [List.length_drop]; unfold Config.historyCapacity at *; omega) (sequencesRun_drop 1)
    simp only [hroom, decide_false, if_false, Bool.false_eq_true]
    exact (kept _ _).trans (notify_keepsRest ..)

theorem modShift_keepsRest (s : State) (f : Shift → Shift) : KeepsRest s (s.modShift f) := by
  refine ⟨id, id, id, id, id, fun hi hp => ⟨hi, hp.trans ?_⟩, id, fun _ _ _ => id⟩
  show _ ↔ s.shift.map f = none
  simp

/-- The shared operations keep all of it. -/
theorem ByOps.keepsRest {s t : State} (h : ByOps s t) : KeepsRest s t := by
  induction h with
  | refl s => exact .refl s
  | trans _ _ h k => exact h.trans k
  | notify s n => exact notify_keepsRest s n
  | handOn s cs => exact handOn_keepsRest s cs
  | announce s zs => exact announce_keepsRest s zs
  | recompose s p => exact .of_butBoards (recompose_butBoards s p)
  | appendRecord s e => exact appendRecord_keepsRest s e
  | table h =>
    exact .of_same (congrArg State.restCore h :) ⟨(congrArg State.equations h :), (congrArg State.flags h :),
      (congrArg State.relays h :), (congrArg State.tunes h :)⟩ (congrArg State.host h :)
  | modShift s f => exact modShift_keepsRest s f

end Sys2Proof.Machine
end

section
/-! PROOFS. BoardQueuesKept: what enters and leaves a board queue (R164, R165, R177), and that every operation on the boards
keeps the queues within their depths and with one frame for each field. -/

namespace Sys2Proof.Machine

/-! ## The lowest priority of a queue -/

theorem foldl_min_le (xs : List Nat) (a : Nat) : xs.foldl min a ≤ a ∧ ∀ x ∈ xs, xs.foldl min a ≤ x := by
  induction xs generalizing a with
  | nil => simp
  | cons x xs ih =>
    obtain ⟨h1, h2⟩ := ih (min a x)
    refine ⟨h1.trans (Nat.min_le_left ..), fun y hy => ?_⟩
    rcases List.mem_cons.mp hy with rfl | hy
    · exact h1.trans (Nat.min_le_right ..)
    · exact h2 y hy

theorem foldl_min_mem (xs : List Nat) (a : Nat) : xs.foldl min a = a ∨ xs.foldl min a ∈ xs := by
  induction xs generalizing a with
  | nil => simp
  | cons x xs ih =>
    rw [List.foldl_cons]
    rcases ih (min a x) with h | h
    · rw [h]
      rcases Nat.le_total a x with hx | hx
      · rw [Nat.min_eq_left hx]; exact .inl rfl
      · rw [Nat.min_eq_right hx]; exact .inr (List.mem_cons_self ..)
    · exact .inr (List.mem_cons_of_mem _ h)

theorem lowestPriority_le {q : List BoardFrame} {y : BoardFrame} (h : y ∈ q) : lowestPriority q ≤ y.priority :=
  (foldl_min_le _ 3).2 _ (List.mem_map_of_mem h)

/-- R165: in a queue that is not empty some frame has the lowest priority. -/
theorem lowestPriority_attained {q : List BoardFrame} (hne : q ≠ []) (hp : ∀ y ∈ q, y.priority ≤ 3) :
    ∃ y ∈ q, y.priority = lowestPriority q := by
  rcases foldl_min_mem (q.map (·.priority)) 3 with h | h
  · obtain ⟨y, hy⟩ := List.exists_mem_of_ne_nil q hne
    refine ⟨y, hy, ?_⟩
    have h1 := lowestPriority_le hy
    have h2 := hp y hy
    have h3 : lowestPriority q = 3 := h
    omega
  · obtain ⟨y, hy, e⟩ := List.mem_map.mp h
    exact ⟨y, hy, e⟩

/-- The last frame of a priority splits the queue. -/
theorem split_last {p : Nat} {q : List BoardFrame} (h : ∃ y ∈ q, y.priority = p) :
    ∃ before x after, q = before ++ x :: after ∧ x.priority = p ∧ ∀ y ∈ after, y.priority ≠ p := by
  induction q with
  | nil => obtain ⟨y, hy, -⟩ := h; cases hy
  | cons z q ih =>
    by_cases hq : ∃ y ∈ q, y.priority = p
    · obtain ⟨before, x, after, rfl, hx, ha⟩ := ih hq
      exact ⟨z :: before, x, after, rfl, hx, ha⟩
    · obtain ⟨y, hy, e⟩ := h
      rcases List.mem_cons.mp hy with rfl | hy
      · exact ⟨[], y, q, rfl, e, fun w hw e => hq ⟨w, hw, e⟩⟩
      · exact absurd ⟨y, hy, e⟩ hq

theorem dropNewest_split {p : Nat} {before after : List BoardFrame} {x : BoardFrame} (hx : x.priority = p)
    (ha : ∀ y ∈ after, y.priority ≠ p) : dropNewest p (before ++ x :: after) = before ++ after := by
  unfold dropNewest
  rw [List.reverse_append, List.reverse_cons, List.append_assoc, List.eraseP_append_right]
  · simp [hx]
  · intro y hy; simpa using ha y (List.mem_reverse.mp hy)

/-- R165: a queue that is not empty splits at its newest frame of the lowest priority. -/
theorem newestLowest_exists {q : List BoardFrame} (hne : q ≠ []) (hp : ∀ y ∈ q, y.priority ≤ 3) :
    ∃ before x after, newestLowest q before x after := by
  obtain ⟨before, x, after, e, hx, ha⟩ := split_last (lowestPriority_attained hne hp)
  exact ⟨before, x, after, e, fun y hy => hx ▸ lowestPriority_le hy, fun y hy => hx ▸ ha y hy⟩

/-- R165: the frame dropped from a full queue is its newest frame of the lowest priority. -/
theorem lowestPriority_of_newestLowest {q before after : List BoardFrame} {x : BoardFrame}
    (h : newestLowest q before x after) (hp : ∀ y ∈ q, y.priority ≤ 3) : lowestPriority q = x.priority := by
  obtain ⟨e, hlow, -⟩ := h
  have hx : x ∈ q := by rw [e]; simp
  obtain ⟨y, hy, hy'⟩ := lowestPriority_attained (List.ne_nil_of_mem hx) hp
  have := lowestPriority_le hx
  have := hlow y hy
  omega

theorem dropNewest_of_newestLowest {q before after : List BoardFrame} {x : BoardFrame}
    (h : newestLowest q before x after) (hp : ∀ y ∈ q, y.priority ≤ 3) :
    dropNewest (lowestPriority q) q = before ++ after := by
  rw [lowestPriority_of_newestLowest h hp]
  obtain ⟨rfl, -, ha⟩ := h
  exact dropNewest_split rfl ha

/-! ## A queue that fits -/

/-- R153, R164: at most `depth` frames, no two of one field, priorities 0 to 3. -/
def queueFits (depth : Nat) (q : List BoardFrame) : Prop :=
  q.length ≤ depth ∧ (q.map (·.field)).Nodup ∧ ∀ fr ∈ q, fr.priority ≤ 3

theorem queueFits_supersede {depth : Nat} {q : List BoardFrame} (f : Nat) (c : Content) (h : queueFits depth q) :
    queueFits depth (q.map fun x => if x.field = f then supersede x c else x) := by
  obtain ⟨h1, h2, h3⟩ := h
  refine ⟨by rw [List.length_map]; exact h1, ?_, fun fr hfr => ?_⟩
  · rw [List.map_map]
    have : ((fun x : BoardFrame => x.field) ∘ fun x => if x.field = f then supersede x c else x) = (·.field) := by
      funext x; simp only [Function.comp]; split <;> rfl
    rw [this]; exact h2
  · obtain ⟨x, hx, rfl⟩ := List.mem_map.mp hfr
    split
    · exact h3 x hx
    · exact h3 x hx

theorem queueFits_sublist {depth : Nat} {q r : List BoardFrame} (hs : r.Sublist q) (h : queueFits depth q) :
    queueFits depth r :=
  ⟨hs.length_le.trans h.1, h.2.1.sublist (hs.map _), fun fr hfr => h.2.2 fr (hs.subset hfr)⟩

theorem queueFits_cons {depth : Nat} {q : List BoardFrame} {fr : BoardFrame} (h : queueFits depth q)
    (hroom : q.length < depth) (hf : ∀ y ∈ q, y.field ≠ fr.field) (hp : fr.priority ≤ 3) :
    queueFits depth (fr :: q) := by
  refine ⟨hroom, List.nodup_cons.mpr ⟨fun hm => ?_, h.2.1⟩, ?_⟩
  · obtain ⟨y, hy, e⟩ := List.mem_map.mp hm
    exact hf y hy e
  · intro y hy
    rcases List.mem_cons.mp hy with rfl | hy
    · exact hp
    · exact h.2.2 y hy

theorem queueFits_perm {depth : Nat} {q r : List BoardFrame} (hp : q.Perm r) (h : queueFits depth q) : queueFits depth r :=
  ⟨hp.length_eq ▸ h.1, (hp.map _).nodup_iff.mp h.2.1, fun fr hfr => h.2.2 fr (hp.mem_iff.mpr hfr)⟩

theorem queueFits_append {depth : Nat} {q : List BoardFrame} {fr : BoardFrame} (h : queueFits depth q)
    (hroom : q.length < depth) (hf : ∀ y ∈ q, y.field ≠ fr.field) (hp : fr.priority ≤ 3) :
    queueFits depth (q ++ [fr]) :=
  queueFits_perm (List.perm_append_singleton ..).symm (queueFits_cons h hroom hf hp)

/-- R165: with one frame dropped there is room for one. -/
theorem queueFits_dropNewest {depth : Nat} {q : List BoardFrame} (hd : 1 ≤ depth) (hfull : depth ≤ q.length)
    (h : queueFits depth q) :
    queueFits depth (dropNewest (lowestPriority q) q) ∧ (dropNewest (lowestPriority q) q).length < depth
      ∧ ∀ y ∈ dropNewest (lowestPriority q) q, y ∈ q := by
  have hne : q ≠ [] := by rintro rfl; simp at hfull; omega
  obtain ⟨before, x, after, hs⟩ := newestLowest_exists hne h.2.2
  rw [dropNewest_of_newestLowest hs h.2.2]
  obtain ⟨e, -, -⟩ := hs
  have sub : (before ++ after).Sublist q := by rw [e]; simp
  have hlen : (before ++ after).length < q.length := by rw [e]; simp
  exact ⟨queueFits_sublist sub h, hlen.trans_le h.1, fun y hy => sub.subset hy⟩

theorem enqueue_fits {depth : Nat} {fr : BoardFrame} {c : Content} {b : Board} (hd : 1 ≤ depth) (hp : fr.priority ≤ 3)
    (h : queueFits depth b.queue) : queueFits depth (enqueue depth fr c b).queue := by
  unfold enqueue
  split
  · exact queueFits_supersede _ c h
  · next hany =>
    have hf : ∀ y ∈ b.queue, y.field ≠ fr.field := by simpa using hany
    split
    · next hroom => exact queueFits_append h hroom hf hp
    · next hroom =>
      split
      · obtain ⟨k1, k2, k3⟩ := queueFits_dropNewest hd (by omega) h
        exact queueFits_append k1 k2 (fun y hy => hf y (k3 y hy)) hp
      · exact h

theorem priority_le_three (k : FieldKind) : k.priority ≤ 3 := by
  unfold FieldKind.priority; split <;> decide

/-! ## The boards of a state -/

/-- The queue of one board as the invariant has it. -/
def boardFits (s : State) (b : Nat) : Prop :=
  (s.mode = .config → (pick s.boards b).queue = []) ∧ queueFits ((s.boardDepth b).getD 0) (pick s.boards b).queue

/-- What the invariant has of the definitions and of the flight. -/
def linkFits (s : State) : Prop :=
  depthsInRange s.defs ∧ (∀ d, s.store = some d → depthsInRange d)
    ∧ (s.mode = .config → s.link.inFlight = none ∧ s.refreshTimer = none)
    ∧ (∀ b fr toggle, s.link.inFlight = some (.field b fr toggle) →
      1 ≤ b ∧ b ≤ 8 ∧ (s.boardDepth b).isSome = true ∧ fr.priority ≤ 3)
    ∧ ∀ b, s.link.inFlight = some (.probe b) → 1 ≤ b ∧ b ≤ 8 ∧ (s.boardDepth b).isSome = true

theorem boardQueuesFit_iff {s : State} : boardQueuesFit s ↔ linkFits s ∧ ∀ b, 1 ≤ b → b ≤ 8 → boardFits s b := by
  unfold boardQueuesFit linkFits
  constructor
  · rintro ⟨h1, h2, h3, h4, h5, h6⟩
    exact ⟨⟨h1, h2, h3, h4, h5⟩, h6⟩
  · rintro ⟨⟨h1, h2, h3, h4, h5⟩, h6⟩
    exact ⟨h1, h2, h3, h4, h5, h6⟩

/-- What a change of the boards in place keeps; `p` is what it presumes of the boards. -/
structure KeepsBoards (p : Prop) (s t : State) : Prop where
  rest : KeepsRest s t
  mode : t.mode = s.mode
  defs : t.defs = s.defs
  boards : p → boardQueuesFit s → boardQueuesFit t

theorem KeepsBoards.refl {p : Prop} (s : State) : KeepsBoards p s s := ⟨.refl s, rfl, rfl, fun _ => id⟩

theorem KeepsBoards.trans {p : Prop} {s t u : State} (h : KeepsBoards p s t) (k : KeepsBoards p t u) :
    KeepsBoards p s u :=
  ⟨h.rest.trans k.rest, k.mode.trans h.mode, k.defs.trans h.defs, fun hp => k.boards hp ∘ h.boards hp⟩

theorem KeepsBoards.ite {p : Prop} {s t u : State} {c : Prop} [Decidable c] (h : KeepsBoards p s t)
    (k : KeepsBoards p s u) : KeepsBoards p s (if c then t else u) := by
  split
  · exact h
  · exact k

theorem KeepsBoards.weaken {p q : Prop} {s t : State} (h : KeepsBoards p s t) (hq : q → boardQueuesFit s → p) :
    KeepsBoards q s t :=
  ⟨h.rest, h.mode, h.defs, fun hp hs => h.boards (hq hp hs) hs⟩

/-- What of the state the invariant of the board queues reads. -/
def State.queueView (s : State) : State :=
  { State.reset with mode := s.mode, defs := s.defs, store := s.store, boards := s.boards
                     refreshTimer := s.refreshTimer, link := { startBoardLink with inFlight := s.link.inFlight } }

theorem boardQueuesFit_of_view {s t : State} (h : t.queueView = s.queueView) (hs : boardQueuesFit s) :
    boardQueuesFit t := by
  have carry : ∀ x : State, boardQueuesFit x ↔ boardQueuesFit x.queueView := fun _ => .rfl
  rw [carry, h, ← carry]; exact hs

theorem KeepsBoards.of_view {p : Prop} {s t : State} (hr : KeepsRest s t) (h : t.queueView = s.queueView) :
    KeepsBoards p s t :=
  ⟨hr, (congrArg State.mode h :), (congrArg State.defs h :), fun _ => boardQueuesFit_of_view h⟩

/-- A change of boards and fields alone. -/
theorem KeepsBoards.of_boards {p : Prop} {s t : State} (h : t.butBoards = s.butBoards)
    (hb : p → linkFits s → (∀ b, 1 ≤ b → b ≤ 8 → boardFits s b) → ∀ b, 1 ≤ b → b ≤ 8 → boardFits t b) :
    KeepsBoards p s t := by
  refine ⟨.of_butBoards h, (congrArg State.mode h :), (congrArg State.defs h :), fun hp hs => ?_⟩
  obtain ⟨hl, hall⟩ := boardQueuesFit_iff.mp hs
  have carry : ∀ x : State, linkFits x ↔ linkFits x.butBoards := fun _ => .rfl
  exact boardQueuesFit_iff.mpr ⟨by rw [carry, h, ← carry]; exact hl, hb hp hl hall⟩

/-- One board changed, its queue as it was. -/
theorem modBoard_keeps {p : Prop} (s : State) (b : Nat) {f : Board → Board} (hf : ∀ x : Board, (f x).queue = x.queue) :
    KeepsBoards p s (s.modBoard b f) := by
  refine .of_boards rfl fun _ _ hall m h1 h2 => ?_
  have : (pick (s.modBoard b f).boards m).queue = (pick s.boards m).queue := by
    rw [modBoard_boards, pick_alter_within _ _ h1 h2]; split
    · exact hf _
    · rfl
  show (s.mode = .config → _ = []) ∧ queueFits ((s.boardDepth m).getD 0) _
  rw [this]; exact hall m h1 h2

/-- … followed by what keeps them. -/
theorem KeepsBoards.after {p : Prop} {s t : State} {b : Nat} {f : Board → Board} (k : KeepsBoards p (s.modBoard b f) t)
    (hf : ∀ x : Board, (f x).queue = x.queue := by intro _; rfl) : KeepsBoards p s t := (modBoard_keeps s b hf).trans k

theorem modField_keeps {p : Prop} (s : State) (b f : Nat) (g : FieldState → FieldState) :
    KeepsBoards p s (s.modField b f g) := .of_boards rfl fun _ _ hall => hall

/-- One board changed in RUN, its queue still fitting. -/
theorem modBoard_queue_keeps {p : Prop} {s : State} {b : Nat} {f : Board → Board} (hm : p → s.mode = .run)
    (hf : p → ∀ x : Board, 1 ≤ b → b ≤ 8 → linkFits s → x = pick s.boards b → queueFits ((s.boardDepth b).getD 0) x.queue →
      queueFits ((s.boardDepth b).getD 0) (f x).queue) :
    KeepsBoards p s (s.modBoard b f) := by
  refine .of_boards rfl fun hp hl hall m h1 h2 => ?_
  have hrun := hm hp
  refine ⟨fun e => absurd (hrun.symm.trans e) (by decide), ?_⟩
  show queueFits ((s.boardDepth m).getD 0) (pick (s.modBoard b f).boards m).queue
  rw [modBoard_boards, pick_alter_within _ _ h1 h2]
  split
  · next e => subst e; exact hf hp _ h1 h2 hl rfl (hall m h1 h2).2
  · exact (hall m h1 h2).2

/-- In RUN the board is defined. -/
def boardReady (s : State) (b : Nat) : Prop := s.mode = .run ∧ (s.boardDepth b).isSome = true

theorem KeepsBoards.ready {p : Prop} {s t : State} (h : KeepsBoards p s t) {b : Nat} (hb : boardReady s b) :
    boardReady t b := by
  obtain ⟨h1, h2⟩ := hb
  refine ⟨h.mode.trans h1, ?_⟩
  unfold State.boardDepth at *; rw [h.defs]; exact h2

theorem depth_of_ready {s : State} {b : Nat} (hl : linkFits s) (hb : boardReady s b) (h1 : 1 ≤ b) (h2 : b ≤ 8) :
    4 ≤ (s.boardDepth b).getD 0 := by
  obtain ⟨depth, hd⟩ := Option.isSome_iff_exists.mp hb.2
  rw [hd]; exact (hl.1 b h1 h2 depth hd).1

theorem enqueue_keeps {p : Prop} {s : State} {b depth : Nat} {fr : BoardFrame} (c : Content) (hm : p → s.mode = .run)
    (hd : s.boardDepth b = some depth) (hp : fr.priority ≤ 3) : KeepsBoards p s (s.modBoard b (enqueue depth fr c)) := by
  refine modBoard_queue_keeps hm fun h x h1 h2 hl _ hq => ?_
  have hdepth := depth_of_ready hl ⟨hm h, by rw [hd]; rfl⟩ h1 h2
  rw [hd] at hdepth hq ⊢
  exact enqueue_fits (Nat.le_trans (by decide) hdepth) hp hq

theorem recomposeField_keeps {p : Prop} {s : State} (hm : p → s.mode = .run) (b f : Nat) :
    KeepsBoards p s (recomposeField s b f) := by
  unfold recomposeField
  split
  · next depth d hd _ =>
    dsimp only
    split
    · exact .refl s
    · split
      · exact modField_keeps ..
      · exact (modField_keeps ..).trans (enqueue_keeps _ hm hd (priority_le_three _))
  · exact .refl s

theorem recompose_keeps {p : Prop} (s : State) (reads : FieldKind → Bool) : KeepsBoards p s (s.recompose reads) := by
  unfold State.recompose
  split
  · next hm =>
    refine foldl_holds (KeepsBoards p s) _ (fun t bf ht => ?_) _ _ (.refl s)
    split
    · split
      · exact ht.trans (recomposeField_keeps (fun _ => ht.mode.trans hm) ..)
      · exact ht
    · exact ht
  · exact .refl s

/-- The shared operations keep the board queues, and all the rest. -/
theorem ByOps.keeps {s t : State} {p : Prop} (h : ByOps s t) : KeepsBoards p s t := by
  induction h with
  | refl s => exact .refl s
  | trans _ _ h k => exact h.trans k
  | notify s n => exact .of_view (notify_keepsRest s n) (congrArg State.queueView (notify_butHost s n) :)
  | handOn s cs => exact .of_view (handOn_keepsRest s cs) (congrArg State.queueView (handOn_butEquations s cs) :)
  | announce s zs => exact .of_view (announce_keepsRest s zs) (congrArg State.queueView (announce_butLoops s zs) :)
  | recompose s p => exact recompose_keeps s p
  | appendRecord s e =>
    exact .of_view (appendRecord_keepsRest s e) (congrArg State.queueView (appendRecord_butHistory s e) :)
  | table h => exact .of_view (ByOps.table h).keepsRest (congrArg State.queueView h :)
  | modShift s f => exact .of_view (modShift_keepsRest s f) rfl

/-! ## Refreshes (R166, R167) -/

theorem serveField_keeps {p : Prop} {s : State} {b depth : Nat} (hm : p → s.mode = .run) (hd : s.boardDepth b = some depth)
    (f : Nat) : KeepsBoards p s (serveField depth b s f) := by
  unfold serveField
  split
  · exact (modField_keeps ..).trans (enqueue_keeps _ hm hd (priority_le_three _))
  · exact .refl s

theorem serve_keeps {p : Prop} {s : State} (hm : p → s.mode = .run) (b : Nat) : KeepsBoards p s (s.serve b) := by
  unfold State.serve
  split
  · next depth hd =>
    dsimp only
    split
    · exact .refl s
    · refine foldl_holds (KeepsBoards p s) _ (fun t f ht => ?_) _ _ (.refl s)
      refine ht.trans (serveField_keeps (fun h => ht.mode.trans (hm h)) ?_ f)
      unfold State.boardDepth at *; rw [ht.defs]; exact hd
  · exact .refl s

theorem endClear_keeps {p : Prop} {s : State} (hm : p → s.mode = .run) (b : Nat) : KeepsBoards p s (s.endClear b) := by
  unfold State.endClear
  split
  · exact .refl s
  · refine .after (serve_keeps ?_ b)
    exact hm

theorem refreshBoard_keeps {p : Prop} {s : State} {b : Nat} (hb : p → boardReady s b) :
    KeepsBoards p s (s.refreshBoard b) := by
  unfold State.refreshBoard
  have queued : KeepsBoards p s (s.modBoard b fun x => { x with queue := [clearFrame], clearing := true, owed := false }) := by
    refine modBoard_queue_keeps (fun h => (hb h).1) fun h x h1 h2 hl _ _ => ?_
    have := depth_of_ready hl (hb h) h1 h2
    exact ⟨Nat.le_trans (by simp) this, by simp, by simp [clearFrame]⟩
  exact queued.trans (.of_boards rfl fun _ _ hall => hall)

theorem refreshBoards_keeps {p : Prop} {s : State} (hm : p → s.mode = .run) (q : Board → Bool) :
    KeepsBoards p s (s.refreshBoards q) := by
  refine foldl_holds (KeepsBoards p s) _ (fun t b ht => ?_) _ _ (.refl s)
  split
  · next h =>
    rw [Bool.and_eq_true] at h
    exact ht.trans (refreshBoard_keeps fun hp => ⟨ht.mode.trans (hm hp), h.1⟩)
  · exact ht

/-! ## Answers and failures (R175–R177) -/

theorem boardNotice_keeps {p : Prop} (s : State) (b : Nat) (m : BoardMode) : KeepsBoards p s (s.boardNotice b m) :=
  (ByOps.notify s _).keeps

theorem boardBecomes_keeps {p : Prop} (s : State) (b : Nat) (m : BoardMode) : KeepsBoards p s (s.boardBecomes b m) := by
  unfold State.boardBecomes; dsimp only
  split
  · exact .refl s
  · exact .after (boardNotice_keeps ..)

theorem putBack_keeps {p : Prop} {s : State} {b : Nat} {fr : BoardFrame} (hb : p → boardReady s b ∧ fr.priority ≤ 3) :
    KeepsBoards p s (s.putBack b fr) := by
  unfold State.putBack; dsimp only
  have hm : p → s.mode = .run := fun h => (hb h).1.1
  split
  · next queued hfind =>
    refine modBoard_queue_keeps hm fun h x h1 h2 hl hx hq => ?_
    subst hx
    have hmem := List.mem_of_find?_eq_some hfind
    have hfield : queued.field = fr.field := by simpa using List.find?_some hfind
    have sub : ((pick s.boards b).queue.filter fun y => y.field != fr.field).Sublist (pick s.boards b).queue :=
      List.filter_sublist
    refine queueFits_cons (queueFits_sublist sub hq) ?_ (fun y hy => by simpa [mergeBack] using (List.mem_filter.mp hy).2)
      (hq.2.2 queued hmem)
    refine lt_of_lt_of_le (List.length_filter_lt_length_iff_exists.mpr ⟨queued, hmem, by simp [hfield]⟩) hq.1
  · next hnone =>
    have hf : ∀ y ∈ (pick s.boards b).queue, y.field ≠ fr.field := by simpa using hnone
    split
    · next hroom =>
      refine modBoard_queue_keeps hm fun h x h1 h2 hl hx hq => ?_
      subst hx
      exact queueFits_cons hq hroom hf (hb h).2
    · next hroom =>
      split
      · have owed : KeepsBoards p s (s.modBoard b fun x => { x with owed := true }) := modBoard_keeps s b fun _ => rfl
        split
        · refine .after (endClear_keeps ?_ b)
          exact hm
        · exact owed
      · refine modBoard_queue_keeps hm fun h x h1 h2 hl hx hq => ?_
        subst hx
        have hdepth := depth_of_ready hl (hb h).1 h1 h2
        obtain ⟨k1, k2, k3⟩ := queueFits_dropNewest (by omega) (by omega) hq
        exact queueFits_cons k1 k2 (fun y hy => hf y (k3 y hy)) (hb h).2

theorem frameDone_keeps {p : Prop} {s : State} {b : Nat} (fr : BoardFrame) (hb : p → boardReady s b) :
    KeepsBoards p s (s.frameDone b fr) :=
  .ite (refreshBoard_keeps hb) (.ite (endClear_keeps (fun h => (hb h).1) b) (.refl s))

theorem boardAnswers_keeps {p : Prop} (s : State) (b : Nat) : KeepsBoards p s (s.boardAnswers b) := by
  unfold State.boardAnswers
  exact .after (KeepsBoards.ite (boardBecomes_keeps ..) (.refl _))

theorem takeAck_keeps {p : Prop} {s : State} {b : Nat} {fr : BoardFrame} (hb : p → boardReady s b ∧ fr.priority ≤ 3) :
    KeepsBoards p s (s.takeAck b fr) := by
  unfold State.takeAck
  have answered : KeepsBoards p s (s.boardAnswers b) := boardAnswers_keeps s b
  refine answered.trans (.ite (putBack_keeps fun h => ⟨answered.ready (hb h).1, (hb h).2⟩) ?_)
  exact .after (frameDone_keeps fr fun h => (answered.ready (hb h).1 :))

theorem takeRefuse_keeps {p : Prop} {s : State} {b : Nat} (fr : BoardFrame) (reason : RefuseReason)
    (hb : p → boardReady s b) : KeepsBoards p s (s.takeRefuse b fr reason) := by
  unfold State.takeRefuse
  have answered : KeepsBoards p s (s.boardAnswers b) := boardAnswers_keeps s b
  exact answered.trans (.after (frameDone_keeps fr fun h => (answered.ready (hb h) :)))

theorem judgeRetry_keeps {p : Prop} {s : State} {b : Nat} {fr : BoardFrame} (hb : p → boardReady s b ∧ fr.priority ≤ 3) :
    KeepsBoards p s (s.judgeRetry b fr) := by
  unfold State.judgeRetry
  refine .ite (putBack_keeps hb) (.after (.ite (endClear_keeps ?_ b) (.refl _)))
  exact fun h => (hb h).1.1

/-- R176, R177: what the frame in flight, if there is one, has to be like. -/
def frameReady (s : State) (b : Nat) (fr : Option BoardFrame) : Prop :=
  boardReady s b ∧ ∀ x, fr = some x → x.priority ≤ 3

theorem goDark_keeps {p : Prop} {s : State} {b : Nat} {fr : Option BoardFrame} (hb : p → frameReady s b fr) :
    KeepsBoards p s (s.goDark b fr) := by
  unfold State.goDark
  have dark : KeepsBoards p s (s.modBoard b fun x => { x with
      state := .dark, toggle := none, probeTimer := some Config.probeTenths, probeDue := false }) :=
    modBoard_keeps s b fun _ => rfl
  have told : ∀ t, KeepsBoards p s t → KeepsBoards p s ((t.handOn [.board b]).boardNotice b (pick s.boards b).state) :=
    fun t ht => (ht.trans (ByOps.handOn ..).keeps).trans (boardNotice_keeps ..)
  cases fr with
  | some x => exact told _ (dark.trans (putBack_keeps fun h => ⟨dark.ready (hb h).1, (hb h).2 x rfl⟩))
  | none => exact told _ dark

theorem failAttempt_keeps {p : Prop} {s : State} {b : Nat} {fr : Option BoardFrame} (hb : p → frameReady s b fr) :
    KeepsBoards p s (s.failAttempt b fr) := by
  unfold State.failAttempt
  have missed : KeepsBoards p s (s.modBoard b fun x => { x with timeoutRun := x.timeoutRun + 1 }) :=
    modBoard_keeps s b fun _ => rfl
  refine .ite (modBoard_keeps s b fun _ => rfl) (missed.trans (.ite ?_ ?_))
  · exact goDark_keeps fun h => ⟨missed.ready (hb h).1, (hb h).2⟩
  · have lagging := boardBecomes_keeps (p := p) (s.modBoard b fun x => { x with timeoutRun := x.timeoutRun + 1 }) b .lagging
    refine lagging.trans ?_
    cases fr with
    | some x => exact judgeRetry_keeps fun h => ⟨lagging.ready (missed.ready (hb h).1), (hb h).2 x rfl⟩
    | none => exact .refl _

theorem takeProbeAck_keeps {p : Prop} {s : State} {b : Nat} (toggle : Bool) (hb : p → boardReady s b) :
    KeepsBoards p s (s.takeProbeAck b toggle) := by
  unfold State.takeProbeAck
  have heard : KeepsBoards p s (s.modBoard b fun x => { x with toggle := some (!toggle), timeoutRun := 0 }) :=
    modBoard_keeps s b fun _ => rfl
  refine heard.trans (.ite ?_ (boardBecomes_keeps ..))
  have live := (modBoard_keeps (p := p) (s.modBoard b fun x => { x with toggle := some (!toggle), timeoutRun := 0 }) b
    (f := fun x => { x with probeTimer := none, state := .live }) fun _ => rfl).trans (ByOps.handOn _ [.board b]).keeps
  exact live.trans ((refreshBoard_keeps fun h => live.ready (heard.ready (hb h))).trans (boardNotice_keeps ..))

/-! ## The flight (R174, R175) -/

/-- What a flight has to be like. -/
def flightReady (s : State) : Flight → Prop
  | .field b fr _ => boardReady s b ∧ fr.priority ≤ 3
  | .probe b => boardReady s b

/-- A state with something in flight is in RUN, and the flight is for a defined board. -/
theorem flightReady_of_fits {s : State} {f : Flight} (h : boardQueuesFit s) (hf : s.link.inFlight = some f) :
    flightReady s f := by
  obtain ⟨⟨-, -, hc, hfield, hprobe⟩, -⟩ := boardQueuesFit_iff.mp h
  have hrun : s.mode = .run := by
    cases hm : s.mode with
    | run => rfl
    | config => rw [(hc hm).1] at hf; cases hf
  cases f with
  | field b fr t =>
    obtain ⟨-, -, h1, h2⟩ := hfield b fr t hf
    exact ⟨⟨hrun, h1⟩, h2⟩
  | probe b => exact ⟨hrun, (hprobe b hf).2.2⟩

theorem modLink_keeps {p : Prop} {s : State} {f : BoardLink → BoardLink} (hf : ∀ l : BoardLink, (f l).inFlight = l.inFlight) :
    KeepsBoards p s (s.modLink f) := by
  have hl : (s.modLink f).link.inFlight = s.link.inFlight := hf s.link
  refine .of_view (.of_same ?_ ⟨rfl, rfl, rfl, rfl⟩ rfl) ?_
  · show { s.restCore with link := { startBoardLink with inFlight := (s.modLink f).link.inFlight } } = s.restCore
    rw [hl]; rfl
  · show { s.queueView with link := { startBoardLink with inFlight := (s.modLink f).link.inFlight } } = s.queueView
    rw [hl]; rfl

/-- Nothing in flight is nothing to keep. -/
theorem fly_none_keeps {p : Prop} (s : State) : KeepsBoards p s (s.fly none) := by
  refine ⟨⟨id, id, id, id, id, fun hi hp => ⟨fun e => ?_, hp⟩, id, fun _ _ _ => id⟩, rfl, rfl, fun _ hs => ?_⟩
  · obtain ⟨h1, h2, h3, -, h5⟩ := hi e
    exact ⟨h1, h2, h3, rfl, h5⟩
  · obtain ⟨⟨h1, h2, h3, -, -⟩, hall⟩ := boardQueuesFit_iff.mp hs
    exact boardQueuesFit_iff.mpr ⟨⟨h1, h2, fun e => ⟨rfl, (h3 e).2⟩, nofun, nofun⟩, hall⟩

/-- R175: the board a flight is for. -/
def flightBoard : Flight → Nat
  | .field b _ _ => b
  | .probe b => b

/-- Something in flight, in RUN. -/
theorem fly_keeps {p : Prop} {s : State} {f : Flight} (hm : s.mode = .run) (hf : p → flightReady s f)
    (hb : 1 ≤ flightBoard f ∧ flightBoard f ≤ 8) :
    KeepsBoards p s (s.fly (some f)) := by
  have run : ∀ {q : Prop}, s.mode = .config → q := fun e => absurd (hm.symm.trans e) (by decide)
  refine ⟨⟨id, id, id, id, id, fun _ hp => ⟨run, hp⟩, id, fun _ _ _ => id⟩, rfl, rfl, fun hp hs => ?_⟩
  obtain ⟨⟨h1, h2, h3, -, -⟩, hall⟩ := boardQueuesFit_iff.mp hs
  have hready := hf hp
  refine boardQueuesFit_iff.mpr ⟨⟨h1, h2, run, fun b fr t e => ?_, fun b e => ?_⟩, hall⟩
  · obtain rfl : f = .field b fr t := Option.some.inj e
    exact ⟨hb.1, hb.2, hready.1.2, hready.2⟩
  · obtain rfl : f = .probe b := Option.some.inj e
    exact ⟨hb.1, hb.2, hready.2⟩

theorem failFlight_keeps {p : Prop} {s : State} {f : Flight} (hf : p → flightReady s f) :
    KeepsBoards p s (s.failFlight f) := by
  cases f with
  | field b fr t =>
    exact (fly_none_keeps s).trans (failAttempt_keeps fun h => ⟨(hf h).1, fun x e => by cases e; exact (hf h).2⟩)
  | probe b => exact (fly_none_keeps s).trans (failAttempt_keeps fun h => ⟨hf h, nofun⟩)

theorem judgeBoard_keeps {p : Prop} {s : State} {f : Flight} (content : List Byte) (bad : Bool)
    (hf : p → flightReady s f) : KeepsBoards p s (s.judgeBoard f content bad) := by
  unfold State.judgeBoard
  split
  · exact .ite ((fly_none_keeps s).trans (takeAck_keeps hf)) (failFlight_keeps hf)
  · exact .ite ((fly_none_keeps s).trans (takeRefuse_keeps _ _ fun h => (hf h).1)) (failFlight_keeps hf)
  · exact .ite ((fly_none_keeps s).trans (takeProbeAck_keeps _ hf)) (failFlight_keeps hf)
  · exact failFlight_keeps hf
  · exact failFlight_keeps hf

theorem boardByte_keeps (s : State) (x : Byte) : KeepsBoards True s (s.boardByte x) := by
  unfold State.boardByte
  split
  · exact .refl s
  · next f hfl =>
    dsimp only
    split
    · exact (judgeBoard_keeps (p := flightReady s f) _ _ id).weaken fun _ h => flightReady_of_fits h hfl
    · exact modLink_keeps fun _ => rfl
    · exact modLink_keeps fun _ => rfl

theorem boardLine_keeps (s : State) (line : List Byte) : KeepsBoards True s (s.boardLine line) :=
  foldl_holds (KeepsBoards True s) _ (fun t x ht => ht.trans (boardByte_keeps t x)) _ _ (.refl s)

theorem failFlight_taken {s : State} {f : Flight} (hf : s.link.inFlight = some f) : KeepsBoards True s (s.failFlight f) :=
  (failFlight_keeps (p := flightReady s f) id).weaken fun _ h => flightReady_of_fits h hf

theorem nextBoard_spec {s : State} {b : Nat} (h : nextBoard s = some b) :
    1 ≤ b ∧ b ≤ 8 ∧ (s.boardDepth b).isSome = true := by
  have hw := List.find?_some h
  have hm := List.mem_of_find?_eq_some h
  unfold searchOrder at hm
  obtain ⟨i, -, rfl⟩ := List.mem_map.mp hm
  unfold hasWork at hw
  rw [Bool.and_eq_true] at hw
  exact ⟨by omega, by omega, hw.1⟩

theorem sendField_keeps {s : State} {b : Nat} {fr : BoardFrame} (toggle : Bool) (hm : s.mode = .run) (h1 : 1 ≤ b)
    (h2 : b ≤ 8) (hd : (s.boardDepth b).isSome = true) (hfr : fr ∈ (pick s.boards b).queue) :
    KeepsBoards True s (s.sendField b fr toggle) := by
  unfold State.sendField
  have taken : ∀ p : Prop, KeepsBoards p s (s.modBoard b fun x => { x with queue := x.queue.erase fr }) := fun p =>
    modBoard_queue_keeps (fun _ => hm) fun _ x _ _ _ _ hq => queueFits_sublist List.erase_sublist hq
  have whole : KeepsBoards (fr.priority ≤ 3) s (((s.modBoard b fun x => { x with queue := x.queue.erase fr }).fly
      (some (.field b { fr with attempts := saturate 255 1 fr.attempts } toggle))).serve b) := by
    refine ((taken _).trans (fly_keeps hm (fun hp => ?_) ?_)).trans (serve_keeps ?_ b)
    · exact ⟨⟨hm, hd⟩, hp⟩
    · exact ⟨h1, h2⟩
    · exact fun _ => hm
  exact whole.weaken fun _ hs => ((boardQueuesFit_iff.mp hs).2 b h1 h2).2.2.2 fr hfr

theorem sendTo_keeps {s : State} {b : Nat} (hm : s.mode = .run) (hb : nextBoard s = some b) :
    KeepsBoards True s (s.sendTo b) := by
  obtain ⟨h1, h2, hd⟩ := nextBoard_spec hb
  unfold State.sendTo
  have position : KeepsBoards True s (s.modLink fun l => { l with position := b }) := modLink_keeps fun _ => rfl
  refine position.trans ?_
  dsimp only
  split
  · exact .after (fly_keeps hm (fun _ => (⟨hm, hd⟩ : boardReady s b)) ⟨h1, h2⟩)
  · split
    · next fr _ hfr => exact sendField_keeps _ hm h1 h2 hd (List.mem_of_find?_eq_some hfr)
    · exact fly_keeps hm (fun _ => (⟨hm, hd⟩ : boardReady s b)) ⟨h1, h2⟩

end Sys2Proof.Machine
end

section
/-! PROOFS. BoardLinkFrames: what the operations of the board link can change: the boards and fields, the link, the equation
unit and the host link. -/

namespace Sys2Proof.Machine

/-- All but the boards, the board link and what a change of a board touches. -/
def State.butLink (s : State) : State :=
  { s with equations := Vector.replicate 48 startEquation, flags := Vector.replicate 32 false
           relays := Vector.replicate 8 false, tunes := Vector.replicate 4 0
           boards := Vector.replicate 8 startBoard, fields := Vector.replicate 8 (Vector.replicate 12 startField)
           link := startBoardLink, host := startHost }

theorem butLink_of_boards {s t : State} (h : t.butBoards = s.butBoards) : t.butLink = s.butLink :=
  (congrArg State.butLink h :)

theorem modBoard_butLink (s : State) (b : Nat) (f : Board → Board) : (s.modBoard b f).butLink = s.butLink := rfl

theorem modLink_butLink (s : State) (f : BoardLink → BoardLink) : (s.modLink f).butLink = s.butLink := rfl

theorem notify_butLink (s : State) (n : Notice) : (s.notify n).butLink = s.butLink :=
  (congrArg State.butLink (notify_butHost s n) :)

theorem handOn_butLink (s : State) (cs : List Change) : (s.handOn cs).butLink = s.butLink :=
  (congrArg State.butLink (handOn_butEquations s cs) :)

theorem serve_butLink (s : State) (b : Nat) : (s.serve b).butLink = s.butLink := butLink_of_boards (serve_butBoards s b)

theorem endClear_butLink (s : State) (b : Nat) : (s.endClear b).butLink = s.butLink :=
  butLink_of_boards (endClear_butBoards s b)

theorem refreshBoard_butLink (s : State) (b : Nat) : (s.refreshBoard b).butLink = s.butLink :=
  butLink_of_boards (refreshBoard_butBoards s b)

theorem boardNotice_butLink (s : State) (b : Nat) (m : BoardMode) : (s.boardNotice b m).butLink = s.butLink :=
  notify_butLink ..

theorem boardBecomes_butLink (s : State) (b : Nat) (m : BoardMode) : (s.boardBecomes b m).butLink = s.butLink := by
  unfold State.boardBecomes; dsimp only
  split
  · rfl
  · exact boardNotice_butLink ..

theorem putBack_butBoards (s : State) (b : Nat) (fr : BoardFrame) : (s.putBack b fr).butBoards = s.butBoards := by
  unfold State.putBack; dsimp only
  split
  · rfl
  · split
    · rfl
    · split
      · split
        · exact endClear_butBoards ..
        · rfl
      · rfl

theorem putBack_butLink (s : State) (b : Nat) (fr : BoardFrame) : (s.putBack b fr).butLink = s.butLink :=
  butLink_of_boards (putBack_butBoards s b fr)

theorem frameDone_butBoards (s : State) (b : Nat) (fr : BoardFrame) : (s.frameDone b fr).butBoards = s.butBoards := by
  unfold State.frameDone
  split
  · exact refreshBoard_butBoards ..
  · split
    · exact endClear_butBoards ..
    · rfl

theorem frameDone_butLink (s : State) (b : Nat) (fr : BoardFrame) : (s.frameDone b fr).butLink = s.butLink :=
  butLink_of_boards (frameDone_butBoards s b fr)

theorem boardAnswers_butLink (s : State) (b : Nat) : (s.boardAnswers b).butLink = s.butLink := by
  unfold State.boardAnswers; dsimp only
  split
  · exact boardBecomes_butLink ..
  · rfl

theorem takeAck_butLink (s : State) (b : Nat) (fr : BoardFrame) : (s.takeAck b fr).butLink = s.butLink := by
  unfold State.takeAck; dsimp only
  split
  · exact (putBack_butLink ..).trans (boardAnswers_butLink ..)
  · exact (frameDone_butLink ..).trans (boardAnswers_butLink ..)

theorem takeRefuse_butLink (s : State) (b : Nat) (fr : BoardFrame) (r : RefuseReason) :
    (s.takeRefuse b fr r).butLink = s.butLink :=
  (frameDone_butLink ..).trans (boardAnswers_butLink ..)

/-- R177: the frame has attempts left under its board's retry policy. -/
def attemptsLeft (s : State) (b : Nat) (fr : BoardFrame) : Bool := match attemptLimit (pick s.defs.links.retry b) with
  | some limit => decide (fr.attempts < limit)
  | none => true

/-- R177: the frame given up. -/
def State.giveUp (s : State) (b : Nat) : State := s.modBoard b fun x =>
  { x with failed := saturate 65535 1 x.failed, lastOutcome := some .failed, owed := true }

theorem judgeRetry_eq (s : State) (b : Nat) (fr : BoardFrame) : s.judgeRetry b fr =
    if attemptsLeft s b fr then s.putBack b fr else if fr.isClear then (s.giveUp b).endClear b else s.giveUp b := rfl

theorem judgeRetry_butBoards (s : State) (b : Nat) (fr : BoardFrame) : (s.judgeRetry b fr).butBoards = s.butBoards := by
  rw [judgeRetry_eq]
  split
  · exact putBack_butBoards ..
  · split
    · exact endClear_butBoards ..
    · rfl

theorem judgeRetry_butLink (s : State) (b : Nat) (fr : BoardFrame) : (s.judgeRetry b fr).butLink = s.butLink :=
  butLink_of_boards (judgeRetry_butBoards s b fr)

theorem goDark_butLink (s : State) (b : Nat) (fr : Option BoardFrame) : (s.goDark b fr).butLink = s.butLink := by
  unfold State.goDark
  cases fr with
  | some x => exact (boardNotice_butLink ..).trans ((handOn_butLink ..).trans (putBack_butLink ..))
  | none => exact (boardNotice_butLink ..).trans (handOn_butLink ..)

theorem failAttempt_butLink (s : State) (b : Nat) (fr : Option BoardFrame) : (s.failAttempt b fr).butLink = s.butLink := by
  unfold State.failAttempt; dsimp only
  split
  · rfl
  · split
    · exact goDark_butLink ..
    · cases fr with
      | some x => exact (judgeRetry_butLink ..).trans (boardBecomes_butLink ..)
      | none => exact boardBecomes_butLink ..

theorem takeProbeAck_butLink (s : State) (b : Nat) (t : Bool) : (s.takeProbeAck b t).butLink = s.butLink := by
  unfold State.takeProbeAck; dsimp only
  split
  · exact (boardNotice_butLink ..).trans ((refreshBoard_butLink ..).trans (handOn_butLink ..))
  · exact boardBecomes_butLink ..

theorem failFlight_butLink (s : State) (f : Flight) : (s.failFlight f).butLink = s.butLink := by
  cases f <;> exact failAttempt_butLink ..

theorem judgeBoard_butLink (s : State) (f : Flight) (c : List Byte) (bad : Bool) :
    (s.judgeBoard f c bad).butLink = s.butLink := by
  unfold State.judgeBoard
  split
  · split
    · exact takeAck_butLink ..
    · exact failFlight_butLink ..
  · split
    · exact takeRefuse_butLink ..
    · exact failFlight_butLink ..
  · split
    · exact takeProbeAck_butLink ..
    · exact failFlight_butLink ..
  · exact failFlight_butLink ..
  · exact failFlight_butLink ..

theorem boardByte_butLink (s : State) (x : Byte) : (s.boardByte x).butLink = s.butLink := by
  unfold State.boardByte
  split
  · rfl
  · dsimp only
    split
    · exact judgeBoard_butLink ..
    · rfl
    · rfl

theorem boardLine_butLink (s : State) (line : List Byte) : (s.boardLine line).butLink = s.butLink :=
  foldl_keeps State.butLink _ boardByte_butLink line s

theorem sendField_butLink (s : State) (b : Nat) (fr : BoardFrame) (t : Bool) :
    (s.sendField b fr t).butLink = s.butLink := serve_butLink ..

theorem sendTo_butLink (s : State) (b : Nat) : (s.sendTo b).butLink = s.butLink := by
  unfold State.sendTo; dsimp only
  split
  · rfl
  · split
    · exact sendField_butLink ..
    · rfl

end Sys2Proof.Machine
end

section
/-! PROOFS. DueKept: the invariants together, and that what is due and what serving a request does to the host link keep them. -/

namespace Sys2Proof.Machine

/-- R92: in CONFIG no poll is outstanding. -/
def pollsIdle (s : State) : Prop := s.mode = .config → s.loopA.polled = none ∧ s.loopB.polled = none

/-- The mode and the polls outstanding. -/
def State.polls (s : State) : Mode × Option Nat × Option Nat := (s.mode, s.loopA.polled, s.loopB.polled)

theorem pollsIdle_congr {s t : State} (h : t.polls = s.polls) (hs : pollsIdle s) : pollsIdle t := by
  unfold State.polls at h
  injection h with hm hp
  injection hp with ha hb
  unfold pollsIdle; rw [hm, ha, hb]; exact hs

theorem ByOps.polls {s t : State} (h : ByOps s t) : t.polls = s.polls := by
  induction h with
  | refl s => rfl
  | trans _ _ h k => exact k.trans h
  | notify s n => exact (congrArg State.polls (notify_butHost s n) :)
  | handOn s cs => exact (congrArg State.polls (handOn_butEquations s cs) :)
  | announce s zs => exact (congrArg State.polls (announce_core s zs) :)
  | recompose s p => exact (congrArg State.polls (recompose_butBoards s p) :)
  | appendRecord s e => exact (congrArg State.polls (appendRecord_butHistory s e) :)
  | table h => exact (congrArg State.polls h :)
  | modShift s f => rfl

/-- What every step keeps: the call table and stop logic; the host link's queues, the history queue, the trackers, the idle
CONFIG and the outputs; the board queues. -/
structure Keeps (s t : State) : Prop where
  polls : pollsIdle s → pollsIdle t
  table : KeepsTable (pollsIdle s) s t
  rest : KeepsRest s t
  boards : boardQueuesFit s → boardQueuesFit t

theorem Keeps.refl (s : State) : Keeps s s := ⟨id, .refl s, .refl s, id⟩

theorem Keeps.trans {s t u : State} (h : Keeps s t) (k : Keeps t u) : Keeps s u :=
  ⟨k.polls ∘ h.polls, h.table.trans (k.table.weaken h.polls), h.rest.trans k.rest, k.boards ∘ h.boards⟩

theorem Keeps.ite {s t u : State} {c : Prop} [Decidable c] (h : Keeps s t) (k : Keeps s u) :
    Keeps s (if c then t else u) := by
  split
  · exact h
  · exact k

/-- A shared operation keeps all that it keeps of the call table. -/
theorem Keeps.of_ops {s t : State} (h : ByOps s t) (k : KeepsTable (pollsIdle s) s t) : Keeps s t :=
  ⟨pollsIdle_congr h.polls, k, h.keepsRest, (h.keeps (p := True)).boards trivial⟩

/-- A shared operation that leaves the call table and stop logic. -/
theorem Keeps.of_ops_view {s t : State} (h : ByOps s t) (k : t.tableView = s.tableView) : Keeps s t :=
  .of_ops h (.of_view k)

theorem Keeps.of_boards {s t : State} (h : KeepsBoards True s t) (k : t.butLink = s.butLink) : Keeps s t :=
  ⟨pollsIdle_congr (congrArg State.polls k :), .of_view (congrArg State.tableView k :), h.rest, h.boards trivial⟩

theorem notify_keeps (s : State) (n : Notice) : Keeps s (s.notify n) :=
  .of_ops_view (.notify s n) (congrArg State.tableView (notify_butHost s n) :)

theorem handOn_keeps (s : State) (cs : List Change) : Keeps s (s.handOn cs) :=
  .of_ops_view (.handOn s cs) (congrArg State.tableView (handOn_butEquations s cs) :)

theorem recompose_keepsAll (s : State) (p : FieldKind → Bool) : Keeps s (s.recompose p) :=
  .of_ops_view (.recompose s p) (congrArg State.tableView (recompose_butBoards s p) :)

theorem shiftNotice_keeps (s : State) (c : ShiftCause) : Keeps s (s.shiftNotice c) := by
  unfold State.shiftNotice; split
  · exact notify_keeps ..
  · exact .refl s

theorem handBehind_keeps (s b : State) : Keeps s (s.handBehind b) := by
  unfold State.handBehind; split
  · exact .refl s
  · exact handOn_keeps ..

theorem composeAccount_keeps (s : State) : Keeps s s.composeAccount := by
  unfold State.composeAccount; split
  · exact .refl s
  · exact recompose_keepsAll ..

theorem shiftChanged_keeps (s : State) : Keeps s s.shiftChanged := by
  have announced : Keeps s (s.announce (numbers 24)) :=
    .of_ops_view (.announce ..) (congrArg State.tableView (announce_butLoops s _) :)
  exact announced.trans ((handOn_keeps ..).trans (recompose_keepsAll ..))

/-- The fields that no invariant reads, blanked. -/
def State.butUnread (s : State) : State :=
  { s with startNote := .storeInvalid, straps := (false, false), timeOfDay := 0, tenths := 0, clockSet := false
           blinkFast := false, blinkSlow := false, blinkPhase := 0, inputs := Vector.replicate 16 ⟨false, false, false⟩
           lastNumber := 0, stations := Vector.replicate 96 startStation, previous := none, overflowCount := 0
           staleTimer := none, fields := Vector.replicate 8 (Vector.replicate 12 startField), freeCount := 0
           pending := [] }

theorem Keeps.of_unread {s t : State} (h : t.butUnread = s.butUnread) : Keeps s t :=
  ⟨pollsIdle_congr (congrArg State.polls h :), .of_view (congrArg State.tableView h :),
    .of_same (congrArg State.restCore h :) ⟨(congrArg State.equations h :), (congrArg State.flags h :),
      (congrArg State.relays h :), (congrArg State.tunes h :)⟩ (congrArg State.host h :),
    boardQueuesFit_of_view (congrArg State.queueView h :)⟩

/-- A change of the host link alone. -/
theorem Keeps.of_butHost {s t : State} (h : t.butHost = s.butHost)
    (ho : s.host.outbound.length ≤ Config.outboundCapacity → t.host.outbound.length ≤ Config.outboundCapacity)
    (hr : s.host.requests.length ≤ Config.requestCapacity → t.host.requests.length ≤ Config.requestCapacity) :
    Keeps s t :=
  ⟨pollsIdle_congr (congrArg State.polls h :), .of_view (congrArg State.tableView h :),
    .of_host (congrArg State.restCore h :) ⟨(congrArg State.equations h :), (congrArg State.flags h :),
      (congrArg State.relays h :), (congrArg State.tunes h :)⟩ ho hr,
    boardQueuesFit_of_view (congrArg State.queueView h :)⟩

theorem historyOccasion_keeps (s : State) (b : Bool) : Keeps s (s.historyOccasion b) :=
  .trans (t := { s with staleTimer := some (staleLoad s) }) (.of_unread rfl) (notify_keeps ..)

/-! ## The host link (R183, R186) -/

/-- What keeps the two queues of the host link within their capacities. -/
structure HostLink.Keeps (h k : HostLink) : Prop where
  outbound : h.outbound.length ≤ Config.outboundCapacity → k.outbound.length ≤ Config.outboundCapacity
  requests : h.requests.length ≤ Config.requestCapacity → k.requests.length ≤ Config.requestCapacity

theorem HostLink.Keeps.refl (h : HostLink) : h.Keeps h := ⟨id, id⟩

theorem HostLink.Keeps.trans {h k l : HostLink} (a : h.Keeps k) (b : k.Keeps l) : h.Keeps l :=
  ⟨b.outbound ∘ a.outbound, b.requests ∘ a.requests⟩

theorem modHost_keeps {s : State} {f : HostLink → HostLink} (h : s.host.Keeps (f s.host)) : Keeps s (s.modHost f) :=
  .of_butHost rfl h.outbound h.requests

theorem receive_keeps (h : HostLink) (r : Request) : h.Keeps (h.receive r) := by
  unfold HostLink.receive
  split
  · next hroom =>
    refine ⟨id, fun _ => ?_⟩
    show (h.requests ++ [r]).length ≤ _
    rw [List.length_append, List.length_singleton]; exact hroom
  · exact ⟨id, id⟩

theorem leave_keeps (h : HostLink) : h.Keeps h.leave :=
  ⟨id, fun hr => by
    show (h.requests.drop 1).length ≤ _
    rw [List.length_drop]; omega⟩

theorem answer_keeps (h : HostLink) (f : HostFrame) : h.Keeps (h.answer f) := by
  unfold HostLink.answer
  split
  · next hroom =>
    have entered : h.Keeps (h.enter f) :=
      ⟨fun _ => by show (h.outbound ++ [f]).length ≤ _; rw [List.length_append]; exact hroom, id⟩
    exact entered.trans (leave_keeps _)
  · exact ⟨id, id⟩

theorem hear_keeps (h : HostLink) (b : Byte) : h.Keeps (h.hear b) := by
  unfold HostLink.hear
  dsimp only
  split
  · unfold HostLink.bounded; dsimp only
    split
    · split <;> exact ⟨id, id⟩
    · exact ⟨id, id⟩
  · split <;> exact ⟨id, id⟩
  · split
    · next q _ =>
      have k := receive_keeps { h with receiver := (hostReceive h.receiver b).1 } q
      exact ⟨k.outbound, k.requests⟩
    · exact ⟨id, id⟩
  · exact ⟨id, id⟩
  · exact ⟨id, id⟩

theorem line_keeps (h : HostLink) (bytes : List Byte) : h.Keeps (h.line bytes) :=
  foldl_holds h.Keeps _ (fun k b hk => hk.trans (hear_keeps k b)) _ _ (.refl h)

theorem lineBreak_keeps (h : HostLink) : h.Keeps h.lineBreak := by
  unfold HostLink.lineBreak; split <;> exact ⟨id, id⟩

theorem frameSent_keeps (h : HostLink) : h.Keeps h.frameSent := by
  unfold HostLink.frameSent
  split
  · exact ⟨fun ho => by
      show (h.outbound.drop 1).length ≤ _
      rw [List.length_drop]; omega, id⟩
  · exact .refl h

/-! ## What is due -/

theorem expireStop_keepsCauses (s : State) (k : Nat) :
    (s.expireStop k).calls.length = s.calls.length ∧ (s.expireStop k).mode = s.mode
      ∧ (requestsHaveCauses s → requestsHaveCauses (s.expireStop k)) := by
  refine ⟨?_, (congrArg State.mode (expireStop_butChange s k) :), ?_⟩
  · cases hf : s.callOf k with
    | none => rw [expireStop_of_none hf]
    | some c => rw [expireStop_calls hf]; unfold withRecord; rw [List.length_map]
  · cases hf : s.callOf k with
    | none => rw [expireStop_of_none hf]; exact id
    | some c => exact requestsHaveCauses_of_alter (expireStop_stops hf) fun x _ => StopLogic.inLine_lined _

theorem mem_expiredCalls {s : State} {n k : Nat} :
    k ∈ expiredCalls s n ↔ ∃ c ∈ s.calls, c.sec = n ∧ c.distance = some 0 ∧ c.number = k := by
  unfold expiredCalls
  simp only [List.mem_map, List.mem_filter, Bool.and_eq_true, beq_iff_eq]
  constructor
  · rintro ⟨c, ⟨h1, h2, h3⟩, h4⟩; exact ⟨c, h1, h2, h3, h4⟩
  · rintro ⟨c, h1, h2, h3, h4⟩; exact ⟨c, ⟨h1, h2, h3⟩, h4⟩

theorem expiredCalls_nodup {s : State} (n : Nat) (h : callsInOrder s) : (expiredCalls s n).Nodup :=
  h.1.sublist (List.filter_sublist.map _)

theorem takeStopExpiries_keepsTable {p : Prop} (s : State) (n : Nat) : KeepsTable p s (s.takeStopExpiries n) := by
  by_cases hn : (expiredCalls s n).Nodup
  · refine expireStops_keepsTable _ s hn fun k hk => ?_
    obtain ⟨c, h1, -, h2, h3⟩ := mem_expiredCalls.mp hk
    exact ⟨c, h1, h3, h2⟩
  · have no : ∀ {q : Prop}, callsInOrder s → q := fun h => absurd (expiredCalls_nodup n h) hn
    have same := foldl_holds
      (fun t : State => t.calls.length = s.calls.length ∧ t.mode = s.mode ∧ (requestsHaveCauses s → requestsHaveCauses t))
      State.expireStop (fun t k ht => by
        obtain ⟨h1, h2, h3⟩ := expireStop_keepsCauses t k
        exact ⟨h1.trans ht.1, h2.trans ht.2.1, h3 ∘ ht.2.2⟩) (expiredCalls s n) s ⟨rfl, rfl, id⟩
    obtain ⟨h1, h2, h3⟩ := same
    refine ⟨fun h => h1.trans_le h, fun _ h e => List.length_eq_zero_iff.mp ?_, no, fun _ _ => no, h3, fun _ _ => no⟩
    rw [State.takeStopExpiries, h1, h (h2 ▸ e)]; rfl

theorem takeStopExpiries_keeps (s : State) (n : Nat) : Keeps s (s.takeStopExpiries n) :=
  .of_ops (foldl_holds (ByOps s) _ (fun t k ht => ht.trans (ByOps.expireStop t k)) _ _ (.refl s))
    (takeStopExpiries_keepsTable s n)

theorem takeStopExpiry_keeps (s : State) (n : Nat) : Keeps s (s.takeStopExpiry n) := by
  unfold State.takeStopExpiry
  split
  · next k ks hk =>
    refine .of_ops (ByOps.expireStop s k) (expireStops_keepsTable [k] s (List.nodup_singleton _) fun j hj => ?_)
    obtain rfl := List.mem_singleton.mp hj
    obtain ⟨c, h1, -, h2, h3⟩ := mem_expiredCalls.mp (hk ▸ List.mem_cons_self .. : j ∈ expiredCalls s n)
    exact ⟨c, h1, h3, h2⟩
  · exact .refl s

theorem modShift_keeps (s : State) (f : Shift → Shift) : Keeps s (s.modShift f) := .of_ops_view (.modShift s f) rfl

theorem takeTarget_keeps (s : State) : Keeps s s.takeTarget := by
  unfold State.takeTarget
  split
  · exact (modShift_keeps s _).trans ((handBehind_keeps ..).trans (composeAccount_keeps _))
  · exact .refl s

/-- A shift that runs goes on as another. -/
theorem setShift_keeps {s : State} {sh : Shift} {st : ShiftState} (h : s.shift ≠ none) (hst : st ≠ .none) :
    Keeps s { s with shift := some sh, shiftState := st } := by
  refine ⟨id, .of_view rfl, ⟨id, id, id, id, id, fun hi hp => ⟨fun e => ?_, ?_⟩, id, fun _ _ _ => id⟩, id⟩
  · exact absurd (hp.mp (hi e).1) h
  · exact ⟨fun e => absurd e hst, nofun⟩

theorem nextPeriod_state (sh : Shift) : (nextPeriod sh).2 ≠ .none := by
  unfold nextPeriod; split
  · next p _ => cases hk : p.kind <;> simp [PeriodKind.toShift]
  · nofun

theorem takePeriod_keeps (s : State) : Keeps s s.takePeriod := by
  unfold State.takePeriod
  refine (takeTarget_keeps s).trans ?_
  generalize s.takeTarget = s
  dsimp only
  split
  · next sh hsh =>
    refine .ite ?_ (.refl s)
    have next : Keeps s { s with shift := some (nextPeriod sh).1, shiftState := (nextPeriod sh).2 } :=
      setShift_keeps (by rw [hsh]; nofun) (nextPeriod_state sh)
    refine (next.trans ?_).trans (shiftNotice_keeps _ .period)
    exact .ite (recompose_keepsAll ..) (shiftChanged_keeps _)
  · exact .refl s

theorem takeSecond_keeps (s : State) : Keeps s s.takeSecond := by
  unfold State.takeSecond
  refine .ite (.trans (t := { s with timeOfDay := wrap 86399 s.timeOfDay, tenths := 0 }) (.of_unread rfl) ?_) (.refl s)
  exact recompose_keepsAll ..

theorem climb_keeps (s : State) (k : Nat) : Keeps s (s.climb k) := .of_ops (.climb s k) (climb_keepsTable s k)

theorem takeEscalations_keeps (s : State) : Keeps s s.takeEscalations :=
  foldl_holds (Keeps s) _ (fun t k ht => ht.trans (climb_keeps t k)) _ _ (.refl s)

theorem takeEscalation_keeps (s : State) : Keeps s s.takeEscalation := by
  unfold State.takeEscalation; split
  · exact climb_keeps ..
  · exact .refl s

/-- R117: an idle equation unit has nothing due. -/
theorem not_delayDue_of_idle {s : State} (h : equationsIdle s) : (numbers 48).any (delayDue s) = false := by
  rw [List.any_eq_false]
  intro i hi
  obtain ⟨h1, h2⟩ := mem_numbers.mp hi
  unfold delayDue
  rw [h.1, pick_replicate _ h1 h2]
  simp [startEquation]

theorem takeDelays_keepsRest (s : State) : KeepsRest s s.takeDelays := by
  have hv := takeDelays_butEquations s
  have hh : s.takeDelays.host = s.host := (congrArg State.host hv :)
  refine .of_core (congrArg State.restCore hv :) (by rw [hh]; exact id) (by rw [hh]; exact id)
    (fun hm hi => ?_) (fun hi ha h => ?_)
  · rw [takeDelays_of_none (not_delayDue_of_idle (hi hm).2.2.2.2)]
    exact ⟨rfl, rfl, rfl, rfl⟩
  · cases hm : s.mode with
    | config => rw [takeDelays_of_none (not_delayDue_of_idle (hi hm).2.2.2.2)]; exact h
    | run =>
      unfold State.takeDelays
      split
      · exact outputsFollow_iff.mpr (equationPass_computed (ha hm) (outputsFollow_iff.mp h))
      · exact h

theorem takeDelays_keeps (s : State) : Keeps s s.takeDelays :=
  ⟨pollsIdle_congr (congrArg State.polls (takeDelays_butEquations s) :),
    .of_view (congrArg State.tableView (takeDelays_butEquations s) :), takeDelays_keepsRest s,
    boardQueuesFit_of_view (congrArg State.queueView (takeDelays_butEquations s) :)⟩

theorem takeStale_keeps (s : State) : Keeps s s.takeStale := .ite (historyOccasion_keeps s true) (.refl s)

/-- A refresh timer, in RUN. -/
theorem setRefresh_keeps {s : State} {x : Option Nat} (h : boardQueuesFit s → s.mode = .run) :
    Keeps s { s with refreshTimer := x } := by
  refine ⟨id, .of_view rfl, .of_same rfl ⟨rfl, rfl, rfl, rfl⟩ rfl, fun hs => ?_⟩
  obtain ⟨⟨h1, h2, -, h4⟩, hall⟩ := boardQueuesFit_iff.mp hs
  exact boardQueuesFit_iff.mpr ⟨⟨h1, h2, fun e => absurd ((h hs).symm.trans e) (by decide), h4⟩, hall⟩

/-- In CONFIG no refresh timer runs. -/
theorem mode_of_refreshTimer {s : State} {k : Nat} (hs : boardQueuesFit s) (h : s.refreshTimer = some k) :
    s.mode = .run := by
  cases hm : s.mode with
  | run => rfl
  | config => rw [((boardQueuesFit_iff.mp hs).1.2.2.1 hm).2] at h; cases h

theorem refreshBoards_refreshTimer (s : State) (p : Board → Bool) : (s.refreshBoards p).refreshTimer = s.refreshTimer := by
  have hv := refreshBoards_butBoards s p
  generalize s.refreshBoards p = t at hv ⊢
  exact (congrArg State.refreshTimer hv :)

theorem refreshed_keeps {s : State} (p : Board → Bool) (h : s.refreshTimer = some 0) : Keeps s (s.refreshBoards p) :=
  .of_boards ((refreshBoards_keeps (p := s.mode = .run) id p).weaken fun _ hs => mode_of_refreshTimer hs h)
    (butLink_of_boards (refreshBoards_butBoards s p))

theorem takeRefresh_keeps (s : State) : Keeps s s.takeRefresh := by
  unfold State.takeRefresh
  split
  · next hdue =>
    refine (refreshed_keeps _ hdue).trans (setRefresh_keeps fun hs => mode_of_refreshTimer (k := 0) hs ?_)
    rw [refreshBoards_refreshTimer]; exact hdue
  · exact .refl s

theorem takeProbe_keeps (s : State) (b : Nat) : Keeps s (s.takeProbe b) := by
  unfold State.takeProbe
  exact .ite (.of_boards (modBoard_keeps s b fun _ => rfl) rfl) (.refl s)

theorem takeReply_keeps (s : State) : Keeps s s.takeReply := by
  unfold State.takeReply; split
  · exact modHost_keeps (answer_keeps ..)
  · exact .refl s

theorem takeDue_keeps (s : State) : Keeps s s.takeDue := by
  have stops : Keeps s ((numbers 4).foldl State.takeStopExpiries s) :=
    foldl_holds (Keeps s) _ (fun t n ht => ht.trans (takeStopExpiries_keeps t n)) _ _ (.refl s)
  have probes : ∀ t, Keeps t ((numbers 8).foldl State.takeProbe t) := fun t =>
    foldl_holds (Keeps t) _ (fun u b hu => hu.trans (takeProbe_keeps u b)) _ _ (.refl t)
  unfold State.takeDue
  exact ((((((((stops.trans (takePeriod_keeps _)).trans (takeSecond_keeps _)).trans (takeEscalations_keeps _)).trans
    (takeDelays_keeps _)).trans (takeStale_keeps _)).trans (takeRefresh_keeps _)).trans (probes _)).trans
    (takeReply_keeps _))

/-! ## A request served (R186) -/

theorem serveNow_keeps {r : Request} {handle : State → Handled} (h : ∀ s, Keeps s (handle s).state) (s : State) :
    Keeps s (serveNow r handle s) := by
  have received : Keeps s (if s.host.requests.isEmpty then s.modHost fun x => x.receive r else s) :=
    .ite (modHost_keeps (receive_keeps ..)) (.refl s)
  unfold serveNow
  dsimp only
  generalize (if s.host.requests.isEmpty then s.modHost fun x => x.receive r else s) = u at received ⊢
  refine received.trans ((h u).trans ?_)
  generalize handle u = v
  split
  · exact modHost_keeps (answer_keeps v.state.host _)
  · exact .refl _

theorem serveRequest_keeps {r : Request} {handle : State → Handled} (h : ∀ s, Keeps s (handle s).state) (s : State) :
    Keeps s (serveRequest r handle s) := by
  unfold serveRequest
  refine (takeDue_keeps s).trans ?_
  generalize s.takeDue = u
  exact .ite (serveNow_keeps h u) (modHost_keeps (receive_keeps ..))

theorem serve_keepsAll {kind tag : Byte} {body : List Byte} {handle : State → Handled} {s t : State}
    (h : ∀ s, Keeps s (handle s).state) (hs : serve kind tag body handle s = .next t) : Keeps s t := by
  unfold serve at hs
  split at hs
  · injection hs with hs
    rw [← hs]; exact serveRequest_keeps h s
  · cases hs

theorem ofLength_keeps {n : Nat} {body : List Byte} {handle : State → Handled} (h : ∀ s, Keeps s (handle s).state)
    (s : State) : Keeps s (ofLength n body handle s).state := by
  unfold ofLength; split
  · exact h s
  · exact .refl s

theorem inMode_keeps {m : Mode} {handle : State → Handled} (h : ∀ s, s.mode = m → Keeps s (handle s).state)
    (s : State) : Keeps s (inMode m handle s).state := by
  unfold inMode; split
  · next hm => exact h s hm
  · exact .refl s

end Sys2Proof.Machine
end

section
/-! PROOFS. ModesKept: resets, the change of mode and the definitions keep the invariants. -/

namespace Sys2Proof.Machine

/-! ## Inputs in CONFIG (R43, R46) -/

theorem liveSection_config {s : State} (hm : s.mode = .config) (n : Nat) : liveSection s n = none := by
  unfold liveSection; rw [hm]; rfl

theorem handOn_config {s : State} (hm : s.mode = .config) (cs : List Change) : s.handOn cs = s := by
  unfold State.handOn; rw [if_neg (by rw [hm]; decide)]

/-- In CONFIG an edge brings its notice alone. -/
theorem deliverEdge_config {s : State} (hm : s.mode = .config) (k : Nat) :
    s.deliverEdge k = s.inputNotice k (inputLevel s k) := by
  have live := liveSection_config hm
  have sync : (numbers 4).foldl (State.syncUser k) s = s := foldl_fixed _ _ _ fun n _ => by
    unfold State.syncUser; rw [live]
  have pass : (numbers 4).foldl (State.passUser k) s = s := foldl_fixed _ _ _ fun n _ => by
    unfold State.passUser; rw [live]
  have run : (numbers 4).foldl (State.runUser k) s = s := foldl_fixed _ _ _ fun n _ => by
    unfold State.runUser; rw [live]
  unfold State.deliverEdge
  simp only [sync, pass, ite_self, run, handOn_config hm]

/-- All but the inputs, the free values and the host link. -/
def State.butInputs (s : State) : State :=
  { s with inputs := Vector.replicate 16 ⟨false, false, false⟩, freeCount := 0, host := startHost }

/-- R48: the edge of an input is to give its notice. -/
def edgeTold (s : State) (k : Nat) (level : Bool) : Bool :=
  if level then (pick s.defs.links.inputs k).risingNotice else (pick s.defs.links.inputs k).fallingNotice

theorem inputNotice_eq (s : State) (k : Nat) (level : Bool) :
    s.inputNotice k level = if edgeTold s k level then s.notify (.input k level) else s := rfl

theorem inputNotice_butHost (s : State) (k : Nat) (level : Bool) : (s.inputNotice k level).butHost = s.butHost := by
  rw [inputNotice_eq]; split
  · exact notify_butHost ..
  · rfl

theorem inputNotice_notified (s : State) (k : Nat) (level : Bool) : s.host.Notified (s.inputNotice k level).host := by
  rw [inputNotice_eq]; split
  · exact notify_notified ..
  · exact .refl _

/-- R46, R190: the inputs changed in CONFIG, and what follows of notices. -/
structure InputsAlone (s t : State) : Prop where
  view : t.butInputs = s.butInputs
  host : s.host.Notified t.host

theorem InputsAlone.refl (s : State) : InputsAlone s s := ⟨rfl, .refl _⟩

theorem InputsAlone.trans {s t u : State} (h : InputsAlone s t) (k : InputsAlone t u) : InputsAlone s u :=
  ⟨k.view.trans h.view, h.host.trans k.host⟩

theorem InputsAlone.mode {s t : State} (h : InputsAlone s t) : t.mode = s.mode := (congrArg State.mode h.view :)

/-- R46: the debounced state has taken the raw value. -/
def State.inputTaken (s : State) (k : Nat) : State :=
  { s with inputs := alter s.inputs k fun i => { i with debounced := i.raw, timing := false } }

theorem takeInput_eq (s : State) (k : Nat) : s.takeInput k = (s.inputTaken k).deliverEdge k := rfl

theorem takeInput_config {s : State} (hm : s.mode = .config) (k : Nat) : InputsAlone s (s.takeInput k) := by
  rw [takeInput_eq, deliverEdge_config (s := s.inputTaken k) hm]
  generalize inputLevel (s.inputTaken k) k = level
  exact ⟨(congrArg State.butInputs (inputNotice_butHost (s.inputTaken k) k level) :),
    inputNotice_notified (s.inputTaken k) k level⟩

theorem debounceChanged_config {s : State} (old : LinkSettings) (hm : s.mode = .config) (k : Nat) :
    InputsAlone s (State.debounceChanged old s k) := by
  unfold State.debounceChanged
  dsimp only
  split
  · have counted : InputsAlone s { s with freeCount := s.freeCount + 1 } := ⟨rfl, .refl _⟩
    split
    · exact counted.trans (takeInput_config (s := { s with freeCount := s.freeCount + 1 }) hm k)
    · exact counted
  · exact .refl s

/-- R190: besides the link settings only inputs may change, and notices follow. -/
theorem replaceLinks_config {s : State} (l : LinkSettings) (hm : s.mode = .config) :
    InputsAlone { s with defs := { s.defs with links := l } } (s.replaceLinks l) := by
  have kept : ∀ t, InputsAlone { s with defs := { s.defs with links := l } } t → ∀ k,
      InputsAlone { s with defs := { s.defs with links := l } } (State.debounceChanged s.defs.links t k) :=
    fun t ht k => ht.trans (debounceChanged_config _ (ht.mode.trans hm) k)
  exact foldl_holds _ _ (fun t k ht => kept t ht k) _ _ (.refl _)

theorem InputsAlone.keeps {s t : State} (h : InputsAlone s t) : Keeps s t := by
  have mid : Keeps s { s with inputs := t.inputs, freeCount := t.freeCount } := .of_unread rfl
  refine mid.trans (.of_butHost ?_ (fun ho => ?_) (fun hr => ?_))
  · calc t.butHost = { t.butInputs with inputs := t.inputs, freeCount := t.freeCount } := rfl
      _ = { s.butInputs with inputs := t.inputs, freeCount := t.freeCount } := by rw [h.view]
  · have := h.host.room
    have ho : s.host.outbound.length ≤ 32 := ho
    show t.host.outbound.length ≤ 32
    omega
  · rw [h.host.rest]; exact hr

/-! ## Definitions in CONFIG -/

theorem outputsFollow_of_idle {s : State} (h : equationsIdle s) : outputsFollow s := by
  obtain ⟨he, hf, hr, ht⟩ := h
  have out : ∀ i, 1 ≤ i → i ≤ 48 → (pick s.equations i).output = false := fun i h1 h2 => by
    rw [he, pick_replicate _ h1 h2]; rfl
  refine ⟨fun i e f h1 h2 _ _ f1 f2 => ?_, fun r r1 r2 => ?_, fun c c1 c2 => ⟨?_, fun _ => ?_⟩⟩
  · rw [hf, pick_replicate _ f1 f2, out i h1 h2]
  · rw [hr, pick_replicate _ r1 r2]
    refine ⟨nofun, fun ⟨i, e, h1, h2, _, _, ho⟩ => ?_⟩
    rw [out i h1 h2] at ho; cases ho
  · intro i e number h1 h2 _ _ ho
    rw [out i h1 h2] at ho; cases ho
  · rw [ht, pick_replicate _ c1 c2]

theorem noneWithinCapacity_of_nil {s : State} (h : s.calls = []) : noneWithinCapacity s := by
  unfold noneWithinCapacity noneCount; rw [h]; exact Nat.zero_le _

/-- In CONFIG the definitions change, and with them the trackers. -/
theorem redefine_keeps {s : State} {d : Definitions} {tr : Vector Tracker 4} (hm : s.mode = .config)
    (htr : trackersInRange s → trackersInRange { s with defs := d, trackers := tr })
    (hd : depthsInRange s.defs → (∀ d, s.store = some d → depthsInRange d) → depthsInRange d) :
    Keeps s { s with defs := d, trackers := tr } := by
  refine ⟨id, ⟨id, fun _ => id, id, fun _ hi _ _ => noneWithinCapacity_of_nil (hi hm), id, fun _ _ _ => id⟩,
    ⟨id, id, id, id, htr, fun hi hp => ⟨hi, hp⟩, fun _ e => absurd (hm.symm.trans e) (by decide),
      fun hi _ _ _ => outputsFollow_of_idle (hi hm).2.2.2.2⟩, fun hs => ?_⟩
  obtain ⟨⟨h1, h2, h3, -, -⟩, hall⟩ := boardQueuesFit_iff.mp hs
  have noFlight : ∀ f, s.link.inFlight ≠ some f := fun f e => by rw [(h3 hm).1] at e; cases e
  refine boardQueuesFit_iff.mpr ⟨⟨hd h1 h2, h2, h3, fun b fr t e => absurd e (noFlight _),
    fun b e => absurd e (noFlight _)⟩, fun b hb1 hb2 => ?_⟩
  have hq := (hall b hb1 hb2).1 hm
  refine ⟨fun _ => hq, ?_⟩
  show queueFits _ (pick s.boards b).queue
  rw [hq]
  exact ⟨Nat.zero_le _, List.nodup_nil, nofun⟩

/-- A definition of no section and no board changes, in CONFIG. -/
theorem modDefs_keeps {s : State} {f : Definitions → Definitions} (hm : s.mode = .config)
    (hs : (f s.defs).sections = s.defs.sections) (hb : (f s.defs).boards = s.defs.boards) : Keeps s (s.modDefs f) := by
  refine redefine_keeps (tr := s.trackers) hm (fun h => ?_) fun h _ => ?_
  · obtain ⟨h1, h2, h3⟩ := h
    refine ⟨?_, h2, ?_⟩
    · unfold sectionsInRange at *
      show ∀ n, 1 ≤ n → n ≤ 4 → ∀ x, pick (f s.defs).sections n = some x → _
      rw [hs]; exact h1
    · unfold State.sectionDef at *
      show ∀ n, 1 ≤ n → n ≤ 4 → ∀ x, pick (f s.defs).sections n = some x → _
      rw [hs]; exact h3
  · unfold depthsInRange at *; rw [hb]; exact h

theorem readSectionDef_inRange {body : List Byte} {n : Nat} {d : SectionDef} (h : readSectionDef body = some (n, some d)) :
    sectionInRange d := by
  unfold readSectionDef at h
  dsimp only at h
  split at h
  · cases h
  · split at h
    · cases h
    · cases h
    · split at h
      · split at h
        · next hr =>
          cases h
          exact ⟨hr.1, hr.2.1, hr.2.2.1⟩
        · cases h
      · cases h

/-- R33: a tracker at its starting values is in range of any section. -/
theorem startTracker_inRange {d : SectionDef} (h : sectionInRange d) :
    startTracker.phase < d.pitch ∧ startTracker.debt ≤ d.pitch :=
  ⟨Nat.lt_of_lt_of_le (by decide) h.1, Nat.zero_le _⟩

theorem defineSection_keeps {s : State} {n : Nat} {d : Option SectionDef} (hm : s.mode = .config)
    (hd : ∀ x, d = some x → sectionInRange x) : Keeps s (s.defineSection n d) := by
  refine redefine_keeps hm (fun h => ?_) fun h _ => h
  obtain ⟨h1, h2, h3⟩ := h
  have read : ∀ m, 1 ≤ m → m ≤ 4 → ∀ x, pick (alter s.defs.sections n fun _ => d) m = some x →
      (m = n ∧ d = some x) ∨ (m ≠ n ∧ pick s.defs.sections m = some x) := by
    intro m m1 m2 x hx
    rw [pick_alter_within _ _ m1 m2] at hx
    split at hx
    · next e => exact .inl ⟨e, hx⟩
    · next e => exact .inr ⟨e, hx⟩
  refine ⟨fun m m1 m2 x hx => ?_, h2, fun m m1 m2 x hx => ?_⟩
  · rcases read m m1 m2 x hx with ⟨-, e⟩ | ⟨-, e⟩
    · exact hd x e
    · exact h1 m m1 m2 x e
  · show (pick (alter s.trackers n fun _ => startTracker) m).phase < _ ∧
      (pick (alter s.trackers n fun _ => startTracker) m).debt ≤ _
    rw [pick_alter_within _ _ m1 m2]
    rcases read m m1 m2 x hx with ⟨e, e'⟩ | ⟨e, e'⟩
    · rw [if_pos e]; exact startTracker_inRange (hd x e')
    · rw [if_neg e]; exact h3 m m1 m2 x e'

theorem defineBoard_keeps {s : State} {b depth : Nat} (hm : s.mode = .config) (hd : 4 ≤ depth ∧ depth ≤ 16) :
    Keeps s (s.defineBoard b depth) := by
  refine redefine_keeps (tr := s.trackers) hm id fun h _ m m1 m2 x hx => ?_
  have hx : pick (alter s.defs.boards b fun _ => some depth) m = some x := hx
  rw [pick_alter_within _ _ m1 m2] at hx
  split at hx
  · cases hx; exact hd
  · exact h m m1 m2 x hx

theorem undefineBoard_keeps {s : State} {b : Nat} (hm : s.mode = .config) : Keeps s (s.undefineBoard b) := by
  refine redefine_keeps (tr := s.trackers) hm id fun h _ m m1 m2 x hx => ?_
  have hx : pick (alter s.defs.boards b fun _ => none) m = some x := hx
  rw [pick_alter_within _ _ m1 m2] at hx
  split at hx
  · cases hx
  · exact h m m1 m2 x hx

theorem replaceLinks_keeps {s : State} (l : LinkSettings) (hm : s.mode = .config) : Keeps s (s.replaceLinks l) :=
  (modDefs_keeps (f := fun x => { x with links := l }) hm rfl rfl).trans (replaceLinks_config l hm).keeps

theorem trackersInRange_start {s : State} (d : Definitions) (h : sectionsInRange d)
    (hst : ∀ d, s.store = some d → sectionsInRange d) :
    trackersInRange { s with defs := d, trackers := Vector.replicate 4 startTracker } := by
  refine ⟨h, hst, fun n h1 h2 x hx => ?_⟩
  show (pick (Vector.replicate 4 startTracker) n).phase < _ ∧ (pick (Vector.replicate 4 startTracker) n).debt ≤ _
  rw [pick_replicate _ h1 h2]
  exact startTracker_inRange (h n h1 h2 x hx)

/-- R193: the stored definitions recalled. -/
theorem recall_keeps {s : State} {d : Definitions} (hm : s.mode = .config) (hd : s.store = some d) :
    Keeps s (s.recall d) := by
  have links := replaceLinks_config (s := { s with defs := { d with links := s.defs.links } }) d.links hm
  have first : Keeps s { s with defs := d, trackers := Vector.replicate 4 startTracker } :=
    redefine_keeps hm (fun h => trackersInRange_start d (h.2.1 d hd) h.2.1) fun _ h => h d hd
  unfold State.recall
  generalize State.replaceLinks { s with defs := { d with links := s.defs.links } } d.links = u at links ⊢
  have inputs : InputsAlone { s with defs := d, trackers := Vector.replicate 4 startTracker }
      { u with trackers := Vector.replicate 4 startTracker } :=
    ⟨(congrArg (fun x : State => { x with trackers := Vector.replicate 4 startTracker }) links.view :), links.host⟩
  exact (first.trans inputs.keeps).trans (.of_unread rfl)

/-! ## ENTER CONFIG (R188) -/

theorem mem_displayOrder {s : State} {c : Call} : c ∈ displayOrder s ↔ c ∈ s.calls :=
  (List.perm_insertionSort _ s.calls).mem_iff

theorem closeNumber_calls (s : State) (o : Closing) (b : Bool) (k : Nat) :
    (s.closeNumber o b k).calls = s.calls.filter fun x => x.number != k := by
  unfold State.closeNumber
  split
  · next c h => rw [closeCall_calls, callOf_number h]
  · next h =>
    refine (List.filter_eq_self.mpr fun c hc => ?_).symm
    unfold State.callOf at h
    simpa using List.find?_eq_none.mp h c hc

theorem closeNumbers_calls (ks : List Nat) (s : State) (o : Closing) (b : Bool) :
    (ks.foldl (fun s k => s.closeNumber o b k) s).calls = s.calls.filter fun x => ks.all fun k => x.number != k := by
  induction ks generalizing s with
  | nil => simp
  | cons k ks ih =>
    rw [List.foldl_cons, ih, closeNumber_calls, List.filter_filter]
    refine List.filter_congr fun c _ => ?_
    rw [List.all_cons, Bool.and_comm]

/-- R23: the purge leaves no call. -/
theorem purge_calls (s : State) : s.purge.calls = [] := by
  show (((displayOrder s).map (·.number)).foldl (fun s k => s.closeNumber .purged false k) s).calls = []
  rw [closeNumbers_calls, List.filter_eq_nil_iff]
  intro c hc
  rw [List.all_eq_true]
  intro h
  have := h c.number (List.mem_map_of_mem (mem_displayOrder.mpr hc))
  simp at this

theorem purge_ops (s : State) : ByOps s s.purge := by
  refine .trans (t := ((displayOrder s).map (·.number)).foldl (fun s k => s.closeNumber .purged false k) s) ?_ (.table rfl)
  exact foldl_holds (ByOps s) _ (fun t k ht => ht.trans (ByOps.closeNumber t .purged false k)) _ _ (.refl s)

/-- R71: stop logic of a section that gives up its holds. -/
def StopLogic.given (x : StopLogic) : StopLogic :=
  { x with holdOrder := [], waiting := 0, overflow := false, pending := false, request := false }

theorem giveUpHolds_stops (s : State) (n : Nat) : (s.giveUpHolds n).stops = alter s.stops n StopLogic.given := by
  unfold State.giveUpHolds
  dsimp only
  split
  · rw [releaseRequest_stops, modStop_stops, alter_alter]; rfl
  · next h =>
    rw [modStop_stops] at h ⊢
    refine alter_congr_at _ ?_
    by_cases hn : 1 ≤ n ∧ n ≤ 4
    · rw [pick_alter_same _ _ hn.1 hn.2] at h
      simpa [StopLogic.given] using h
    · rw [pick_outside _ (by omega)]; rfl

theorem giveUpHolds_ops (s : State) (n : Nat) : ByOps s (s.giveUpHolds n) := by
  unfold State.giveUpHolds
  exact (ByOps.modStop s n _).trans (.ite (ByOps.releaseRequest ..) (.refl _))

theorem giveUpHolds_calls (s : State) (n : Nat) : (s.giveUpHolds n).calls = s.calls := by
  unfold State.giveUpHolds; dsimp only; split
  · exact (congrArg State.calls (releaseRequest_butStops _ n) :)
  · rfl

/-- R188: the state before the links and the equation unit are stopped: no call stands, no hold is left. -/
def State.givenUp (s : State) : State := (numbers 4).foldl State.giveUpHolds s.purge

theorem leaveRun_eq (s : State) : s.leaveRun = { s.givenUp.stopLinks.idleComposer.idleEquations with mode := .config } := rfl

theorem givenUp_ops (s : State) : ByOps s s.givenUp :=
  foldl_holds (ByOps s) _ (fun t n ht => ht.trans (giveUpHolds_ops t n)) _ _ (purge_ops s)

theorem givenUp_calls (s : State) : s.givenUp.calls = [] :=
  (foldl_keeps State.calls _ giveUpHolds_calls (numbers 4) s.purge).trans (purge_calls s)

/-- A change made once at each place of a bank is made at every place. -/
theorem pick_foldl_alter {α : Type} [Inhabited α] {n : Nat} (g : α → α) (js : List Nat) (hj : js.Nodup) (v : Vector α n)
    {i : Nat} (h1 : 1 ≤ i) (h2 : i ≤ n) :
    pick (js.foldl (fun v j => alter v j g) v) i = if i ∈ js then g (pick v i) else pick v i := by
  induction js generalizing v with
  | nil => simp
  | cons j js ih =>
    rw [List.nodup_cons] at hj
    rw [List.foldl_cons, ih hj.2, pick_alter_within _ _ h1 h2]
    by_cases hij : i = j
    · subst hij; simp [hj.1]
    · simp [hij]

theorem numbers_nodup (n : Nat) : (numbers n).Nodup :=
  List.Nodup.map (fun a b h => by simpa using h) List.nodup_range

theorem givenUp_stops (s : State) {n : Nat} (h1 : 1 ≤ n) (h2 : n ≤ 4) :
    pick s.givenUp.stops n = (pick s.purge.stops n).given := by
  have fold : ∀ (js : List Nat) (t : State), (js.foldl State.giveUpHolds t).stops =
      js.foldl (fun v j => alter v j StopLogic.given) t.stops := by
    intro js
    induction js with
    | nil => exact fun _ => rfl
    | cons j js ih => intro t; rw [List.foldl_cons, ih, giveUpHolds_stops]; rfl
  unfold State.givenUp
  rw [fold, pick_foldl_alter _ _ (numbers_nodup 4) _ h1 h2, if_pos (mem_numbers.mpr ⟨h1, h2⟩)]

theorem purge_arrivalCount (s : State) : s.purge.arrivalCount = 0 := rfl

theorem givenUp_arrivalCount (s : State) : s.givenUp.arrivalCount = 0 := by
  have one : ∀ t n, (State.giveUpHolds t n).arrivalCount = t.arrivalCount := fun t n => by
    unfold State.giveUpHolds; dsimp only; split
    · exact (congrArg State.arrivalCount (releaseRequest_butStops _ n) :)
    · rfl
  exact (foldl_keeps State.arrivalCount _ one (numbers 4) s.purge).trans (purge_arrivalCount s)

/-- No call stands, and stop logic is at rest: the invariants of the call table hold. -/
theorem KeepsTable.of_nil {p : Prop} {s t : State} (hc : t.calls = []) (ha : t.arrivalCount = 0)
    (ht : ∀ n, 1 ≤ n → n ≤ 4 → (pick t.stops n).inLine ∧ (pick t.stops n).holdOrder = []) : KeepsTable p s t := by
  refine ⟨fun _ => ?_, fun _ _ _ => hc, fun _ => ?_, fun _ _ _ _ => noneWithinCapacity_of_nil hc,
    fun _ n h1 h2 => (ht n h1 h2).1, fun _ _ _ _ => ?_⟩
  · rw [hc]; exact Nat.zero_le _
  · unfold callsInOrder; rw [hc, ha]
    exact ⟨List.nodup_nil, List.nodup_nil, .nil, by decide, nofun⟩
  · unfold holdOrdersAgree; rw [hc]
    refine ⟨nofun, fun n h1 h2 => ?_⟩
    rw [(ht n h1 h2).2]
    exact ⟨List.nodup_nil, fun k => ⟨nofun, nofun⟩⟩

theorem stopLinks_boards (s : State) {b : Nat} (h1 : 1 ≤ b) (h2 : b ≤ 8) :
    (pick s.stopLinks.idleComposer.boards b).queue = [] := by
  unfold State.idleComposer State.stopLinks
  dsimp only
  rw [pick_alterAll _ _ h1 h2, pick_alterAll _ _ h1 h2]; rfl

/-- R188: what ENTER CONFIG leaves, from a state in the shift state NONE. -/
theorem stopAll_keepsRest {s : State} (hn : s.shiftState = .none) :
    KeepsRest s { s.stopLinks.idleComposer.idleEquations with mode := .config } := by
  have idle : equationsIdle { s.stopLinks.idleComposer.idleEquations with mode := .config } := ⟨rfl, rfl, rfl, rfl⟩
  exact ⟨id, id, id, id, id, fun _ hp => ⟨fun _ => ⟨hn, rfl, rfl, rfl, idle⟩, hp⟩, fun _ => nofun,
    fun _ _ _ _ => outputsFollow_of_idle idle⟩

theorem stopAll_boards {s : State} (hs : boardQueuesFit s) :
    boardQueuesFit { s.stopLinks.idleComposer.idleEquations with mode := .config } := by
  obtain ⟨⟨h1, h2, -⟩, -⟩ := boardQueuesFit_iff.mp hs
  refine boardQueuesFit_iff.mpr ⟨⟨h1, h2, fun _ => ⟨rfl, rfl⟩, nofun, nofun⟩, fun b b1 b2 => ?_⟩
  have hq := stopLinks_boards s b1 b2
  refine ⟨fun _ => hq, ?_⟩
  show queueFits _ (pick s.stopLinks.idleComposer.boards b).queue
  rw [hq]
  exact ⟨Nat.zero_le _, List.nodup_nil, nofun⟩

theorem givenUp_shiftState (s : State) : s.givenUp.shiftState = s.shiftState :=
  (givenUp_ops s).shiftState

theorem leaveRun_keeps {s : State} (hn : s.shiftState = .none) : Keeps s s.leaveRun := by
  rw [leaveRun_eq]
  have ops := givenUp_ops s
  have calls := givenUp_calls s
  have arrival := givenUp_arrivalCount s
  have shift := (givenUp_shiftState s).trans hn
  have stops : ∀ n, 1 ≤ n → n ≤ 4 → (pick s.givenUp.stops n).inLine ∧ (pick s.givenUp.stops n).holdOrder = [] :=
    fun n h1 h2 => by rw [givenUp_stops s h1 h2]; exact ⟨rfl, rfl⟩
  generalize s.givenUp = t at *
  exact ⟨fun _ _ => ⟨rfl, rfl⟩, .of_nil calls arrival stops, ops.keepsRest.trans (stopAll_keepsRest shift),
    fun hs => stopAll_boards ((ops.keeps (p := True)).boards trivial hs)⟩

/-! ## ENTER RUN and reset (R189, R193) -/

theorem startBlocks_keeps {s : State} (hm : s.mode = .config) (hc : configCheck s.defs = none) : Keeps s s.startBlocks := by
  have stop : ∀ n, 1 ≤ n → n ≤ 4 → pick s.startBlocks.stops n =
      { startStop with unattributed := (pick s.stops n).unattributed } := fun n h1 h2 => by
    unfold State.startBlocks; exact pick_alterAll _ _ h1 h2
  refine ⟨fun _ => nofun, ⟨id, fun _ _ => nofun, id, fun _ _ _ => id, fun _ n h1 h2 => ?_,
    fun _ hi _ h => ⟨h.1, fun n h1 h2 => ?_⟩⟩, ?_, fun hs => ?_⟩
  · rw [stop n h1 h2]; rfl
  · rw [stop n h1 h2]
    refine ⟨List.nodup_nil, fun k => ⟨nofun, fun ⟨c, hmem, _⟩ => ?_⟩⟩
    have hmem : c ∈ s.calls := hmem
    rw [hi hm] at hmem; cases hmem
  · exact ⟨id, id, id, id, fun h => trackersInRange_start s.defs h.1 h.2.1, fun _ _ => ⟨nofun, Iff.rfl.mpr ⟨fun _ => rfl, fun _ => rfl⟩⟩,
      fun _ _ => hc, fun _ _ _ => id⟩
  · obtain ⟨⟨h1, h2, -⟩, -⟩ := boardQueuesFit_iff.mp hs
    refine boardQueuesFit_iff.mpr ⟨⟨h1, h2, nofun, nofun, nofun⟩, fun b b1 b2 => ?_⟩
    have hq : (pick s.startBlocks.boards b).queue = [] := by
      unfold State.startBlocks; dsimp only; rw [pick_replicate _ b1 b2]; rfl
    refine ⟨fun _ => hq, ?_⟩
    rw [hq]
    exact ⟨Nat.zero_le _, List.nodup_nil, nofun⟩

theorem refreshRun_keeps {s : State} (hm : s.mode = .run) (p : Board → Bool) : Keeps s (s.refreshBoards p) :=
  .of_boards (refreshBoards_keeps (fun _ => hm) p) (butLink_of_boards (refreshBoards_butBoards s p))

theorem startRun_keeps {s : State} (hm : s.mode = .config) (hc : configCheck s.defs = none) : Keeps s s.startRun := by
  unfold State.startRun
  have handed := handOn_keeps s.startBlocks [.all]
  have run : (s.startBlocks.handOn [.all]).mode = .run := handOn_mode ..
  refine (startBlocks_keeps hm hc).trans (handed.trans ?_)
  generalize s.startBlocks.handOn [.all] = t at run ⊢
  refine (setRefresh_keeps (s := t) (x := refreshLoad t) fun _ => run).trans ?_
  exact refreshRun_keeps (s := { t with refreshTimer := refreshLoad t }) run _

theorem historyInOrder_of_nil {s : State} (h : s.history = []) (hn : s.nextSeq = 0) : historyInOrder s := by
  unfold historyInOrder; rw [h, hn]; simp [sequencesRun]

/-- R193: the state a reset begins from. -/
theorem cleared_keeps {s : State} (straps : Bool × Bool) {d : Definitions} (hd : s.store = some d ∨ d = emptyDefinitions) :
    Keeps s { s.cleared straps with defs := d } := by
  have sections : trackersInRange s → sectionsInRange d := fun h => hd.elim (h.2.1 d) fun e => by
    subst e
    intro n h1 h2 x hx
    have hx : pick (Vector.replicate 4 none) n = some x := hx
    rw [pick_replicate _ h1 h2] at hx; cases hx
  have depths : boardQueuesFit s → depthsInRange d := fun h => hd.elim (h.2.1 d) fun e => by
    subst e
    intro n h1 h2 x hx
    have hx : pick (Vector.replicate 8 none) n = some x := hx
    rw [pick_replicate _ h1 h2] at hx; cases hx
  have idle : equationsIdle { s.cleared straps with defs := d } := ⟨rfl, rfl, rfl, rfl⟩
  refine ⟨fun _ _ => ⟨rfl, rfl⟩, .of_nil rfl rfl fun n h1 h2 => ?_, ⟨fun _ => Nat.zero_le _, fun _ => Nat.zero_le _, fun _ => Nat.zero_le _,
    fun _ => historyInOrder_of_nil rfl rfl, fun h => trackersInRange_start (s := s.cleared straps) d (sections h) h.2.1,
    fun _ _ => ⟨fun _ => ⟨rfl, rfl, rfl, rfl, idle⟩, ⟨fun _ => rfl, fun _ => rfl⟩⟩, fun _ => nofun,
    fun _ _ _ _ => outputsFollow_of_idle idle⟩, fun h => ?_⟩
  · show (pick (Vector.replicate 4 startStop) n).inLine ∧ (pick (Vector.replicate 4 startStop) n).holdOrder = []
    rw [pick_replicate _ h1 h2]; exact ⟨rfl, rfl⟩
  · refine boardQueuesFit_iff.mpr ⟨⟨depths h, h.2.1, fun _ => ⟨rfl, rfl⟩, nofun, nofun⟩, fun b b1 b2 => ?_⟩
    have hq : (pick { s.cleared straps with defs := d }.boards b).queue = [] := by
      show (pick (Vector.replicate 8 startBoard) b).queue = []
      rw [pick_replicate _ b1 b2]; rfl
    refine ⟨fun _ => hq, ?_⟩
    rw [hq]
    exact ⟨Nat.zero_le _, List.nodup_nil, nofun⟩

theorem startNote_keeps (s : State) (x : StartNote) : Keeps s { s with startNote := x } := .of_unread rfl

theorem resetNow_keeps (s : State) (straps : Bool × Bool) : Keeps s (s.resetNow straps) := by
  unfold State.resetNow
  dsimp only
  split
  · exact cleared_keeps straps (.inr rfl)
  · next d hd =>
    have began : Keeps s { s.cleared straps with defs := d } := cleared_keeps straps (.inl hd)
    split
    · next hc => exact (began.trans (startRun_keeps rfl hc)).trans (startNote_keeps _ _)
    · exact began.trans (startNote_keeps _ _)

end Sys2Proof.Machine
end

section
/-! PROOFS. LinesKept: encoders, inputs, loops and the requests of RUN keep the invariants. -/

namespace Sys2Proof.Machine

/-! ## Trackers (R33–R41) -/

/-- One tracker changed, still in range of its section. -/
theorem modTracker_keeps {s : State} {n : Nat} {f : Tracker → Tracker}
    (hf : ∀ d, s.sectionDef n = some d → sectionInRange d → (pick s.trackers n).phase < d.pitch →
      (pick s.trackers n).debt ≤ d.pitch → (f (pick s.trackers n)).phase < d.pitch ∧ (f (pick s.trackers n)).debt ≤ d.pitch) :
    Keeps s (s.modTracker n f) := by
  refine ⟨id, .of_view rfl, ⟨id, id, id, id, fun h => ?_, fun hi hp => ⟨hi, hp⟩, id, fun _ _ _ => id⟩, id⟩
  obtain ⟨h1, h2, h3⟩ := h
  refine ⟨h1, h2, fun m m1 m2 x hx => ?_⟩
  have hx : s.sectionDef m = some x := hx
  rw [modTracker_trackers, pick_alter_within _ _ m1 m2]
  obtain ⟨k1, k2⟩ := h3 m m1 m2 x hx
  split
  · next e => subst e; exact hf x hx (h1 m m1 m2 x hx) k1 k2
  · exact ⟨k1, k2⟩

/-- One tracker changed, neither its phase nor its debt raised. -/
theorem lowerTracker_keeps {s : State} {n : Nat} {f : Tracker → Tracker}
    (hf : ∀ x : Tracker, (f x).phase ≤ x.phase ∧ (f x).debt ≤ x.debt) : Keeps s (s.modTracker n f) :=
  modTracker_keeps fun _ _ _ h1 h2 => ⟨(hf _).1.trans_lt h1, (hf _).2.trans h2⟩

theorem forwardDistance_keeps (s : State) (n k : Nat) : Keeps s (s.forwardDistance n k) :=
  .of_ops (.table rfl) (forwardDistance_keepsTable s n k)

theorem backwardJump_keeps (s : State) (n k : Nat) (d : SectionDef) : Keeps s (s.backwardJump n k d) :=
  .of_ops (.table rfl) (backwardJump_keepsTable s n k d)

theorem countRose_keeps (s : State) (n : Nat) (a : ActualSource) : Keeps s (s.countRose n a) :=
  .of_ops_view (.countRose s n a) (congrArg State.tableView (countRose_butAccount s n a) :)

theorem pitchRises_keeps (s : State) (n : Nat) : Keeps s (s.pitchRises n) := by
  unfold State.pitchRises
  exact (lowerTracker_keeps (f := fun t => { t with pitchCount := wrap 65535 t.pitchCount })
    fun x => ⟨Nat.le_refl _, Nat.le_refl _⟩).trans (countRose_keeps ..)

theorem forwardPulse_keeps {s : State} {n : Nat} {d : SectionDef} (hd : s.sectionDef n = some d) :
    Keeps s (s.forwardPulse n d) := by
  unfold State.forwardPulse
  dsimp only
  split
  · exact lowerTracker_keeps fun x => ⟨Nat.le_refl _, Nat.sub_le _ _⟩
  · split
    · next h =>
      refine .trans (t := s.modTracker n fun t => { t with phase := t.phase + 1 }) ?_ (forwardDistance_keeps _ n 1)
      exact modTracker_keeps fun x hx _ _ h2 => by rw [hd] at hx; cases hx; exact ⟨h, h2⟩
    · have begun : Keeps s (s.modTracker n fun t => { t with phase := 0 }) :=
        lowerTracker_keeps fun x => ⟨Nat.zero_le _, Nat.le_refl _⟩
      exact (begun.trans (pitchRises_keeps _ n)).trans (forwardDistance_keeps _ n 1)

theorem rollbackNotice_keeps (s : State) (n : Nat) : Keeps s (s.rollbackNotice n) := notify_keeps ..

theorem reversePulse_keeps {s : State} {n : Nat} {d : SectionDef} (hd : s.sectionDef n = some d) :
    Keeps s (s.reversePulse n d) := by
  unfold State.reversePulse
  dsimp only
  split
  · next h => exact modTracker_keeps fun x hx _ h1 _ => by rw [hd] at hx; cases hx; exact ⟨h1, h⟩
  · refine .ite (.refl s) (.trans ?_ (rollbackNotice_keeps _ n))
    exact lowerTracker_keeps fun x => ⟨Nat.le_refl _, Nat.le_refl _⟩

theorem dropDebt_keeps (s : State) (n : Nat) : Keeps s (s.dropDebt n) := by
  unfold State.dropDebt
  have dropped : Keeps s (s.modTracker n fun t => { t with debt := 0, saturated := false }) :=
    lowerTracker_keeps fun x => ⟨Nat.le_refl _, Nat.zero_le _⟩
  exact dropped.trans (.ite (rollbackNotice_keeps ..) (.refl _))

theorem syncEdge_keeps (s : State) (n : Nat) (d : SectionDef) : Keeps s (s.syncEdge n d) := by
  unfold State.syncEdge
  refine (dropDebt_keeps s n).trans ?_
  generalize s.dropDebt n = u
  dsimp only
  split
  · exact lowerTracker_keeps fun x => ⟨Nat.le_refl _, Nat.le_refl _⟩
  · split
    · generalize d.pitch - (pick u.trackers n).phase = jump
      have aligned : Keeps u (u.modTracker n fun t => { t with phase := 0, lastSync := some (.forward, jump) }) :=
        lowerTracker_keeps fun x => ⟨Nat.zero_le _, Nat.le_refl _⟩
      exact (aligned.trans (pitchRises_keeps _ n)).trans (forwardDistance_keeps _ n jump)
    · generalize (pick u.trackers n).phase = phase
      have aligned : Keeps u (u.modTracker n fun t => { t with phase := 0, lastSync := some (.backward, phase) }) :=
        lowerTracker_keeps fun x => ⟨Nat.zero_le _, Nat.le_refl _⟩
      exact aligned.trans (backwardJump_keeps _ n phase d)

theorem passEdge_keeps (s : State) (n : Nat) : Keeps s (s.passEdge n) := by
  unfold State.passEdge
  exact (lowerTracker_keeps (f := fun t => { t with passCount := wrap 65535 t.passCount })
    fun x => ⟨Nat.le_refl _, Nat.le_refl _⟩).trans (countRose_keeps ..)

theorem syncUser_keeps (k : Nat) (s : State) (n : Nat) : Keeps s (State.syncUser k s n) := by
  unfold State.syncUser; split
  · exact .ite (syncEdge_keeps ..) (.refl s)
  · exact .refl s

theorem passUser_keeps (k : Nat) (s : State) (n : Nat) : Keeps s (State.passUser k s n) := by
  unfold State.passUser; split
  · exact .ite (passEdge_keeps ..) (.refl s)
  · exact .refl s

theorem runUser_keeps (k : Nat) (s : State) (n : Nat) : Keeps s (State.runUser k s n) := by
  unfold State.runUser; split
  · exact .ite (handOn_keeps ..) (.refl s)
  · exact .refl s

theorem inputNotice_keeps (s : State) (k : Nat) (level : Bool) : Keeps s (s.inputNotice k level) := by
  rw [inputNotice_eq]; exact .ite (notify_keeps ..) (.refl s)

/-- What keeps the invariants at each step keeps them along a list. -/
theorem foldl_keepsAll {α : Type} {f : State → α → State} (h : ∀ s x, Keeps s (f s x)) (xs : List α) (s : State) :
    Keeps s (xs.foldl f s) :=
  foldl_holds (Keeps s) f (fun t x ht => ht.trans (h t x)) xs s (.refl s)

/-- R38–R43: the sections that use the input for sync and pass have taken its edge. -/
def State.edgeCounted (s : State) (k : Nat) : State :=
  if inputLevel s k then (numbers 4).foldl (State.passUser k) ((numbers 4).foldl (State.syncUser k) s) else s

/-- R42: … and those that use it as run input, and the equation unit. -/
def State.edgeRun (s : State) (k : Nat) : State := ((numbers 4).foldl (State.runUser k) s).handOn [.input k]

theorem deliverEdge_eq (s : State) (k : Nat) :
    s.deliverEdge k = ((s.edgeCounted k).edgeRun k).inputNotice k (inputLevel s k) := rfl

theorem edgeCounted_keeps (s : State) (k : Nat) : Keeps s (s.edgeCounted k) :=
  .ite ((foldl_keepsAll (syncUser_keeps k) _ s).trans (foldl_keepsAll (passUser_keeps k) _ _)) (.refl s)

theorem edgeRun_keeps (s : State) (k : Nat) : Keeps s (s.edgeRun k) :=
  (foldl_keepsAll (runUser_keeps k) _ s).trans (handOn_keeps ..)

theorem deliverEdge_keeps (s : State) (k : Nat) : Keeps s (s.deliverEdge k) := by
  rw [deliverEdge_eq]
  exact ((edgeCounted_keeps s k).trans (edgeRun_keeps _ k)).trans (inputNotice_keeps ..)

theorem takeInput_keeps (s : State) (k : Nat) : Keeps s (s.takeInput k) := by
  rw [takeInput_eq]
  exact .trans (t := s.inputTaken k) (.of_unread rfl) (deliverEdge_keeps ..)

/-- R46: the raw value of an input changed, and whether it is timed. -/
def State.rawTaken (s : State) (k : Nat) (level timing : Bool) : State :=
  { s with inputs := alter s.inputs k fun i => { i with raw := level, timing := timing } }

theorem rawChange_eq (s : State) (k : Nat) (level : Bool) : s.rawChange k level =
    if (pick s.inputs k).raw = level then s
    else if (level != (pick s.inputs k).debounced) && (pick s.defs.links.inputs k).debounceMs == 0 then
      (s.rawTaken k level (level != (pick s.inputs k).debounced)).takeInput k
    else s.rawTaken k level (level != (pick s.inputs k).debounced) := rfl

theorem rawTaken_keeps (s : State) (k : Nat) (level timing : Bool) : Keeps s (s.rawTaken k level timing) := .of_unread rfl

theorem rawChange_keeps (s : State) (k : Nat) (level : Bool) : Keeps s (s.rawChange k level) := by
  rw [rawChange_eq]
  generalize (level != (pick s.inputs k).debounced) = timing
  have raw := rawTaken_keeps s k level timing
  generalize s.rawTaken k level timing = t at raw ⊢
  exact .ite (.refl s) (.ite (raw.trans (takeInput_keeps t k)) raw)

/-! ## Loops (R78–R87) -/

/-- A loop controller changed, with no poll begun in CONFIG. -/
theorem modLoop_keeps {s : State} {l : LoopId} {f : LoopState → LoopState}
    (hf : s.mode = .config → ∀ x : LoopState, x.polled = none → (f x).polled = none) : Keeps s (s.modLoop l f) := by
  have polls : pollsIdle s → pollsIdle (s.modLoop l f) := fun h e => by
    have hm : s.mode = .config := by rw [modLoop_mode] at e; exact e
    cases l with
    | a => exact ⟨hf hm _ (h hm).1, (h hm).2⟩
    | b => exact ⟨(h hm).1, hf hm _ (h hm).2⟩
  have view : (s.modLoop l f).butLoops = s.butLoops := by cases l <;> rfl
  refine ⟨polls, .of_view (congrArg State.tableView view :), ?_, boardQueuesFit_of_view (congrArg State.queueView view :)⟩
  have carry : ∀ p : State → Prop, (∀ x, p x ↔ p x.butLoops) → (p s → p (s.modLoop l f)) := fun p hp hs => by
    rw [hp, view, ← hp]; exact hs
  refine ⟨carry (fun x => x.host.outbound.length ≤ _) fun _ => .rfl, carry (fun x => x.host.requests.length ≤ _) fun _ => .rfl,
    carry (fun x => x.history.length ≤ _) fun _ => .rfl, carry historyInOrder fun _ => .rfl,
    carry trackersInRange fun _ => .rfl, fun hi hp => ⟨fun e => ?_, carry shiftPresent (fun _ => .rfl) hp⟩,
    carry definitionsAgree fun _ => .rfl, fun _ _ _ => carry outputsFollow fun _ => .rfl⟩
  have hm : s.mode = .config := by rw [modLoop_mode] at e; exact e
  obtain ⟨h1, h2, h3, h4, h5⟩ := hi hm
  obtain ⟨k1, k2⟩ := polls (fun _ => ⟨h2, h3⟩) e
  have unit : sameUnit s (s.modLoop l f) := by cases l <;> exact ⟨rfl, rfl, rfl, rfl⟩
  have link : (s.modLoop l f).link = s.link := by cases l <;> rfl
  have shift : (s.modLoop l f).shiftState = s.shiftState := by cases l <;> rfl
  exact ⟨shift ▸ h1, k1, k2, link ▸ h4, equationsIdle_congr unit h5⟩

/-- A loop controller changed in everything but its poll. -/
theorem modLoop_same_keeps {s : State} {l : LoopId} {f : LoopState → LoopState}
    (hf : ∀ x : LoopState, (f x).polled = x.polled) : Keeps s (s.modLoop l f) :=
  modLoop_keeps fun _ x h => (hf x).trans h

theorem modStation_keeps (s : State) (n : Nat) (f : Station → Station) : Keeps s (s.modStation n f) := .of_unread rfl

theorem sendPending_keeps (s : State) (l : LoopId) : Keeps s (s.sendPending l) := by
  unfold State.sendPending; split
  · exact modLoop_same_keeps fun _ => rfl
  · exact .refl s

theorem sendPoll_keeps {s : State} (hm : s.mode = .run) (l : LoopId) (a : Nat) : Keeps s (s.sendPoll l a) := by
  unfold State.sendPoll
  exact modLoop_keeps fun e => absurd (hm.symm.trans e) (by decide)

theorem endCycle_keeps (s : State) (l : LoopId) : Keeps s (s.endCycle l) := modLoop_same_keeps fun _ => rfl

theorem endCycle_mode (s : State) (l : LoopId) : (s.endCycle l).mode = s.mode := modLoop_mode ..

theorem pollStep_keeps {s : State} (hm : s.mode = .run) (l : LoopId) : Keeps s (s.pollStep l) := by
  unfold State.pollStep
  split
  · exact sendPoll_keeps hm ..
  · refine .ite (.refl s) ?_
    refine (endCycle_keeps s l).trans ?_
    dsimp only
    split
    · exact sendPoll_keeps ((endCycle_mode s l).trans hm) ..
    · exact sendPending_keeps ..

theorem endIdleCycle_keeps (s : State) (l : LoopId) : Keeps s (s.endIdleCycle l) := by
  unfold State.endIdleCycle
  exact (endCycle_keeps s l).trans (.ite (sendPending_keeps ..) (.refl _))

/-- What the shared operations and the loops keep of a state whose call table, in CONFIG, presumes `p`: `Keeps`, but that the
call table of an idle CONFIG presumes `p` besides. -/
structure KeepsIf (p : Prop) (s t : State) : Prop where
  polls : pollsIdle s → pollsIdle t
  table : KeepsTable p s t
  rest : KeepsRest s t
  boards : boardQueuesFit s → boardQueuesFit t
  mode : t.mode = s.mode

theorem KeepsIf.refl {p : Prop} (s : State) : KeepsIf p s s := ⟨id, .refl s, .refl s, id, rfl⟩

theorem KeepsIf.trans {p : Prop} {s t u : State} (h : KeepsIf p s t) (k : KeepsIf p t u) : KeepsIf p s u :=
  ⟨k.polls ∘ h.polls, h.table.trans k.table, h.rest.trans k.rest, k.boards ∘ h.boards, k.mode.trans h.mode⟩

theorem KeepsIf.ite {p : Prop} {s t u : State} {c : Prop} [Decidable c] (h : KeepsIf p s t) (k : KeepsIf p s u) :
    KeepsIf p s (if c then t else u) := by
  split
  · exact h
  · exact k

theorem KeepsIf.of_ops {p : Prop} {s t : State} (h : ByOps s t) (k : KeepsTable p s t) : KeepsIf p s t :=
  ⟨pollsIdle_congr h.polls, k, h.keepsRest, (h.keeps (p := True)).boards trivial, h.mode⟩

/-- A change that leaves the call table and stop logic. -/
theorem KeepsIf.of_keeps {p : Prop} {s t : State} (h : Keeps s t) (k : t.tableView = s.tableView) : KeepsIf p s t :=
  ⟨h.polls, .of_view k, h.rest, h.boards, (congrArg State.mode k :)⟩

theorem KeepsIf.keeps {p : Prop} {s t : State} (h : KeepsIf p s t) (hp : pollsIdle s → p) : Keeps s t :=
  ⟨h.polls, h.table.weaken hp, h.rest, h.boards⟩

section InRun

variable {p : Prop} {s : State}

theorem modStation_keepsIf (s : State) (n : Nat) (f : Station → Station) : KeepsIf p s (s.modStation n f) :=
  .of_keeps (modStation_keeps s n f) rfl

theorem modLoop_tableView (s : State) (l : LoopId) (f : LoopState → LoopState) :
    (s.modLoop l f).tableView = s.tableView := by cases l <;> rfl

theorem stationNotice_keepsIf (s : State) (n : Nat) (x : StationState) : KeepsIf p s (s.stationNotice n x) :=
  .of_ops (.notify ..) (.of_view (congrArg State.tableView (notify_butHost ..) :))

theorem handOn_keepsIf (s : State) (cs : List Change) : KeepsIf p s (s.handOn cs) :=
  .of_keeps (handOn_keeps s cs) (congrArg State.tableView (handOn_butEquations s cs) :)

theorem stationsOwed_keepsIf (s : State) (l : LoopId) (f : LoopState → LoopState)
    (hf : ∀ x : LoopState, (f x).polled = x.polled) : KeepsIf p s (s.modLoop l f) :=
  .of_keeps (modLoop_same_keeps hf) (modLoop_tableView s l f)

theorem clearWaiting_keepsIf (s : State) (n : Nat) : KeepsIf p s (s.clearWaiting n) :=
  .of_ops (.clearWaiting s n) (clearWaiting_keepsTable s n)

theorem becomeOnline_keepsIf (s : State) (n : Nat) : KeepsIf p s (s.becomeOnline n) := by
  unfold State.becomeOnline
  dsimp only
  refine .trans (.trans ?_ (stationsOwed_keepsIf _ (loopOf n) _ (by intro _; rfl))) (stationNotice_keepsIf ..)
  exact .ite ((modStation_keepsIf ..).trans (handOn_keepsIf ..)) (modStation_keepsIf ..)

theorem heardFrom_keepsIf (s : State) (n : Nat) : KeepsIf p s (s.heardFrom n) :=
  .ite (.refl s) (becomeOnline_keepsIf s n)

theorem goOffline_keepsIf (s : State) (n : Nat) : KeepsIf p s (s.goOffline n) := by
  unfold State.goOffline
  dsimp only
  refine .trans (.trans ?_ (clearWaiting_keepsIf ..)) (stationNotice_keepsIf ..)
  refine .trans ?_ (.of_ops (.dropOrphans _ n) (dropOrphans_keepsTable _ n))
  refine .trans (.trans ?_ (stationsOwed_keepsIf _ (loopOf n) _ (by intro _; rfl))) (handOn_keepsIf ..)
  exact modStation_keepsIf ..

theorem miss_keepsIf (s : State) (n : Nat) : KeepsIf p s (s.miss n) := by
  unfold State.miss
  dsimp only
  exact .ite (modStation_keepsIf ..) (.ite ((modStation_keepsIf ..).trans (modStation_keepsIf ..))
    ((modStation_keepsIf ..).trans (goOffline_keepsIf ..)))

theorem takeHold_keepsIf (s : State) (n : Nat) : KeepsIf p s (s.takeHold n) := by
  unfold State.takeHold
  exact .ite ((modStation_keepsIf s n _).trans (heardFrom_keepsIf ..)) ((modStation_keepsIf s n _).trans (miss_keepsIf ..))

theorem callFrom_mem {o : Origin} {cls : Nat} {c : Call} (h : callFrom s o cls = some c) : c ∈ s.calls :=
  List.mem_of_find?_eq_some h

theorem mem_callsOfStation {n : Nat} {c : Call} (h : c ∈ callsOfStation s n) : c ∈ s.calls :=
  mem_displayOrder.mp (List.mem_of_mem_filter h)

theorem selected_mem {n selector : Nat} {c : Call} (h : selected s n selector = some c) : c ∈ s.calls := by
  unfold selected at h
  split at h
  · exact mem_callsOfStation (List.mem_of_head? h)
  · split at h
    · exact callFrom_mem h
    · cases h

theorem createCall_keepsIf {o : Origin} {cls zone : Nat} (w : Option Nat) (hm : p → s.mode = .run)
    (hroom : hasRoom s cls = true) (hnew : callFrom s o cls = none) : KeepsIf p s (s.createCall o cls zone w) :=
  .of_ops (.createCall ..) (createCall_keepsTable w hm hroom hnew)

theorem repeatCall_keepsIf {c : Call} (hc : c ∈ s.calls) : KeepsIf p s (s.repeatCall c) :=
  .of_ops (.repeatCall ..) (repeatCall_keepsTable hc)

theorem takeCall_keepsIf (hm : p → s.mode = .run) (n cls : Nat) : KeepsIf p s (s.takeCall n cls).1 := by
  unfold State.takeCall
  split
  · next c hc => exact (repeatCall_keepsIf (callFrom_mem hc)).trans (clearWaiting_keepsIf ..)
  · next hnew =>
    split
    · next hroom => exact (createCall_keepsIf _ hm hroom hnew).trans (clearWaiting_keepsIf ..)
    · exact KeepsIf.ite (.of_ops (.markWaiting s n) (markWaiting_keepsTable s n)) (.refl s)

theorem takeSelected_keepsIf {n selector : Nat} {act : State → Call → State}
    (h : ∀ c, c ∈ s.calls → KeepsIf p s (act s c)) : KeepsIf p s (s.takeSelected n selector act).1 := by
  unfold State.takeSelected
  split
  · next c hc => exact h c (selected_mem hc)
  · exact .refl s

theorem answerCall_keepsIf {c : Call} (hc : c ∈ s.calls) : KeepsIf p s (s.answerCall c) :=
  .of_ops (.answerCall ..) (answerCall_keepsTable hc)

theorem carryCall_keepsIf {c : Call} (hc : c ∈ s.calls) : KeepsIf p s (s.carryCall c) :=
  .of_ops (.carryCall ..) (carryCall_keepsTable hc)

theorem closeCall_keepsIf {c : Call} (o : Closing) (hc : c ∈ s.calls) : KeepsIf p s (s.closeCall o true c) :=
  .of_ops (.closeCall ..) (closeCall_keepsTable o hc)

theorem giveRestart_keepsIf (s : State) (n : Nat) : KeepsIf p s (s.giveRestart n) :=
  .of_ops (.giveRestart s n) (giveRestart_keepsTable s n)

/-- R65: the station of a leader. -/
def leads (s : State) (n : Nat) : Bool := match s.stationDef n with
  | some d => d.leader
  | none => false

theorem takeRestart_eq (s : State) (n : Nat) : s.takeRestart n =
    if leads s n && !heldOtherwise s (sectionOfStation s n) && (pick s.stops (sectionOfStation s n)).pending then
      (s.giveRestart (sectionOfStation s n), .accepted)
    else (s, .rejected) := rfl

theorem takeRestart_keepsIf (s : State) (n : Nat) : KeepsIf p s (s.takeRestart n).1 := by
  rw [takeRestart_eq]
  split
  · exact giveRestart_keepsIf ..
  · exact .refl s

theorem takeEvent_keepsIf (hm : p → s.mode = .run) (n : Nat) (e : Event) : KeepsIf p s (s.takeEvent n e).1 := by
  unfold State.takeEvent
  split
  · split
    · exact takeCall_keepsIf hm ..
    · exact clearWaiting_keepsIf ..
  · exact takeSelected_keepsIf fun c hc => answerCall_keepsIf hc
  · exact takeSelected_keepsIf fun c hc => .ite (carryCall_keepsIf hc) (.refl s)
  · exact takeSelected_keepsIf fun c hc => closeCall_keepsIf _ hc
  · exact takeRestart_keepsIf ..

theorem walkEvents_keepsIf (n : Nat) (all : Bool) (es : List Event) (running : Option Nat) (rejected : Bool) (s : State)
    (hm : p → s.mode = .run) : KeepsIf p s (walkEvents n all es running rejected s).1 := by
  induction es generalizing running rejected s with
  | nil => exact .refl s
  | cons e rest ih =>
    unfold walkEvents
    split
    · have taken := takeEvent_keepsIf hm n e
      have hm' : p → (s.takeEvent n e).1.mode = .run := fun h => taken.mode.trans (hm h)
      split
      · next t heq => rw [heq] at taken hm'; exact taken.trans (ih _ _ t hm')
      · next t heq =>
        rw [heq] at taken hm'
        exact (taken.trans (modStation_keepsIf ..)).trans (ih _ _ (t.countRejected n) hm')
      · next t heq => rw [heq] at taken; exact taken
    · exact ih _ _ s hm

theorem takeStatus_keepsIf (hm : p → s.mode = .run) (n : Nat) (events : List Event) : KeepsIf p s (s.takeStatus n events) := by
  unfold State.takeStatus
  have heard := (modStation_keepsIf (p := p) s n fun x =>
    { x with goodReplies := saturate 65535 1 x.goodReplies, missRun := 0, holdRun := 0 }).trans (heardFrom_keepsIf _ n)
  exact heard.trans ((walkEvents_keepsIf n _ events _ false _ fun h => heard.mode.trans (hm h)).trans
    (modStation_keepsIf ..))

theorem endPoll_keepsIf (s : State) (l : LoopId) : KeepsIf p s (s.endPoll l) :=
  .of_keeps (modLoop_keeps fun _ _ _ => rfl) (modLoop_tableView ..)

theorem judgeReply_keepsIf (hm : p → s.mode = .run) (l : LoopId) (n : Nat) (content : List Byte) (bad : Bool) :
    KeepsIf p s (s.judgeReply l n content bad) := by
  unfold State.judgeReply
  have ended : KeepsIf p s (s.endPoll l) := endPoll_keepsIf s l
  refine ended.trans ?_
  dsimp only
  split
  · exact .ite (takeStatus_keepsIf (fun h => ended.mode.trans (hm h)) ..) (miss_keepsIf ..)
  · exact .ite (takeHold_keepsIf ..) (miss_keepsIf ..)
  · exact miss_keepsIf ..

end InRun

/-- R92: where a poll is outstanding, CONFIG is not idle. -/
theorem mode_of_polled {s : State} {l : LoopId} {n : Nat} (h : (s.loop l).polled = some n) (hp : pollsIdle s) :
    s.mode = .run := by
  cases hm : s.mode with
  | run => rfl
  | config =>
    obtain ⟨ha, hb⟩ := hp hm
    cases l with
    | a => rw [show (s.loop .a).polled = none from ha] at h; cases h
    | b => rw [show (s.loop .b).polled = none from hb] at h; cases h

theorem loopByte_keeps (l : LoopId) (s : State) (b : Byte) : Keeps s (State.loopByte l s b) := by
  unfold State.loopByte
  split
  · exact .refl s
  · next n hn =>
    dsimp only
    split
    · exact (judgeReply_keepsIf (p := s.mode = .run) id l n _ _).keeps (mode_of_polled hn)
    · exact modLoop_same_keeps fun _ => rfl
    · exact modLoop_same_keeps fun _ => rfl

theorem loopLine_keeps (s : State) (l : LoopId) (line : List Byte) : Keeps s (s.loopLine l line) :=
  foldl_keepsAll (loopByte_keeps l) line s

theorem endPollMiss_keeps {s : State} {l : LoopId} {n : Nat} : Keeps s ((s.endPoll l).miss n) :=
  ((endPoll_keepsIf (p := True) s l).trans (miss_keepsIf ..)).keeps fun _ => trivial

end Sys2Proof.Machine
end

section
/-! PROOFS. RequestsKept: what each request of the host link does to the state keeps the invariants. -/

namespace Sys2Proof.Machine

theorem done_keeps {s t : State} {r : ReplyBody} (h : Keeps s t) : Keeps s (done t r).state := h

theorem doneOr_keeps {s t : State} {a : Bool} {r : ReplyBody} (h : Keeps s t) : Keeps s (doneOr a t r).state := h

/-! ## The system requests -/

theorem clearCounters_keeps (s : State) : Keeps s s.clearCounters :=
  .trans (t := { s with overflowCount := 0 }) (.of_unread rfl) (.of_butHost rfl id id)

theorem readStatusNow_keeps (body : List Byte) (s : State) : Keeps s (readStatusNow body s).state := by
  refine ofLength_keeps (fun s => ?_) s
  split
  · exact .ite (clearCounters_keeps s) (.refl s)
  · exact .refl s

theorem enterConfigNow_keeps (body : List Byte) (s : State) : Keeps s (enterConfigNow body s).state := by
  refine ofLength_keeps (inMode_keeps fun s _ => ?_) s
  split
  · next h => exact done_keeps (leaveRun_keeps h)
  · exact .refl s

theorem enterRunNow_keeps (body : List Byte) (s : State) : Keeps s (enterRunNow body s).state := by
  refine ofLength_keeps (inMode_keeps fun s hm => ?_) s
  split
  · next h => exact done_keeps (startRun_keeps hm h)
  · exact .refl s

/-- The settings store written, or left INVALID. -/
theorem setStore_keeps {s : State} {x : Option Definitions} (h : x = none ∨ x = some s.defs) :
    Keeps s { s with store := x } := by
  have stored : ∀ {p : Definitions → Prop}, p s.defs → ∀ d, x = some d → p d := by
    intro p hp d hd
    rcases h with rfl | rfl
    · cases hd
    · cases hd; exact hp
  refine ⟨id, .of_view rfl, ⟨id, id, id, id, fun ht => ⟨ht.1, stored ht.1, ht.2.2⟩, fun hi hp => ⟨hi, hp⟩, id,
    fun _ _ _ => id⟩, fun hs => ?_⟩
  obtain ⟨⟨h1, -, h3, h4, h5⟩, hall⟩ := boardQueuesFit_iff.mp hs
  exact boardQueuesFit_iff.mpr ⟨⟨h1, stored h1, h3, h4, h5⟩, hall⟩

theorem storeSettingsNow_keeps (body : List Byte) (s : State) : Keeps s (storeSettingsNow body s).state := by
  refine ofLength_keeps (inMode_keeps fun s _ => ?_) s
  exact .trans (t := { s with store := none }) (setStore_keeps (.inl rfl)) (.of_butHost rfl id id)

theorem recallSettingsNow_keeps (body : List Byte) (s : State) : Keeps s (recallSettingsNow body s).state := by
  refine ofLength_keeps (inMode_keeps fun s hm => ?_) s
  split
  · next d hd => exact recall_keeps hm hd
  · exact .refl s

theorem restartNow_keeps (body : List Byte) (s : State) : Keeps s (restartNow body s).state := by
  refine ofLength_keeps (fun s => ?_) s
  exact .trans (t := { s with freeCount := s.freeCount + 1 }) (.of_unread rfl) (resetNow_keeps _ _)

theorem setTime_keeps (s : State) (time : Nat) : Keeps s (s.setTime time) :=
  .trans (t := { s with timeOfDay := time, tenths := 0, clockSet := true }) (.of_unread rfl) (recompose_keepsAll ..)

theorem setClockNow_keeps (body : List Byte) (s : State) : Keeps s (setClockNow body s).state := by
  refine ofLength_keeps (fun s => ?_) s
  split
  · exact setTime_keeps ..
  · exact .refl s

theorem setReportsNow_keeps (body : List Byte) (s : State) : Keeps s (setReportsNow body s).state := by
  refine ofLength_keeps (fun s => ?_) s
  split
  · exact done_keeps (modHost_keeps ⟨id, id⟩)
  · exact .refl s

theorem readDefinitionNow_keeps (body : List Byte) (s : State) : Keeps s (readDefinitionNow body s).state := by
  refine ofLength_keeps (fun s => ?_) s
  dsimp only
  split <;> exact .refl s

/-! ## The definitions -/

theorem readSectionDef_defined {body : List Byte} {n : Nat} {d : Option SectionDef}
    (h : readSectionDef body = some (n, d)) : ∀ x, d = some x → sectionInRange x := by
  rintro x rfl; exact readSectionDef_inRange h

theorem defineSectionNow_keeps (body : List Byte) (s : State) : Keeps s (defineSectionNow body s).state := by
  refine ofLength_keeps (inMode_keeps fun s hm => ?_) s
  split
  · next h => exact defineSection_keeps hm (readSectionDef_defined h)
  · exact .refl s

theorem defineZoneNow_keeps (body : List Byte) (s : State) : Keeps s (defineZoneNow body s).state := by
  refine ofLength_keeps (inMode_keeps fun s hm => ?_) s
  split
  · exact done_keeps (modDefs_keeps hm rfl rfl)
  · exact .refl s

theorem defineStationNow_keeps (body : List Byte) (s : State) : Keeps s (defineStationNow body s).state := by
  refine ofLength_keeps (inMode_keeps fun s hm => ?_) s
  split
  · exact done_keeps (modDefs_keeps hm rfl rfl)
  · exact .refl s

theorem defineClassNow_keeps (body : List Byte) (s : State) : Keeps s (defineClassNow body s).state := by
  refine ofLength_keeps (inMode_keeps fun s hm => ?_) s
  split
  · exact done_keeps (modDefs_keeps hm rfl rfl)
  · exact .refl s

theorem defineCodeMapNow_keeps (body : List Byte) (s : State) : Keeps s (defineCodeMapNow body s).state := by
  refine ofLength_keeps (inMode_keeps fun s hm => ?_) s
  split
  · exact done_keeps (modDefs_keeps hm rfl rfl)
  · exact .refl s

theorem defineLadder_keeps {s : State} (hm : s.mode = .config) (n : Nat) (d : Option LadderDef) :
    Keeps s (s.defineLadder n d) := modDefs_keeps hm rfl rfl

theorem defineLadderNow_keeps (body : List Byte) (s : State) : Keeps s (defineLadderNow body s).state := by
  refine ofLength_keeps (inMode_keeps fun s hm => ?_) s
  split
  · exact defineLadder_keeps hm ..
  · exact defineLadder_keeps hm ..
  · exact .refl s

theorem defineEquation_keeps {s : State} (hm : s.mode = .config) (n : Nat) (d : Option EquationDef) :
    Keeps s (s.defineEquation n d) := modDefs_keeps hm rfl rfl

theorem defineEquationNow_keeps (body : List Byte) (s : State) : Keeps s (defineEquationNow body s).state := by
  unfold defineEquationNow
  split
  · refine inMode_keeps (fun s hm => ?_) s
    split
    · exact .refl s
    · exact .refl s
    · exact defineEquation_keeps hm ..
    · exact defineEquation_keeps hm ..
  · exact .refl s

theorem defineBoardNow_keeps (body : List Byte) (s : State) : Keeps s (defineBoardNow body s).state := by
  refine ofLength_keeps (inMode_keeps fun s hm => ?_) s
  dsimp only
  split
  · split
    · exact defineBoard_keeps hm (clamp_within _ (by decide))
    · exact undefineBoard_keeps hm
    · exact .refl s
  · exact .refl s

theorem defineField_keeps {s : State} (hm : s.mode = .config) (b f : Nat) (d : Option FieldDef) :
    Keeps s (s.defineField b f d) :=
  (modDefs_keeps (f := fun x => { x with fields := alter x.fields b fun row => alter row f fun _ => d }) hm rfl rfl).trans
    (.of_unread rfl)

theorem defineFieldNow_keeps (body : List Byte) (s : State) : Keeps s (defineFieldNow body s).state := by
  refine ofLength_keeps (inMode_keeps fun s hm => ?_) s
  dsimp only
  split
  · split
    · exact .refl s
    · split
      · split
        · exact defineField_keeps hm ..
        · exact .refl s
      · exact defineField_keeps hm ..
  · exact .refl s

theorem defineLinksNow_keeps (body : List Byte) (s : State) : Keeps s (defineLinksNow body s).state := by
  refine ofLength_keeps (inMode_keeps fun s hm => ?_) s
  split
  · exact doneOr_keeps (replaceLinks_keeps _ hm)
  · exact .refl s

theorem defineAccountNow_keeps (body : List Byte) (s : State) : Keeps s (defineAccountNow body s).state := by
  refine ofLength_keeps (inMode_keeps fun s hm => ?_) s
  split
  · exact done_keeps (modDefs_keeps hm rfl rfl)
  · exact .refl s

/-! ## Calls -/

theorem createCall_keeps {s : State} {o : Origin} {cls zone : Nat} (w : Option Nat) (hm : s.mode = .run)
    (hroom : hasRoom s cls = true) (hnew : callFrom s o cls = none) : Keeps s (s.createCall o cls zone w) :=
  .of_ops (.createCall ..) (createCall_keepsTable w (fun _ => hm) hroom hnew)

theorem raiseCallNow_keeps (body : List Byte) (s : State) : Keeps s (raiseCallNow body s).state := by
  refine ofLength_keeps (inMode_keeps fun s hm => ?_) s
  split
  · split
    · unfold raiseCall
      split
      · next c hc => exact .of_ops (.repeatCall ..) (repeatCall_keepsTable (callFrom_mem hc))
      · next hnew =>
        split
        · next hroom => exact createCall_keeps none hm hroom hnew
        · exact .refl s
    · exact .refl s
  · exact .refl s

theorem actOn_keeps {s : State} {c : Call} (hc : c ∈ s.calls) (a : CallAction) : Keeps s (actOn c a s).state := by
  cases a with
  | answer => exact .of_ops (.answerCall ..) (answerCall_keepsTable hc)
  | carry =>
    unfold actOn; dsimp only
    split
    · exact .of_ops (.carryCall ..) (carryCall_keepsTable hc)
    · exact .refl s
  | clear => exact .of_ops (.closeCall ..) (closeCall_keepsTable _ hc)
  | cancel => exact .of_ops (.closeCall ..) (closeCall_keepsTable _ hc)

theorem actOnCallNow_keeps (body : List Byte) (s : State) : Keeps s (actOnCallNow body s).state := by
  refine ofLength_keeps (inMode_keeps fun s _ => ?_) s
  split
  · split
    · next c hc => exact actOn_keeps (callOf_mem hc) _
    · exact .refl s
  · exact .refl s

theorem restartGiven_keeps (n : Nat) (s : State) : Keeps s (restartGiven n s).state := by
  unfold restartGiven
  split
  · exact .refl s
  · exact .ite (.of_ops (.giveRestart s n) (giveRestart_keepsTable s n)) (.refl s)

theorem restartSectionNow_keeps (body : List Byte) (s : State) : Keeps s (restartSectionNow body s).state := by
  refine ofLength_keeps (fun s => ?_) s
  split
  · split
    · exact inMode_keeps (fun s _ => restartGiven_keeps _ s) s
    · exact .refl s
  · exact .refl s

theorem readCallsNow_keeps (body : List Byte) (s : State) : Keeps s (readCallsNow body s).state := by
  refine ofLength_keeps (fun s => ?_) s
  dsimp only
  split <;> exact .refl s

theorem readSectionNow_keeps (body : List Byte) (s : State) : Keeps s (readSectionNow body s).state := by
  refine ofLength_keeps (fun s => ?_) s
  split
  · split <;> exact .refl s
  · exact .refl s

/-! ## Panels, the history queue and the equations -/

theorem equationDef_of_owned {s : State} {f : Nat} (h : flagOwned s f = false) {i : Nat} {e : EquationDef} (h1 : 1 ≤ i)
    (h2 : i ≤ 48) (he : s.equationDef i = some e) : e.target ≠ .flag f := by
  unfold flagOwned at h
  rw [List.any_eq_false] at h
  have := h i (mem_numbers.mpr ⟨h1, h2⟩)
  rw [he] at this
  simpa using this

/-- R114: a flag that no equation owns, set in RUN. -/
theorem ownlessFlag_keeps {s : State} {f : Nat} (value : Bool) (hm : s.mode = .run) (ho : flagOwned s f = false) :
    Keeps s { s with flags := alter s.flags f fun _ => value } := by
  refine ⟨id, .of_view rfl, .of_core rfl id id (fun e => absurd (hm.symm.trans e) (by decide)) fun _ _ h => ?_, id⟩
  obtain ⟨h1, h2, h3⟩ := h
  refine ⟨fun i e k i1 i2 he ht k1 k2 => ?_, h2, h3⟩
  show pick (alter s.flags f fun _ => value) k = _
  rw [pick_alter_within _ _ k1 k2, if_neg]
  · exact h1 i e k i1 i2 he ht k1 k2
  · rintro rfl; exact equationDef_of_owned ho i1 i2 he ht

theorem setFlag_keeps {s : State} {f : Nat} (value : Bool) (hm : s.mode = .run) (ho : flagOwned s f = false) :
    Keeps s (s.setFlag f value) := by
  unfold State.setFlag
  exact .ite (.refl s) ((ownlessFlag_keeps value hm ho).trans (handOn_keeps ..))

theorem setFlagNow_keeps (body : List Byte) (s : State) : Keeps s (setFlagNow body s).state := by
  refine ofLength_keeps (fun s => ?_) s
  split
  · refine inMode_keeps (fun s hm => ?_) s
    split
    · exact .refl s
    · next h => exact setFlag_keeps _ hm (by simpa using h)
  · exact .refl s

theorem setText_keeps {s : State} (hm : s.mode = .run) (b f : Nat) (t : Text) : Keeps s (s.setText b f t) := by
  refine .of_boards ((modField_keeps s b f _).trans (recomposeField_keeps ?_ b f))
    (butLink_of_boards (recomposeField_butBoards ..))
  exact fun _ => hm

theorem setTextNow_keeps (body : List Byte) (s : State) : Keeps s (setTextNow body s).state := by
  unfold setTextNow
  split
  · dsimp only
    split
    · refine inMode_keeps (fun s hm => ?_) s
      split
      · exact .refl s
      · split
        · exact doneOr_keeps (setText_keeps hm ..)
        · exact .refl s
    · exact .refl s
  · exact .refl s

theorem readStationsNow_keeps (body : List Byte) (s : State) : Keeps s (readStationsNow body s).state := by
  refine ofLength_keeps (fun s => ?_) s
  dsimp only
  split
  · exact .ite (foldl_keepsAll (fun s n => modStation_keeps s n _) _ s) (.refl s)
  · exact .refl s

theorem clearBoards_keeps (s : State) : Keeps s s.clearBoards := by
  refine .of_boards (.of_boards rfl fun _ _ hall b h1 h2 => ?_) rfl
  have hq : (pick s.clearBoards.boards b).queue = (pick s.boards b).queue := by
    unfold State.clearBoards; dsimp only; rw [pick_alterAll _ _ h1 h2]
  show (s.mode = .config → _ = []) ∧ queueFits ((s.boardDepth b).getD 0) _
  rw [hq]; exact hall b h1 h2

theorem readBoardsNow_keeps (body : List Byte) (s : State) : Keeps s (readBoardsNow body s).state := by
  refine ofLength_keeps (fun s => ?_) s
  split
  · exact .ite (clearBoards_keeps s) (.refl s)
  · exact .refl s

theorem flushBoard_keeps {s : State} {b : Nat} (hb : boardReady s b) : Keeps s (s.flushBoard b) := by
  refine .of_boards (.trans (t := s.refreshBoard b) ?_ (modBoard_keeps _ b fun _ => rfl)) ?_
  · exact refreshBoard_keeps fun _ => hb
  · exact (butLink_of_boards rfl).trans (refreshBoard_butLink s b)

theorem flushBoardNow_keeps (body : List Byte) (s : State) : Keeps s (flushBoardNow body s).state := by
  refine ofLength_keeps (fun s => ?_) s
  dsimp only
  split
  · refine inMode_keeps (fun s hm => ?_) s
    split
    · next hd => exact flushBoard_keeps ⟨hm, hd⟩
    · exact .refl s
  · exact .refl s

theorem fetchHistoryNow_keeps (body : List Byte) (s : State) : Keeps s (fetchHistoryNow body s).state := by
  refine ofLength_keeps (fun s => ?_) s
  split <;> exact .refl s

theorem releaseRecords_keeps (s : State) (k : Nat) : Keeps s (s.releaseRecords k) :=
  ⟨id, .of_view rfl, .of_history (h := s.history.drop k) (n := s.nextSeq) rfl ⟨rfl, rfl, rfl, rfl⟩ rfl
    (fun h => (List.length_drop ▸ Nat.sub_le _ _ : (s.history.drop k).length ≤ s.history.length).trans h)
    (sequencesRun_drop k), id⟩

theorem releaseHistoryNow_keeps (body : List Byte) (s : State) : Keeps s (releaseHistoryNow body s).state := by
  refine ofLength_keeps (inMode_keeps fun s _ => ?_) s
  split
  · exact releaseRecords_keeps ..
  · exact .refl s

/-! ## The shift -/

theorem withShift_keeps {handle : Shift → State → Handled}
    (h : ∀ sh s, s.shift = some sh → s.shiftState ≠ .none → Keeps s (handle sh s).state) (s : State) :
    Keeps s (withShift handle s).state := by
  refine inMode_keeps (fun s _ => ?_) s
  split
  · next sh hsh =>
    split
    · exact .refl s
    · next hst => exact h sh s hsh hst
  · exact .refl s

/-- A shift that runs, with other figures. -/
theorem shiftFigures_keeps {s : State} {sh : Shift} (x : Shift) (h : s.shift = some sh) (hst : s.shiftState ≠ .none) :
    Keeps s { s with shift := some x } :=
  setShift_keeps (s := s) (st := s.shiftState) (by rw [h]; nofun) hst

theorem replaceShift_keeps {s : State} {sh : Shift} (x : Shift) (h : s.shift = some sh) (hst : s.shiftState ≠ .none) :
    Keeps s (s.replaceShift x) :=
  (shiftFigures_keeps x h hst).trans ((handBehind_keeps ..).trans (recompose_keepsAll ..))

theorem setTaktNow_keeps (body : List Byte) (s : State) : Keeps s (setTaktNow body s).state := by
  refine ofLength_keeps (withShift_keeps fun sh s h hst => ?_) s
  exact (shiftFigures_keeps _ h hst).trans (recompose_keepsAll ..)

theorem setVolumeNow_keeps (body : List Byte) (s : State) : Keeps s (setVolumeNow body s).state :=
  ofLength_keeps (withShift_keeps fun _ _ h hst => replaceShift_keeps _ h hst) s

theorem correctActualNow_keeps (body : List Byte) (s : State) : Keeps s (correctActualNow body s).state :=
  ofLength_keeps (withShift_keeps fun _ _ h hst => replaceShift_keeps _ h hst) s

theorem readAccountNow_keeps (body : List Byte) (s : State) : Keeps s (readAccountNow body s).state :=
  ofLength_keeps (fun s => .refl s) s

/-- R123: no shift runs any more. -/
theorem endShift_keeps (s : State) : Keeps s { s with shiftState := .none, shift := none } :=
  ⟨id, .of_view rfl, ⟨id, id, id, id, id, fun hi _ => ⟨fun e => ⟨rfl, (hi e).2⟩, ⟨fun _ => rfl, fun _ => rfl⟩⟩, id,
    fun _ _ _ => id⟩, id⟩

theorem appendRecord_keeps (s : State) (e : HistoryEntry) : Keeps s (s.appendRecord e) :=
  .of_ops_view (.appendRecord s e) (congrArg State.tableView (appendRecord_butHistory s e) :)

theorem finishShift_keeps (s : State) (sh : Shift) : Keeps s (s.finishShift sh) := by
  unfold State.finishShift
  have frozen : Keeps s { s with previous := some (freeze s.shiftState sh s.timeOfDay) } := .of_unread rfl
  exact ((frozen.trans (appendRecord_keeps ..)).trans (endShift_keeps _)).trans
    ((shiftChanged_keeps _).trans (notify_keeps ..))

theorem endShiftNow_keeps (body : List Byte) (s : State) : Keeps s (endShiftNow body s).state :=
  ofLength_keeps (withShift_keeps fun sh s _ _ => finishShift_keeps s sh) s

theorem readPeriods_length {n : Nat} {b : List Byte} {plan : List Period} (h : readPeriods n b = some plan) :
    plan.length = n := by
  induction n generalizing b plan with
  | zero => cases h; rfl
  | succ n ih =>
    unfold readPeriods at h
    split at h
    · next hr => cases h; rw [List.length_cons, ih hr]
    · cases h

theorem readPlan_ne_nil {b : List Byte} {plan : List Period} (h : readPlan b = some plan) : plan ≠ [] := by
  unfold readPlan at h
  dsimp only at h
  split at h
  · next hn =>
    split at h
    · next hp =>
      split at h
      · cases h
        rintro rfl
        have := readPeriods_length hp
        rw [within_iff] at hn
        rw [List.length_nil] at this; omega
      · cases h
    · cases h
  · cases h

theorem firstState_ne_none {plan : List Period} (h : plan ≠ []) : firstState plan ≠ .none := by
  obtain ⟨p, rest, rfl⟩ := List.exists_cons_of_ne_nil h
  unfold firstState
  rw [List.head?_cons]
  cases hk : p.kind <;> simp [hk, PeriodKind.toShift]

theorem beginShift_keeps {s : State} {plan : List Period} (takt volume : Nat) (hm : s.mode = .run) (hp : plan ≠ []) :
    Keeps s (s.beginShift plan takt volume) := by
  unfold State.beginShift
  have begun : Keeps s { s with
      shift := some (newShift plan takt volume s.timeOfDay), shiftState := firstState plan
      stops := alterAll s.stops fun _ x => { x with unattributed := 0 } } := by
    refine ⟨id, ?_, ⟨id, id, id, id, id, fun _ _ => ⟨fun e => absurd (hm.symm.trans e) (by decide), ?_⟩, id,
      fun _ _ _ => id⟩, id⟩
    · refine .trans (t := { s with stops := alterAll s.stops fun _ x => { x with unattributed := 0 } })
        (.of_stops rfl rfl rfl rfl (fun h n h1 h2 => ?_) fun n => ?_) (.of_view rfl)
      · show (pick (alterAll s.stops _) n).inLine
        rw [pick_alterAll _ _ h1 h2]; exact h n h1 h2
      · show (pick (alterAll s.stops _) n).holdOrder = _
        by_cases hn : 1 ≤ n ∧ n ≤ 4
        · rw [pick_alterAll _ _ hn.1 hn.2]
        · rw [pick_outside _ (by omega), pick_outside _ (by omega)]
    · exact ⟨fun e => absurd e (firstState_ne_none hp), nofun⟩
  exact begun.trans ((shiftChanged_keeps _).trans (shiftNotice_keeps ..))

theorem startShiftNow_keeps (body : List Byte) (s : State) : Keeps s (startShiftNow body s).state := by
  unfold startShiftNow
  split
  · split
    · exact .refl s
    · next plan hplan =>
      refine inMode_keeps (fun s hm => ?_) s
      dsimp only
      split
      · exact beginShift_keeps _ _ hm (by simpa using readPlan_ne_nil hplan)
      · exact .refl s
  · exact .refl s

end Sys2Proof.Machine
end

section
/-! PROOFS. StepKept: what a tick, a blink turn and every other command does keeps the invariants; the theorems on every step. -/

namespace Sys2Proof.Machine

/-! ## A tick (R54, R98, R112, R148, R168, R179, R194) -/

theorem bookStop_keeps (s : State) (n : Nat) : Keeps s (s.bookStop n) := by
  refine .of_ops ?_ (bookStop_keepsTable s n)
  unfold State.bookStop
  dsimp only
  split
  · split
    · exact .modCall ..
    · exact .modStop ..
  · exact .refl s

theorem lowerEscalation_keeps (s : State) : Keeps s s.lowerEscalation := by
  refine .of_ops ?_ (lowerEscalation_keepsTable s)
  unfold State.lowerEscalation
  split
  · exact .refl s
  · exact .table rfl

theorem accrue_keeps (s : State) : Keeps s s.accrue := by
  unfold State.accrue
  split
  · exact .refl s
  · exact modShift_keeps ..
  · exact modShift_keeps ..
  · exact modShift_keeps ..

/-- The outputs follow where the equations' outputs are as they were. -/
theorem outputsFollow_of_outputs {s : State} {f : EquationState → EquationState} (hf : ∀ e, (f e).output = e.output)
    (h : outputsFollow s) : outputsFollow { s with equations := alterAll s.equations fun _ e => f e } := by
  have same : ∀ i, (pick (alterAll s.equations fun _ e => f e) i).output = (pick s.equations i).output := by
    intro i
    by_cases hi : 1 ≤ i ∧ i ≤ 48
    · rw [pick_alterAll _ _ hi.1 hi.2]; exact hf _
    · rw [pick_outside _ (by omega), pick_outside _ (by omega)]
  unfold outputsFollow State.equationDef at *
  dsimp only
  simp only [same]
  exact h

/-- Equation states whose outputs are as they were, in RUN. -/
theorem setEquations_keeps {s : State} (hm : s.mode = .run) {v : Vector EquationState 48}
    (h : outputsFollow s → outputsFollow { s with equations := v }) : Keeps s { s with equations := v } :=
  ⟨id, .of_view rfl, .of_core rfl id id (fun e => absurd (hm.symm.trans e) (by decide)) fun _ _ => h,
    boardQueuesFit_of_view rfl⟩

/-- Boards whose queues are as they were. -/
theorem setBoards_keeps (s : State) {v : Vector Board 8}
    (h : ∀ b, 1 ≤ b → b ≤ 8 → (pick v b).queue = (pick s.boards b).queue) : Keeps s { s with boards := v } := by
  refine .of_boards (.of_boards rfl fun _ _ hall b h1 h2 => ?_) rfl
  show (s.mode = .config → _ = []) ∧ queueFits ((s.boardDepth b).getD 0) _
  rw [h b h1 h2]
  exact hall b h1 h2

theorem lowerRunTimers_keeps (s : State) : Keeps s s.lowerRunTimers := by
  unfold State.lowerRunTimers
  split
  · next hm =>
    have delays := setEquations_keeps hm
      (outputsFollow_of_outputs (f := fun e => { e with timer := lower e.timer }) fun _ => rfl)
    have refresh : ∀ u : State, u.mode = .run → Keeps u { u with refreshTimer := lower u.refreshTimer } :=
      fun _ hu => setRefresh_keeps fun _ => hu
    have probes : ∀ u : State,
        Keeps u { u with boards := alterAll u.boards fun _ b => { b with probeTimer := lower b.probeTimer } } :=
      fun u => setBoards_keeps u fun b h1 h2 => by rw [pick_alterAll _ _ h1 h2]
    exact (delays.trans (refresh _ hm)).trans (probes _)
  · exact .refl s

theorem composeTick_keeps (s : State) : Keeps s s.composeTick := by
  unfold State.composeTick
  split
  · exact .refl s
  · exact .ite (.refl s) (recompose_keepsAll ..)
  · exact composeAccount_keeps s

/-- The state after the four bookings of a tick. -/
def State.booked (s : State) : State := (numbers 4).foldl State.bookStop s

/-- The timers that a tick lowers, and the tick counted. -/
def State.ticked (s : State) : State := { s with staleTimer := lower s.staleTimer, tenths := s.tenths + 1 }

/-- R67, R98, R112, R130, R148, R194: a tick books the stop time, lowers the timers, and composes what the boards show. -/
theorem tick_eq (s : State) : s.tick = s.booked.lowerEscalation.accrue.lowerRunTimers.ticked.composeTick := rfl

theorem tick_keeps (s : State) : Keeps s s.tick := by
  have lowered : ∀ u : State, Keeps u u.ticked := fun _ => .of_unread rfl
  have booked : Keeps s s.booked := foldl_keepsAll bookStop_keeps _ s
  rw [tick_eq]
  exact booked.trans ((lowerEscalation_keeps _).trans ((accrue_keeps _).trans
    ((lowerRunTimers_keeps _).trans ((lowered _).trans (composeTick_keeps _)))))

theorem blinkTurn_keeps (s : State) : Keeps s s.blinkTurn := by
  have turned : ∀ fast slow phase, Keeps s { s with blinkFast := fast, blinkSlow := slow, blinkPhase := phase } :=
    fun _ _ _ => .of_unread rfl
  exact (turned ..).trans (handOn_keeps ..)

/-! ## The commands that are no requests -/

theorem pause_keeps (h : HostLink) : h.Keeps h.pause := ⟨id, id⟩

theorem resume_keeps (h : HostLink) : h.Keeps h.resume := ⟨id, id⟩

/-- R192: the end of a write, the store left INVALID or with the working definitions. -/
theorem storeEnds_keeps (s : State) (agrees : Bool) (f : HostFrame) :
    Keeps s ({ s with store := if agrees then some s.defs else none }.modHost fun h => h.answer f) := by
  refine .trans (t := { s with store := if agrees then some s.defs else none }) (setStore_keeps ?_)
    (modHost_keeps (answer_keeps ..))
  cases agrees
  · exact .inl rfl
  · exact .inr rfl

/-- The outcome of a command, given as it stands. -/
theorem next_keeps {s t u : State} (h : Host.Outcome.next (φ := Fault) (ρ := Refusal) u = .next t) (hu : Keeps s u) :
    Keeps s t := by
  cases h; exact hu

theorem execStoreComplete_keeps {b : Bool} {s t : State} (h : execStoreComplete b s = .next t) : Keeps s t := by
  unfold execStoreComplete at h
  dsimp only at h
  refine (takeDue_keeps s).trans ?_
  generalize s.takeDue = u at h ⊢
  split at h
  · exact next_keeps h (storeEnds_keeps ..)
  · exact next_keeps h (.refl _)

theorem execUnknownKind_keeps {tag kind : Byte} {body : List Byte} {s t : State}
    (h : execUnknownKind tag kind body s = .next t) : Keeps s t := by
  unfold execUnknownKind at h
  split at h
  · cases h
  · exact serve_keepsAll (fun s => .refl s) h

theorem execProbeTimerExpiry_keeps {b : Nat} {s t : State} (h : execProbeTimerExpiry b s = .next t) : Keeps s t := by
  unfold execProbeTimerExpiry at h
  split at h
  · exact next_keeps h (takeProbe_keeps ..)
  · cases h

theorem liveSection_run {s : State} {n : Nat} {d : SectionDef} (h : liveSection s n = some d) :
    s.mode = .run ∧ s.sectionDef n = some d := by
  unfold liveSection at h
  split at h
  · next hm => exact ⟨hm, h⟩
  · cases h

theorem execEncoderForwardPulse_keeps {n : Nat} {s t : State} (h : execEncoderForwardPulse n s = .next t) :
    Keeps s t := by
  unfold execEncoderForwardPulse at h
  dsimp only at h
  split at h
  · refine (takeDue_keeps s).trans ?_
    split at h
    · next hd => exact next_keeps h (forwardPulse_keeps (liveSection_run hd).2)
    · exact next_keeps h (.refl _)
  · cases h

theorem execEncoderReversePulse_keeps {n : Nat} {s t : State} (h : execEncoderReversePulse n s = .next t) :
    Keeps s t := by
  unfold execEncoderReversePulse at h
  dsimp only at h
  split at h
  · refine (takeDue_keeps s).trans ?_
    split at h
    · next hd => exact next_keeps h (reversePulse_keeps (liveSection_run hd).2)
    · exact next_keeps h (.refl _)
  · cases h

theorem execStopDistanceExpiry_keeps {n : Nat} {s t : State} (h : execStopDistanceExpiry n s = .next t) :
    Keeps s t := by
  unfold execStopDistanceExpiry at h
  split at h
  · exact next_keeps h (takeStopExpiry_keeps ..)
  · cases h

theorem execRawInputChange_keeps {k : Nat} {level : Bool} {s t : State} (h : execRawInputChange k level s = .next t) :
    Keeps s t := by
  unfold execRawInputChange at h
  split at h
  · exact next_keeps h ((takeDue_keeps s).trans (rawChange_keeps ..))
  · cases h

theorem execInputDebounceExpiry_keeps {k : Nat} {s t : State} (h : execInputDebounceExpiry k s = .next t) :
    Keeps s t := by
  unfold execInputDebounceExpiry at h
  split at h
  · exact next_keeps h ((takeDue_keeps s).trans (.ite (takeInput_keeps ..) (.refl _)))
  · cases h

theorem pollSent_keeps (l : LoopId) (s : State) :
    Keeps s (if s.mode = .run ∧ (s.loop l).polled = none then s.pollStep l else s) := by
  split
  · next h => exact pollStep_keeps h.1 l
  · exact .refl s

theorem execPollSent_keeps {l : LoopId} {s t : State} (h : execPollSent l s = .next t) : Keeps s t := by
  unfold execPollSent at h
  exact next_keeps h ((takeDue_keeps s).trans (pollSent_keeps l _))

theorem execIdleCycleEnd_keeps {l : LoopId} {s t : State} (h : execIdleCycleEnd l s = .next t) : Keeps s t := by
  unfold execIdleCycleEnd at h
  exact next_keeps h ((takeDue_keeps s).trans (.ite (endIdleCycle_keeps _ l) (.refl _)))

theorem execLoopLineBreak_keeps {l : LoopId} {line : List Byte} {s t : State}
    (h : execLoopLineBreak l line s = .next t) : Keeps s t := by
  unfold execLoopLineBreak at h
  exact next_keeps h ((takeDue_keeps s).trans ((loopLine_keeps ..).trans (modLoop_keeps fun _ _ hx => hx)))

theorem execPollResponseTimeout_keeps {l : LoopId} {s t : State} (h : execPollResponseTimeout l s = .next t) :
    Keeps s t := by
  unfold execPollResponseTimeout at h
  dsimp only at h
  refine (takeDue_keeps s).trans ?_
  generalize s.takeDue = u at h ⊢
  split at h
  · exact next_keeps h (endPollMiss_keeps)
  · exact next_keeps h (.refl _)

theorem execLoopReplyFrameTimeout_keeps {l : LoopId} {s t : State} (h : execLoopReplyFrameTimeout l s = .next t) :
    Keeps s t := by
  unfold execLoopReplyFrameTimeout at h
  dsimp only at h
  refine (takeDue_keeps s).trans ?_
  generalize s.takeDue = u at h ⊢
  split at h
  · exact next_keeps h (endPollMiss_keeps)
  · exact next_keeps h (.refl _)

theorem boardLine_keepsAll (s : State) (line : List Byte) : Keeps s (s.boardLine line) :=
  .of_boards (boardLine_keeps s line) (boardLine_butLink s line)

theorem execBoardFrameSent_keeps {s t : State} (h : execBoardFrameSent s = .next t) : Keeps s t := by
  unfold execBoardFrameSent at h
  dsimp only at h
  refine (takeDue_keeps s).trans ?_
  generalize s.takeDue = u at h ⊢
  split at h
  · next hm =>
    split at h
    · next hb => exact next_keeps h (.of_boards (sendTo_keeps hm.1 hb) (sendTo_butLink ..))
    · exact next_keeps h (.refl _)
  · exact next_keeps h (.refl _)

theorem execBoardLineBreak_keeps {line : List Byte} {s t : State} (h : execBoardLineBreak line s = .next t) :
    Keeps s t := by
  unfold execBoardLineBreak at h
  cases h
  have outside : ∀ u : State, Keeps u (u.modLink fun l => { l with receiver := .outside }) :=
    fun _ => .of_boards (modLink_keeps fun _ => rfl) rfl
  exact (takeDue_keeps s).trans ((boardLine_keepsAll ..).trans (outside _))

theorem execBoardResponseTimeout_keeps {s t : State} (h : execBoardResponseTimeout s = .next t) : Keeps s t := by
  unfold execBoardResponseTimeout at h
  dsimp only at h
  refine (takeDue_keeps s).trans ?_
  generalize s.takeDue = u at h ⊢
  split at h
  · next hf _ => exact next_keeps h (.of_boards (failFlight_taken hf) (failFlight_butLink ..))
  · exact next_keeps h (.refl _)

theorem execBoardReplyFrameTimeout_keeps {s t : State} (h : execBoardReplyFrameTimeout s = .next t) : Keeps s t := by
  unfold execBoardReplyFrameTimeout at h
  dsimp only at h
  refine (takeDue_keeps s).trans ?_
  generalize s.takeDue = u at h ⊢
  split at h
  · next hf _ => exact next_keeps h (.of_boards (failFlight_taken hf) (failFlight_butLink ..))
  · exact next_keeps h (.refl _)

/-! ## Every command -/

/-- Each command of the queue keeps the invariants. -/
theorem exec_keeps {i : Instr} {s t : State} (h : exec i s = .next t) : Keeps s t := by
  cases i with
  | reset strap1 strap2 => exact next_keeps h (resetNow_keeps ..)
  | readStatus tag body => exact serve_keepsAll (readStatusNow_keeps body) h
  | enterConfig tag body => exact serve_keepsAll (enterConfigNow_keeps body) h
  | enterRun tag body => exact serve_keepsAll (enterRunNow_keeps body) h
  | storeSettings tag body => exact serve_keepsAll (storeSettingsNow_keeps body) h
  | storeComplete agrees => exact execStoreComplete_keeps (show execStoreComplete agrees s = .next t from h)
  | recallSettings tag body => exact serve_keepsAll (recallSettingsNow_keeps body) h
  | restart tag body => exact serve_keepsAll (restartNow_keeps body) h
  | setClock tag body => exact serve_keepsAll (setClockNow_keeps body) h
  | setReports tag body => exact serve_keepsAll (setReportsNow_keeps body) h
  | defineSection tag body => exact serve_keepsAll (defineSectionNow_keeps body) h
  | defineZone tag body => exact serve_keepsAll (defineZoneNow_keeps body) h
  | defineStation tag body => exact serve_keepsAll (defineStationNow_keeps body) h
  | defineClass tag body => exact serve_keepsAll (defineClassNow_keeps body) h
  | defineCodeMap tag body => exact serve_keepsAll (defineCodeMapNow_keeps body) h
  | defineLadder tag body => exact serve_keepsAll (defineLadderNow_keeps body) h
  | defineEquation tag body => exact serve_keepsAll (defineEquationNow_keeps body) h
  | defineBoard tag body => exact serve_keepsAll (defineBoardNow_keeps body) h
  | defineField tag body => exact serve_keepsAll (defineFieldNow_keeps body) h
  | defineLinks tag body => exact serve_keepsAll (defineLinksNow_keeps body) h
  | defineAccount tag body => exact serve_keepsAll (defineAccountNow_keeps body) h
  | readDefinition tag body => exact serve_keepsAll (readDefinitionNow_keeps body) h
  | startShift tag body => exact serve_keepsAll (startShiftNow_keeps body) h
  | endShift tag body => exact serve_keepsAll (endShiftNow_keeps body) h
  | setTakt tag body => exact serve_keepsAll (setTaktNow_keeps body) h
  | setVolume tag body => exact serve_keepsAll (setVolumeNow_keeps body) h
  | correctActual tag body => exact serve_keepsAll (correctActualNow_keeps body) h
  | readAccount tag body => exact serve_keepsAll (readAccountNow_keeps body) h
  | raiseCall tag body => exact serve_keepsAll (raiseCallNow_keeps body) h
  | actOnCall tag body => exact serve_keepsAll (actOnCallNow_keeps body) h
  | restartSection tag body => exact serve_keepsAll (restartSectionNow_keeps body) h
  | readCalls tag body => exact serve_keepsAll (readCallsNow_keeps body) h
  | readSection tag body => exact serve_keepsAll (readSectionNow_keeps body) h
  | setFlag tag body => exact serve_keepsAll (setFlagNow_keeps body) h
  | setText tag body => exact serve_keepsAll (setTextNow_keeps body) h
  | readStations tag body => exact serve_keepsAll (readStationsNow_keeps body) h
  | readBoards tag body => exact serve_keepsAll (readBoardsNow_keeps body) h
  | fetchHistory tag body => exact serve_keepsAll (fetchHistoryNow_keeps body) h
  | releaseHistory tag body => exact serve_keepsAll (releaseHistoryNow_keeps body) h
  | flushBoard tag body => exact serve_keepsAll (flushBoardNow_keeps body) h
  | unknownKind tag kind body => exact execUnknownKind_keeps h
  | hostFrameReceived line => exact next_keeps h ((takeDue_keeps s).trans (modHost_keeps (line_keeps ..)))
  | hostLineBreak line => exact next_keeps h ((takeDue_keeps s).trans (modHost_keeps ((line_keeps ..).trans (lineBreak_keeps _))))
  | probeTimerExpiry board => exact execProbeTimerExpiry_keeps h
  | encoderForwardPulse sec => exact execEncoderForwardPulse_keeps (show execEncoderForwardPulse sec s = .next t from h)
  | encoderReversePulse sec => exact execEncoderReversePulse_keeps (show execEncoderReversePulse sec s = .next t from h)
  | stopDistanceExpiry sec => exact execStopDistanceExpiry_keeps h
  | rawInputChange input level => exact execRawInputChange_keeps h
  | inputDebounceExpiry input => exact execInputDebounceExpiry_keeps h
  | pollSent loop => exact execPollSent_keeps h
  | idleCycleEnd loop => exact execIdleCycleEnd_keeps h
  | statusReceived loop line => exact next_keeps h ((takeDue_keeps s).trans (loopLine_keeps ..))
  | holdReceived loop line => exact next_keeps h ((takeDue_keeps s).trans (loopLine_keeps ..))
  | loopBadReply loop line => exact next_keeps h ((takeDue_keeps s).trans (loopLine_keeps ..))
  | loopLineBreak loop line => exact execLoopLineBreak_keeps h
  | pollResponseTimeout loop => exact execPollResponseTimeout_keeps h
  | loopReplyFrameTimeout loop => exact execLoopReplyFrameTimeout_keeps h
  | boardAckReceived line => exact next_keeps h ((takeDue_keeps s).trans (boardLine_keepsAll ..))
  | boardRefuseReceived line => exact next_keeps h ((takeDue_keeps s).trans (boardLine_keepsAll ..))
  | probeAckReceived line => exact next_keeps h ((takeDue_keeps s).trans (boardLine_keepsAll ..))
  | boardBadReply line => exact next_keeps h ((takeDue_keeps s).trans (boardLine_keepsAll ..))
  | boardLineBreak line => exact execBoardLineBreak_keeps h
  | hostStartMarkInsideFrame line => exact next_keeps h ((takeDue_keeps s).trans (modHost_keeps (line_keeps ..)))
  | hostContentPast245 line => exact next_keeps h ((takeDue_keeps s).trans (modHost_keeps (line_keeps ..)))
  | hostPauseMark => exact next_keeps h ((takeDue_keeps s).trans (modHost_keeps (pause_keeps _)))
  | hostResumeMark => exact next_keeps h ((takeDue_keeps s).trans (modHost_keeps (resume_keeps _)))
  | outboundFrameSent => exact next_keeps h ((takeDue_keeps s).trans (modHost_keeps (frameSent_keeps _)))
  | replyEntersOutbound => exact next_keeps h (takeReply_keeps s)
  | tick => exact next_keeps h ((takeDue_keeps s).trans (tick_keeps _))
  | targetUnitDue => exact next_keeps h (takeTarget_keeps s)
  | periodEnd => exact next_keeps h (takePeriod_keeps s)
  | secondRollover => exact next_keeps h (takeSecond_keeps s)
  | blinkTurn => exact next_keeps h ((takeDue_keeps s).trans (blinkTurn_keeps _))
  | escalationTimerExpiry => exact next_keeps h (takeEscalation_keeps s)
  | equationDelayExpiry => exact next_keeps h (takeDelays_keeps s)
  | staleTimerExpiry => exact next_keeps h (takeStale_keeps s)
  | refreshTimerExpiry => exact next_keeps h (takeRefresh_keeps s)
  | boardFrameSent => exact execBoardFrameSent_keeps h
  | boardResponseTimeout => exact execBoardResponseTimeout_keeps h
  | boardReplyFrameTimeout => exact execBoardReplyFrameTimeout_keeps h

theorem step_keeps {s t : State} (h : step s = .next t) : Keeps s t := by
  unfold step at h
  split at h
  · next rest _ => exact .trans (t := { s with pending := rest }) (.of_unread rfl) (exec_keeps h)
  · exact next_keeps h (takeDue_keeps s)

/-! ## The statements on every step -/

theorem callsIdle_of_configIdle {s : State} (h : configIdle s) : callsIdle s := fun e => (h e).1

theorem pollsIdle_of_configIdle {s : State} (h : configIdle s) : pollsIdle s := fun e => by
  obtain ⟨-, -, -, ha, hb, -⟩ := h e
  exact ⟨ha, hb⟩

/-- Settles O55: each part of `step_keeps` that speaks of a capacity. -/
theorem stepKeepsCapacity : Obligations.StepKeepsCapacity := by
  unfold Obligations.StepKeepsCapacity
  intro s t h
  have k := step_keeps h
  refine ⟨?_, fun hc => k.table.noneRoom (pollsIdle_of_configIdle hc) (callsIdle_of_configIdle hc), k.boards⟩
  rintro ⟨hcalls, hhistory, hout, hreq⟩
  exact ⟨k.table.room hcalls, k.rest.history hhistory, k.rest.outbound hout, k.rest.requests hreq⟩

/-- Settles O56. -/
theorem stepKeepsHistoryInOrder : Obligations.StepKeepsHistoryInOrder := by
  unfold Obligations.StepKeepsHistoryInOrder
  intro s t h
  exact ⟨(step_keeps h).rest.order, (step_keeps h).table.order⟩

/-- Settles O57. -/
theorem stepKeepsTrackersInRange : Obligations.StepKeepsTrackersInRange := by
  unfold Obligations.StepKeepsTrackersInRange
  intro s t hs h
  exact (step_keeps h).rest.trackers hs

/-- Settles O58: CONFIG idle is the call table's part and the rest's part together. -/
theorem stepKeepsConfigIdle : Obligations.StepKeepsConfigIdle := by
  unfold Obligations.StepKeepsConfigIdle
  rintro s t h ⟨hidle, hshift⟩
  have k := step_keeps h
  obtain ⟨hcalls, hrest⟩ := (configIdle_iff hshift).mp hidle
  obtain ⟨hrest', hshift'⟩ := k.rest.idle hrest hshift
  have hcalls' : callsIdle t := k.table.idle (pollsIdle_of_configIdle hidle) hcalls
  exact ⟨⟨(configIdle_iff hshift').mpr ⟨hcalls', hrest'⟩, hshift'⟩,
    fun ha => ⟨k.rest.agree ha, k.rest.outputs hrest hshift ha⟩⟩

/-- Settles O59. -/
theorem stepKeepsRequestsWithCauses : Obligations.StepKeepsRequestsWithCauses := by
  unfold Obligations.StepKeepsRequestsWithCauses
  intro s t h
  have k := step_keeps h
  exact ⟨k.table.causes, fun hc => k.table.holds (pollsIdle_of_configIdle hc) (callsIdle_of_configIdle hc)⟩

end Sys2Proof.Machine
end

section
/-! PROOFS. Starting: the invariants hold of the state after reset; a step on the model's own queue. -/

namespace Sys2Proof.Machine

theorem emptyDefinitions_section {n : Nat} (h1 : 1 ≤ n) (h2 : n ≤ 4) : pick emptyDefinitions.sections n = none :=
  pick_replicate _ h1 h2

theorem emptyDefinitions_board {b : Nat} (h1 : 1 ≤ b) (h2 : b ≤ 8) : pick emptyDefinitions.boards b = none :=
  pick_replicate _ h1 h2

theorem trackersInRange_reset : trackersInRange State.reset := by
  refine ⟨fun n h1 h2 x hx => ?_, nofun, fun n h1 h2 x hx => ?_⟩
  · cases (emptyDefinitions_section h1 h2).symm.trans hx
  · cases (emptyDefinitions_section h1 h2).symm.trans hx

theorem requestsHaveCauses_reset : requestsHaveCauses State.reset := by
  intro n h1 h2
  show (pick (Vector.replicate 4 startStop) n).request = (pick (Vector.replicate 4 startStop) n).hasCause
  rw [pick_replicate _ h1 h2]; rfl

theorem boardQueuesFit_reset : boardQueuesFit State.reset := by
  refine boardQueuesFit_iff.mpr ⟨⟨fun b h1 h2 d hd => ?_, nofun, fun _ => ⟨rfl, rfl⟩, nofun, nofun⟩, fun b h1 h2 => ?_⟩
  · cases (emptyDefinitions_board h1 h2).symm.trans hd
  · have empty : (pick State.reset.boards b).queue = [] := by
      show (pick (Vector.replicate 8 startBoard) b).queue = []
      rw [pick_replicate _ h1 h2]; rfl
    refine ⟨fun _ => empty, ?_⟩
    rw [empty]; exact ⟨Nat.zero_le _, List.nodup_nil, nofun⟩

theorem holdOrdersAgree_reset : holdOrdersAgree State.reset := by
  refine ⟨nofun, fun n h1 h2 => ?_⟩
  have empty : (pick State.reset.stops n).holdOrder = [] := by
    show (pick (Vector.replicate 4 startStop) n).holdOrder = []
    rw [pick_replicate _ h1 h2]; rfl
  rw [empty]
  exact ⟨List.nodup_nil, fun k => ⟨nofun, nofun⟩⟩

/-- Settles O60: each invariant, of a state whose tables are empty. -/
theorem invariantsHoldAtReset : Obligations.InvariantsHoldAtReset := by
  unfold Obligations.InvariantsHoldAtReset
  refine ⟨⟨Nat.zero_le _, Nat.zero_le _, Nat.zero_le _, Nat.zero_le _⟩, show (0 : Nat) < 65536 from by decide, trackersInRange_reset,
    fun _ => ⟨rfl, rfl, rfl, rfl, rfl, rfl, rfl, rfl, rfl, rfl⟩, ⟨fun _ => rfl, fun _ => rfl⟩, requestsHaveCauses_reset,
    Nat.zero_le _, boardQueuesFit_reset, ⟨List.nodup_nil, List.nodup_nil, .nil, by decide, nofun⟩, holdOrdersAgree_reset,
    nofun, outputsFollow_of_idle ⟨rfl, rfl, rfl, rfl⟩⟩

end Sys2Proof.Machine
end

section
/-! PROOFS. Answering: what a request at its turn brings, by what its handling brings: the refusals, the answers that change
nothing but the host link, and the answers after a change that brings notices. -/

namespace Sys2Proof.Machine

/-! ## The guards of a request (R187) -/

theorem ofLength_fits {n : Nat} {body : List Byte} (h : body.length = n) (handle : State → Handled) (s : State) :
    ofLength n body handle s = handle s := if_pos h

theorem ofLength_misfits {n : Nat} {body : List Byte} (h : body.length ≠ n) (handle : State → Handled) (s : State) :
    ofLength n body handle s = refuse s .badFormat := if_neg h

theorem inMode_fits {m : Mode} {s : State} (h : s.mode = m) (handle : State → Handled) : inMode m handle s = handle s :=
  if_pos h

theorem inMode_misfits {m : Mode} {s : State} (h : s.mode ≠ m) (handle : State → Handled) :
    inMode m handle s = refuse s .wrongMode := if_neg h

theorem within_of_le {lo hi k : Nat} (h1 : lo ≤ k) (h2 : k ≤ hi) : within lo hi k = true := within_iff.mpr ⟨h1, h2⟩

/-! ## Refusals and plain answers -/

/-- The state with the request among those queued, as its handling finds it. -/
def State.holding (s : State) (kind tag : Byte) (body : List Byte) : State :=
  { s with host := s.host.holding kind tag body }

/-- R187: a request that is refused leaves all but the host link as it is. -/
theorem serve_refused {kind tag : Byte} {body : List Byte} {handle : State → Handled} {s : State} {r : Result}
    (h : atTurn kind tag body s) (hd : handle (s.holding kind tag body) = refuse (s.holding kind tag body) r) :
    serve kind tag body handle s = .next { s with host := s.host.answered kind tag body r .empty } :=
  serve_done (t := s) h hd

theorem serve_badFormat {kind tag : Byte} {body : List Byte} {handle : State → Handled} {s : State} {n : Nat}
    (h : atTurn kind tag body s) (hl : body.length ≠ n) :
    serve kind tag body (ofLength n body handle) s =
      .next { s with host := s.host.answered kind tag body .badFormat .empty } :=
  serve_refused h (ofLength_misfits hl ..)

theorem serve_wrongMode {kind tag : Byte} {body : List Byte} {handle : State → Handled} {s : State} {n : Nat} {m : Mode}
    (h : atTurn kind tag body s) (hl : body.length = n) (hm : s.mode ≠ m) :
    serve kind tag body (ofLength n body (inMode m handle)) s =
      .next { s with host := s.host.answered kind tag body .wrongMode .empty } :=
  serve_refused h ((ofLength_fits hl ..).trans (inMode_misfits (s := s.holding kind tag body) hm _))

/-- R187: what a request of the right length is served as. -/
theorem serve_ofLength {kind tag : Byte} {body : List Byte} {handle : State → Handled} {s : State} {n : Nat}
    (hl : body.length = n) : serve kind tag body (ofLength n body handle) s = serve kind tag body handle s := by
  have : ofLength n body handle = handle := funext fun s => ofLength_fits hl ..
  rw [this]

/-- R187: what a request in its mode is served as. -/
theorem serve_inMode {kind tag : Byte} {body : List Byte} {handle : State → Handled} {s : State} {m : Mode}
    (h : atTurn kind tag body s) (hm : s.mode = m) :
    serve kind tag body (inMode m handle) s = serve kind tag body handle s := by
  have same : inMode m handle (s.holding kind tag body) = handle (s.holding kind tag body) :=
    inMode_fits (s := s.holding kind tag body) hm _
  rw [serve_of_turn h, serve_of_turn h, serveNow_eq, serveNow_eq]
  show Host.Outcome.next _ = .next _
  unfold State.holding at same
  rw [same]

/-! ## The host link over an answer (R183, R186) -/

/-- R183, R186: of the host link, only what frames sent, received and lost change. -/
def HostLink.Flows (h k : HostLink) : Prop :=
  k = { h with
    requests := k.requests, serving := k.serving, outbound := k.outbound, sending := k.sending
    selfPaused := k.selfPaused, lastMark := k.lastMark, lostNotices := k.lostNotices }

theorem HostLink.Flows.refl (h : HostLink) : h.Flows h := rfl

theorem HostLink.Flows.trans {h k l : HostLink} (a : h.Flows k) (b : k.Flows l) : h.Flows l := by
  unfold HostLink.Flows at *
  rw [b, a]

theorem HostLink.Notified.flows {h k : HostLink} (a : h.Notified k) : h.Flows k := by
  have := a.rest
  unfold HostLink.Flows
  rw [this]

/-- R186: the host link with the request queued, case by case. -/
theorem holding_cases (h : HostLink) (kind tag : Byte) (body : List Byte) :
    (h.requests ≠ [] ∧ h.holding kind tag body = h)
      ∨ (h.requests = [] ∧ h.holding kind tag body = { h with requests := [⟨tag, kind, body⟩] }) := by
  unfold HostLink.holding
  cases hr : h.requests with
  | nil => exact .inr ⟨rfl, by simp [HostLink.receive, hr, Config.requestCapacity, Config.selfPauseAt]⟩
  | cons r rest => exact .inl ⟨nofun, rfl⟩

theorem holding_flows (h : HostLink) (kind tag : Byte) (body : List Byte) : h.Flows (h.holding kind tag body) := by
  rcases holding_cases h kind tag body with ⟨-, e⟩ | ⟨-, e⟩ <;> rw [e] <;> rfl

theorem holding_outbound (h : HostLink) (kind tag : Byte) (body : List Byte) :
    (h.holding kind tag body).outbound = h.outbound := by
  rcases holding_cases h kind tag body with ⟨-, e⟩ | ⟨-, e⟩ <;> rw [e]

theorem holding_drop (h : HostLink) (kind tag : Byte) (body : List Byte) :
    (h.holding kind tag body).requests.drop 1 = h.requests.drop 1 := by
  rcases holding_cases h kind tag body with ⟨-, e⟩ | ⟨hr, e⟩ <;> rw [e]
  rw [hr]; rfl

theorem answer_flows (h : HostLink) (f : HostFrame) : h.Flows (h.answer f) := by
  unfold HostLink.answer; split <;> rfl

/-- R183: an answer that finds room. -/
theorem answer_of_room {h : HostLink} (hroom : h.outbound.length < Config.outboundCapacity) (f : HostFrame) :
    (h.answer f).outbound = h.outbound ++ [f] ∧ (h.answer f).requests = h.requests.drop 1
      ∧ (h.answer f).serving = .free := by
  unfold HostLink.answer; rw [if_pos hroom]; exact ⟨rfl, rfl, rfl⟩

/-- R186: a request that was at its turn is answered last, after the notices of its handling. -/
theorem answeredLast_of_notified {kind tag : Byte} {body : List Byte} {s t : State} {k : HostLink} {result : Result}
    {reply : ReplyBody} (h : atTurn kind tag body s) (hn : (s.host.holding kind tag body).Notified k)
    (ht : t.host = k.answer (.reply tag kind result reply)) :
    answeredLast kind tag result reply s t ∧ s.host.Flows t.host := by
  obtain ⟨-, -, hroom, -⟩ := h
  have hr := hn.room
  rw [holding_outbound] at hr
  obtain ⟨ho, hq, hs⟩ := answer_of_room (h := k) (by unfold Config.outboundCapacity at *; omega) (.reply tag kind result reply)
  obtain ⟨ns, hns⟩ := hn.outbound
  have hk : k.requests = (s.host.holding kind tag body).requests := by rw [hn.rest]
  refine ⟨⟨⟨ns, ?_⟩, ?_, ?_⟩, ?_⟩
  · rw [ht, ho, hns, holding_outbound]
  · rw [ht, hq, hk, holding_drop]
  · rw [ht, hs]
  · rw [ht]
    exact (holding_flows ..).trans (hn.flows.trans (answer_flows ..))

/-- R186, R187: a request at its turn whose handling answers. -/
theorem serve_handled {kind tag : Byte} {body : List Byte} {handle : State → Handled} {s u : State} {result : Result}
    {reply : ReplyBody} (h : atTurn kind tag body s)
    (hd : handle (s.holding kind tag body) = ⟨u, some (result, reply)⟩) :
    serve kind tag body handle s = .next (u.modHost fun x => x.answer (.reply tag kind result reply)) := by
  unfold State.holding at hd
  rw [serve_of_turn h, serveNow_eq, hd]

/-- R186, R187: a request at its turn whose handling brings a change with notices and an answer. -/
theorem serve_answered {kind tag : Byte} {body : List Byte} {handle : State → Handled} {s u : State} {result : Result}
    {reply : ReplyBody} (h : atTurn kind tag body s)
    (hd : handle (s.holding kind tag body) = ⟨u, some (result, reply)⟩)
    (hn : (s.host.holding kind tag body).Notified u.host) :
    ∃ t, serve kind tag body handle s = .next t ∧ t = { u with host := t.host }
      ∧ answeredLast kind tag result reply s t ∧ s.host.Flows t.host :=
  ⟨u.modHost fun x => x.answer (.reply tag kind result reply), serve_handled h hd, rfl,
    answeredLast_of_notified h hn rfl⟩

/-! ## What else a change shows -/

/-- All but what a change is shown in. -/
def State.butShown (s : State) : State :=
  { s with equations := Vector.replicate 48 startEquation, flags := Vector.replicate 32 false
           relays := Vector.replicate 8 false, tunes := Vector.replicate 4 0
           boards := Vector.replicate 8 startBoard, fields := Vector.replicate 8 (Vector.replicate 12 startField)
           host := startHost }

theorem eq_of_butShown {x t : State} (h : t.butShown = x.butShown) :
    t = { x with equations := t.equations, flags := t.flags, relays := t.relays, tunes := t.tunes
                 boards := t.boards, fields := t.fields, host := t.host } :=
  (congrArg (fun y : State => { y with
    equations := t.equations, flags := t.flags, relays := t.relays, tunes := t.tunes
    boards := t.boards, fields := t.fields, host := t.host }) h :)

/-- What shared operations leave is all but what they are shown in, the tables, the history queue and the shift. -/
theorem butShown_of_ops {s t : State} (h : t.butOps = s.butOps) :
    t.butShown =
      ({ s with
        calls := t.calls, lastNumber := t.lastNumber, arrivalCount := t.arrivalCount, stops := t.stops
        stations := t.stations, loopA := t.loopA, loopB := t.loopB, history := t.history, nextSeq := t.nextSeq
        overflowCount := t.overflowCount, staleTimer := t.staleTimer, shift := t.shift } : State).butShown :=
  (congrArg (fun y : State => ({ y with
    calls := t.calls, lastNumber := t.lastNumber, arrivalCount := t.arrivalCount, stops := t.stops
    stations := t.stations, loopA := t.loopA, loopB := t.loopB, history := t.history, nextSeq := t.nextSeq
    overflowCount := t.overflowCount, staleTimer := t.staleTimer, shift := t.shift } : State).butShown) h :)

/-- What a change shows, once the request that brought it is answered. -/
theorem sameButShown_of_shows {s x u t : State} {kind tag : Byte} {body : List Byte}
    (hx : x.boards = s.boards ∧ x.fields = s.fields ∧ x.host = s.host) (hu : u.butShown = x.butShown)
    (sh : Shows (s.holding kind tag body) u) (ht : t = { u with host := t.host }) (hf : s.host.Flows t.host) :
    sameButShown x t := by
  obtain ⟨hb, hfl, hh⟩ := hx
  have hv : t.butShown = x.butShown := by rw [ht]; exact hu
  have tb : t.boards = u.boards := by rw [ht]
  have tf : t.fields = u.fields := by rw [ht]
  refine ⟨eq_of_butShown hv, fun b _ _ => ?_, fun b f _ _ _ _ => ?_, ?_⟩
  · rw [tb, hb]; exact sh.boards b
  · rw [tf, hfl]; exact sh.fields b f
  · rw [hh]; exact hf

end Sys2Proof.Machine
end

section
/-! PROOFS. Refusals: the front of the model's queue, unknown kinds, and the requests refused by length, mode or state. -/

namespace Sys2Proof.Machine

/-- Settles O1. -/
theorem stepRunsFrontCommand : Obligations.StepRunsFrontCommand := by
  unfold Obligations.StepRunsFrontCommand
  have due : ∀ s : State, s.pending = [] → step s = .next s.takeDue := fun s h => by unfold step; rw [h]
  refine ⟨fun c rest s h => by unfold step; rw [h], due, fun s h hs => ?_⟩
  rw [due s h, settled_takeDue hs]

/-- Settles O12: the empty store's reset, evaluated. -/
theorem resetStateIsAfterReset : Obligations.ResetStateIsAfterReset := by
  unfold Obligations.ResetStateIsAfterReset
  rfl

/-- Settles O28: the four ranges are the request kinds. -/
theorem unknownKindTaken : Obligations.UnknownKindTaken := by
  unfold Obligations.UnknownKindTaken
  intro tag kind body s h h1 h2 h3 h4
  have unknown : kind.toNat ∉ requestKinds := by
    unfold requestKinds
    simp only [List.mem_cons, List.not_mem_nil, or_false] at h3 ⊢
    omega
  show execUnknownKind tag kind body s = _
  unfold execUnknownKind
  rw [if_neg unknown]
  exact serve_refused h rfl

/-- Settles O10: each DEFINE request checks its length, then the mode. -/
theorem definesRefused : Obligations.DefinesRefused := by
  unfold Obligations.DefinesRefused
  intro tag body s kind length i hi h
  have run : s.mode = .run → s.mode ≠ .config := fun e => by rw [e]; decide
  simp only [List.mem_cons, Prod.mk.injEq, List.not_mem_nil, or_false] at hi
  rcases hi with ⟨rfl, rfl, rfl⟩ | ⟨rfl, rfl, rfl⟩ | ⟨rfl, rfl, rfl⟩ | ⟨rfl, rfl, rfl⟩ | ⟨rfl, rfl, rfl⟩ |
    ⟨rfl, rfl, rfl⟩ | ⟨rfl, rfl, rfl⟩ | ⟨rfl, rfl, rfl⟩ | ⟨rfl, rfl, rfl⟩ | ⟨rfl, rfl, rfl⟩
  all_goals exact ⟨fun hl => serve_badFormat h hl, fun hl hm => serve_wrongMode h hl (run hm)⟩

theorem textFits_iff {body : List Byte} :
    textFits body = true ↔ 3 ≤ body.length ∧ body.length = 3 + byteAt body 2 ∧ byteAt body 2 ≤ 232 := by
  unfold textFits
  simp only [Bool.and_eq_true, decide_eq_true_eq, beq_iff_eq, and_assoc]

/-- Settles O24: the length of each request, and the mode of those that check it next. -/
theorem requestsRefusedByLengthOrMode : Obligations.RequestsRefusedByLengthOrMode := by
  unfold Obligations.RequestsRefusedByLengthOrMode
  intro tag body s kind length i
  have inRun : s.mode = .config → s.mode ≠ .run := fun e => by rw [e]; decide
  have inConfig : s.mode = .run → s.mode ≠ .config := fun e => by rw [e]; decide
  refine ⟨fun hi h hl => ?_, fun hi h hl hm => ?_, fun hi h hl hm => ?_, fun h hl => ?_, fun h => ⟨fun hl => ?_,
    fun h9 hl hm => ?_⟩, fun h => ⟨fun hl => ?_, fun h3 hl h232 b1 b2 f1 f2 hm => ?_⟩, fun h hl b1 b2 hm => ?_⟩
  · simp only [List.mem_cons, Prod.mk.injEq, List.not_mem_nil, or_false] at hi
    rcases hi with ⟨rfl, rfl, rfl⟩ | ⟨rfl, rfl, rfl⟩ | ⟨rfl, rfl, rfl⟩ | ⟨rfl, rfl, rfl⟩ | ⟨rfl, rfl, rfl⟩ |
      ⟨rfl, rfl, rfl⟩ | ⟨rfl, rfl, rfl⟩ | ⟨rfl, rfl, rfl⟩ | ⟨rfl, rfl, rfl⟩ | ⟨rfl, rfl, rfl⟩ | ⟨rfl, rfl, rfl⟩ |
      ⟨rfl, rfl, rfl⟩ | ⟨rfl, rfl, rfl⟩ | ⟨rfl, rfl, rfl⟩ | ⟨rfl, rfl, rfl⟩ | ⟨rfl, rfl, rfl⟩ | ⟨rfl, rfl, rfl⟩ |
      ⟨rfl, rfl, rfl⟩ | ⟨rfl, rfl, rfl⟩ | ⟨rfl, rfl, rfl⟩ | ⟨rfl, rfl, rfl⟩ | ⟨rfl, rfl, rfl⟩ | ⟨rfl, rfl, rfl⟩ |
      ⟨rfl, rfl, rfl⟩
    all_goals exact serve_badFormat h hl
  · simp only [List.mem_cons, Prod.mk.injEq, List.not_mem_nil, or_false] at hi
    rcases hi with ⟨rfl, rfl, rfl⟩ | ⟨rfl, rfl, rfl⟩ | ⟨rfl, rfl, rfl⟩ | ⟨rfl, rfl, rfl⟩
    all_goals exact serve_wrongMode h hl (inRun hm)
  · simp only [List.mem_cons, Prod.mk.injEq, List.not_mem_nil, or_false] at hi
    rcases hi with ⟨rfl, rfl, rfl⟩ | ⟨rfl, rfl, rfl⟩ | ⟨rfl, rfl, rfl⟩
    all_goals exact serve_wrongMode h hl (inConfig hm)
  · refine serve_refused h (if_neg ?_)
    unfold planFits
    rcases hl with rfl | hl
    · decide
    · simp [hl]
  · refine serve_refused h (if_neg ?_)
    unfold equationFits
    simp only [Bool.and_eq_true, decide_eq_true_eq]
    omega
  · refine serve_refused h ((if_pos ?_).trans (inMode_misfits (s := s.holding 30#8 tag body) (inConfig hm) _))
    unfold equationFits
    simp only [Bool.and_eq_true, decide_eq_true_eq]
    omega
  · refine serve_refused h (if_neg ?_)
    simp only [textFits_iff]
    omega
  · refine serve_refused h ((if_pos (textFits_iff.mpr ⟨h3, hl, h232⟩)).trans ((if_pos ?_).trans
      (inMode_misfits (s := s.holding 57#8 tag body) (inRun hm) _)))
    rw [within_of_le b1 b2, within_of_le f1 f2]; rfl
  · refine serve_refused h ((ofLength_fits hl ..).trans ((if_pos (within_of_le b1 b2)).trans
      (inMode_misfits (s := s.holding 62#8 tag body) (inRun hm) _)))

theorem withShift_wrongMode {handle : Shift → State → Handled} {s : State} (hm : s.mode = .config) :
    withShift handle s = refuse s .wrongMode := inMode_misfits (by rw [hm]; decide) _

theorem withShift_none {handle : Shift → State → Handled} {s : State} (hm : s.mode = .run) (h : s.shiftState = .none) :
    withShift handle s = refuse s .wrongState := by
  unfold withShift
  rw [inMode_fits hm]
  split
  · rw [if_pos h]
  · rfl

/-- A request on the shift, in CONFIG and while no shift runs. -/
theorem serve_withShift_refused {kind tag : Byte} {body : List Byte} {handle : Shift → State → Handled} {s : State}
    {n : Nat} (h : atTurn kind tag body s) (hl : body.length = n) :
    (s.mode = .config → serve kind tag body (ofLength n body (withShift handle)) s =
        .next { s with host := s.host.answered kind tag body .wrongMode .empty })
    ∧ (s.mode = .run → s.shiftState = .none → serve kind tag body (ofLength n body (withShift handle)) s =
        .next { s with host := s.host.answered kind tag body .wrongState .empty }) :=
  ⟨fun hm => serve_refused h ((ofLength_fits hl ..).trans (withShift_wrongMode hm)),
    fun hm hs => serve_refused h ((ofLength_fits hl ..).trans (withShift_none hm hs))⟩

/-- Settles O20: the length, the mode and the shift state, in this order. -/
theorem shiftRequestsRefused : Obligations.ShiftRequestsRefused := by
  unfold Obligations.ShiftRequestsRefused
  refine fun tag body s => ⟨fun asked h hf hp => ⟨fun hm => ?_, fun hm hs => ?_⟩, fun kind length i hi h hl => ?_⟩
  · refine serve_refused h ?_
    unfold startShiftNow
    rw [if_pos hf, hp]
    exact inMode_misfits (s := s.holding 40#8 tag body) (by show s.mode ≠ _; rw [hm]; decide) _
  · refine serve_refused h ?_
    unfold startShiftNow
    rw [if_pos hf, hp]
    exact (inMode_fits (s := s.holding 40#8 tag body) hm _).trans (if_neg hs)
  · simp only [List.mem_cons, Prod.mk.injEq, List.not_mem_nil, or_false] at hi
    rcases hi with ⟨rfl, rfl, rfl⟩ | ⟨rfl, rfl, rfl⟩ | ⟨rfl, rfl, rfl⟩ | ⟨rfl, rfl, rfl⟩
    all_goals exact serve_withShift_refused h hl

end Sys2Proof.Machine
end

section
/-! PROOFS. Reads: what the reads answer, and what READ STATUS, READ STATIONS and READ BOARDS with CLEAR change. -/

namespace Sys2Proof.Machine

/-! ## The lists of the reads -/

/-- R93: the stations that READ STATIONS looks at are the numbers from `first` on, `count` of them, to 96. -/
theorem filter_numbers_run {first count : Nat} (h1 : 1 ≤ first) :
    ((numbers 96).filter fun n => decide (first ≤ n) && decide (n < first + count)) =
      List.range' first (min count (97 - first)) := by
  have sorted : (numbers 96).Pairwise (· < ·) := by
    unfold numbers
    rw [List.pairwise_map]
    exact List.pairwise_lt_range.imp fun h => by omega
  refine List.Pairwise.eq_of_mem_iff (r := (· < ·)) (sorted.filter _) List.pairwise_lt_range' fun n => ?_
  simp only [List.mem_filter, mem_numbers, Bool.and_eq_true, decide_eq_true_eq, List.mem_range'_1]
  omega

theorem stationRun_longestRun (s : State) {first : Nat} (count : Nat) (h1 : 1 ≤ first) :
    longestRun stationEntrySize Config.stationHeadBytes (stationsWanted s first count) (stationRun s first count) := by
  unfold stationsWanted stationRun
  rw [filter_numbers_run h1]
  exact takeFitting_longestRun ..

theorem stationRun_holding (s : State) (kind tag : Byte) (body : List Byte) (first count : Nat) :
    stationRun (s.holding kind tag body) first count = stationRun s first count := rfl

theorem statusReport_holding (s : State) (kind tag : Byte) (body : List Byte) :
    statusReport (s.holding kind tag body) = statusReport s := by
  have h := holding_flows s.host kind tag body
  have h1 : (s.host.holding kind tag body).badFrames = s.host.badFrames := (congrArg HostLink.badFrames h :)
  have h2 : (s.host.holding kind tag body).lostRequests = s.host.lostRequests := (congrArg HostLink.lostRequests h :)
  have h3 : (s.host.holding kind tag body).lostNotices = s.host.lostNotices := by
    rcases holding_cases s.host kind tag body with ⟨-, e⟩ | ⟨-, e⟩ <;> rw [e]
  unfold statusReport State.holding
  dsimp only
  rw [h1, h2, h3]
  rfl

/-! ## The bytes of a record (R151) -/

theorem bytes2_length (n : Nat) : (bytes2 n).length = 2 := rfl

theorem bytes3_length (n : Nat) : (bytes3 n).length = 3 := rfl

theorem optionalTime_length (t : Option Nat) : (optionalTime t).length = 3 := rfl

theorem originBytes_length (o : Origin) : (originBytes o).length = 2 := by cases o <;> rfl

theorem sectionEntries_length (es : List SectionEntry) : (es.flatMap SectionEntry.bytes).length = 10 * es.length := by
  induction es with
  | nil => rfl
  | cons e es ih =>
    rw [List.flatMap_cons, List.length_append, ih, List.length_cons]
    simp only [SectionEntry.bytes, List.length_append, bytes3_length, List.length_singleton]
    omega

theorem callClosed_length {r : HistoryRecord} {c : ClosedCall} (h : r.entry = .callClosed c) : r.bytes.length = 29 := by
  unfold HistoryRecord.bytes
  rw [h]
  simp only [List.length_append, List.length_cons, List.length_nil, bytes2_length, bytes3_length, optionalTime_length,
    originBytes_length]

theorem shiftClosed_length {r : HistoryRecord} {c : ClosedShift} (h : r.entry = .shiftClosed c) :
    r.bytes.length = 21 + 10 * c.entries.length := by
  unfold HistoryRecord.bytes
  rw [h]
  simp only [List.length_append, List.length_singleton, bytes2_length, bytes3_length, sectionEntries_length]

/-! ## The reads -/

/-- Settles O2: each read's answer, computed from the state that holds the request. -/
theorem readsChangeHostLinkAlone : Obligations.ReadsChangeHostLinkAlone := by
  unfold Obligations.ReadsChangeHostLinkAlone
  intro tag body s
  refine ⟨fun h hb => ?_, fun d h hl hd => ?_, fun n j h1 => ⟨fun h2 hn => ?_, fun h2 hn => ?_, fun h2 hn => ?_,
    fun h2 hn => ?_, fun h2 hn => ?_, fun h2 hn => ?_⟩, fun h hb => ?_, fun scope h hl hs hw => ?_, fun d h hl hw hd => ?_,
    fun h hl h0 h1 h2 => ?_, fun h hb => ?_, fun h hl hw => ?_, fun r => ⟨fun c => callClosed_length, fun c => shiftClosed_length⟩⟩
  · subst hb
    refine serve_done (t := s) h ?_
    show done _ (.status (statusReport (s.holding 16#8 tag [0#8]))) = _
    rw [statusReport_holding]; rfl
  · refine serve_done (t := s) h ((ofLength_fits hl ..).trans ?_)
    have found : definitionItem (s.holding 35#8 tag body) (byteAt body 0) (byteAt body 1) (byteAt body 2) = some d := hd
    unfold State.holding at found
    dsimp only
    rw [found]; rfl
  · show indexed 1 4 n _ = _
    rw [hn]; exact if_pos (within_of_le h1 h2)
  · show indexed 1 24 n _ = _
    rw [hn]; exact if_pos (within_of_le h1 h2)
  · show indexed 1 96 n _ = _
    rw [hn]; exact if_pos (within_of_le h1 h2)
  · show indexed 1 8 n _ = _
    rw [hn]; exact if_pos (within_of_le h1 h2)
  · refine ⟨equationLayout n j none, rfl, ?_⟩
    show indexed 1 48 n _ = _
    rw [hn]; exact if_pos (within_of_le h1 h2)
  · show indexed 1 8 n _ = _
    rw [hn]; exact if_pos (within_of_le h1 h2)
  · subst hb
    exact serve_done (t := s) h rfl
  · refine ⟨_, serve_done (t := s) h ((ofLength_fits hl ..).trans ?_), takeFitting_longestRun ..⟩
    dsimp only
    rw [hs, hw]; rfl
  · refine serve_done (t := s) h ((ofLength_fits hl ..).trans ((if_pos hw).trans ?_))
    have found : (s.holding 53#8 tag body).sectionDef (byteAt body 0) = some d := hd
    unfold State.holding at found
    rw [found]; rfl
  · refine ⟨_, serve_done (t := s) h ((ofLength_fits hl ..).trans ?_), stationRun_longestRun s (byteAt body 1)
      (within_iff.mp h0).1⟩
    rw [h0, h1, h2]; rfl
  · subst hb
    exact serve_done (t := s) h rfl
  · refine ⟨_, serve_done (t := s) h ((ofLength_fits hl ..).trans ((if_pos hw).trans rfl)), takeFitting_longestRun ..⟩

/-! ## The reads with CLEAR -/

/-- R93: a station's counters set to 0. -/
def Station.cleared (x : Station) : Station := { x with goodReplies := 0, misses := 0, rejectedEvents := 0 }

theorem clearStation_stations (s : State) (n m : Nat) (h1 : 1 ≤ m) (h2 : m ≤ 96) :
    pick (s.clearStation n).stations m = if m = n then (pick s.stations m).cleared else pick s.stations m :=
  pick_alter_within _ _ h1 h2

/-- R93: the stations cleared, one after another. -/
theorem clearStations_stations (ns : List Nat) (s : State) {m : Nat} (h1 : 1 ≤ m) (h2 : m ≤ 96) :
    pick (ns.foldl State.clearStation s).stations m =
      if m ∈ ns then (pick s.stations m).cleared else pick s.stations m := by
  induction ns generalizing s with
  | nil => rfl
  | cons n ns ih =>
    rw [List.foldl_cons, ih, clearStation_stations s n m h1 h2]
    by_cases hm : m = n
    · rw [if_pos hm, if_pos (List.mem_cons.mpr (.inl hm))]
      split <;> rfl
    · rw [if_neg hm, if_congr (List.mem_cons.trans (or_iff_right hm)) rfl rfl]

/-- All but the stations. -/
def State.butStations (s : State) : State := { s with stations := Vector.replicate 96 startStation }

theorem clearStations_butStations (ns : List Nat) (s : State) :
    (ns.foldl State.clearStation s).butStations = s.butStations :=
  foldl_keeps State.butStations State.clearStation (fun _ _ => rfl) ns s

theorem eq_of_butStations {s u t : State} {kind tag : Byte} {body : List Byte} (ht : t = { u with host := t.host })
    (hu : u.butStations = (s.holding kind tag body).butStations) :
    t = { s with stations := t.stations, host := t.host } := by
  have hs : t.stations = u.stations := by rw [ht]
  refine ht.trans ?_
  rw [hs]
  exact (congrArg (fun y : State => { y with stations := u.stations, host := t.host }) hu :)

/-- R195: the counters of the host link, set to 0 before the answer, stay so. -/
theorem answer_counters (h : HostLink) (f : HostFrame) :
    (h.answer f).badFrames = h.badFrames ∧ (h.answer f).lostRequests = h.lostRequests
      ∧ (h.answer f).lostNotices = h.lostNotices := by
  unfold HostLink.answer; split <;> exact ⟨rfl, rfl, rfl⟩

/-- R186: a request that is answered by a change of nothing on the host link but its counters. -/
theorem answeredLast_of_queues {kind tag : Byte} {body : List Byte} {s t : State} {k : HostLink} {result : Result}
    {reply : ReplyBody} (h : atTurn kind tag body s) (ho : k.outbound = s.host.outbound)
    (hr : k.requests = (s.host.holding kind tag body).requests) (ht : t.host = k.answer (.reply tag kind result reply)) :
    answeredLast kind tag result reply s t := by
  obtain ⟨-, -, hroom, -⟩ := h
  obtain ⟨h1, h2, h3⟩ := answer_of_room (h := k) (by rw [ho]; exact hroom) (.reply tag kind result reply)
  refine ⟨⟨[], ?_⟩, ?_, ?_⟩
  · rw [ht, h1, ho, List.append_nil]
  · rw [ht, h2, hr, holding_drop]
  · rw [ht, h3]

theorem clearBoards_boards (s : State) {b : Nat} (h1 : 1 ≤ b) (h2 : b ≤ 8) :
    pick s.clearBoards.boards b = { pick s.boards b with delivered := 0, refused := 0, failed := 0 } := by
  unfold State.clearBoards
  dsimp only
  rw [pick_alterAll _ _ h1 h2]

/-- Settles O3: the reply is made before the counters are set to 0. -/
theorem readsThatClearCounters : Obligations.ReadsThatClearCounters := by
  unfold Obligations.ReadsThatClearCounters
  refine fun tag body s => ⟨fun h hb => ?_, fun h hl h0 h1 h2 => ?_, fun h hb => ?_⟩
  · subst hb
    have handled : readStatusNow [1#8] (s.holding 16#8 tag [1#8]) =
        ⟨(s.holding 16#8 tag [1#8]).clearCounters, some (.done, .status (statusReport s))⟩ := by
      rw [← statusReport_holding s 16#8 tag [1#8]]; rfl
    refine ⟨_, serve_handled h handled, ?_, rfl, answer_counters ..⟩
    exact answeredLast_of_queues (k := (s.holding 16#8 tag [1#8]).clearCounters.host) h (holding_outbound ..) rfl rfl
  · have handled : readStationsNow body (s.holding 58#8 tag body) =
        ⟨((stationRun s (byteAt body 0) (byteAt body 1)).map (·.1)).foldl State.clearStation (s.holding 58#8 tag body),
          some (.done, .stations (loopReport s .a) (loopReport s .b)
            (stationRun s (byteAt body 0) (byteAt body 1)))⟩ := by
      refine (ofLength_fits hl ..).trans ?_
      dsimp only
      rw [h0, h1, h2]; rfl
    have same := clearStations_butStations ((stationRun s (byteAt body 0) (byteAt body 1)).map (·.1))
      (s.holding 58#8 tag body)
    have cleared : ∀ n, 1 ≤ n → n ≤ 96 → _ := fun n n1 n2 =>
      clearStations_stations ((stationRun s (byteAt body 0) (byteAt body 1)).map (·.1)) (s.holding 58#8 tag body) n1 n2
    generalize ((stationRun s (byteAt body 0) (byteAt body 1)).map (·.1)).foldl State.clearStation
      (s.holding 58#8 tag body) = u at handled same cleared
    have hhost : u.host = s.host.holding 58#8 tag body := (congrArg State.host same :)
    obtain ⟨t, hx, ht, ha, -⟩ := serve_answered h handled (by rw [hhost]; exact .refl _)
    refine ⟨t, _, hx, ha, stationRun_longestRun s (byteAt body 1) (within_iff.mp h0).1, eq_of_butStations ht same,
      fun n n1 n2 => ?_⟩
    have hs : t.stations = u.stations := by rw [ht]
    rw [hs]
    exact cleared n n1 n2
  · subst hb
    have handled : readBoardsNow [1#8] (s.holding 59#8 tag [1#8]) =
        ⟨(s.holding 59#8 tag [1#8]).clearBoards,
          some (.done, .boards (linkReport s) ((numbers 8).map (boardEntry s)))⟩ := rfl
    obtain ⟨t, hx, ht, ha, -⟩ := serve_answered h handled (.refl _)
    have hb : t.boards = (s.holding 59#8 tag [1#8]).clearBoards.boards := by rw [ht]
    refine ⟨t, hx, ha, ht.trans ?_, fun b b1 b2 => ?_⟩
    · rw [hb]; rfl
    · rw [hb]; exact clearBoards_boards (s.holding 59#8 tag [1#8]) b1 b2

end Sys2Proof.Machine
end

section
/-! PROOFS. Defining: the DEFINE requests taken in CONFIG, the settings store, SET CLOCK and SET REPORTS. -/

namespace Sys2Proof.Machine

/-! ## Folds of which one step touches what is read -/

/-- Of a fold over different items, of which the step at k alone touches what r reads, r is related as that step has it. -/
theorem foldl_at {σ α β : Type} (r : σ → β) (P : σ → Prop) (Q : β → β → Prop) (f : σ → α → σ) (k : α)
    (hP : ∀ s x, P s → P (f s x)) (hr : ∀ s x, P s → x ≠ k → r (f s x) = r s) (hQ : ∀ s, P s → Q (r s) (r (f s k))) :
    ∀ (xs : List α) (s : σ), xs.Nodup → k ∈ xs → P s → Q (r s) (r (xs.foldl f s)) := by
  have untouched : ∀ (xs : List α) (s : σ), k ∉ xs → P s → r (xs.foldl f s) = r s := by
    intro xs
    induction xs with
    | nil => exact fun _ _ _ => rfl
    | cons x xs ih =>
      intro s hk hs
      rw [List.mem_cons, not_or] at hk
      rw [List.foldl_cons, ih _ hk.2 (hP s x hs), hr s x hs (Ne.symm hk.1)]
  intro xs
  induction xs with
  | nil => exact fun _ _ hk => absurd hk List.not_mem_nil
  | cons x xs ih =>
    intro s hn hk hs
    rw [List.nodup_cons] at hn
    rw [List.foldl_cons]
    rcases List.mem_cons.mp hk with rfl | hk
    · rw [untouched xs _ hn.1 (hP s _ hs)]; exact hQ s hs
    · rw [← hr s x hs (fun e => hn.1 (e ▸ hk))]
      exact ih _ hn.2 hk (hP s x hs)

/-! ## A definition replaced (R2, R4, R32, R51, R76, R121) -/

/-- R187: a request of CONFIG of the right length, handled. -/
theorem fits_config {n : Nat} {body : List Byte} {handle : State → Handled} {s : State} (hl : body.length = n)
    (hm : s.mode = .config) : ofLength n body (inMode .config handle) s = handle s :=
  (ofLength_fits hl ..).trans (inMode_fits hm _)

/-- Settles O4. -/
theorem defineSectionTaken : Obligations.DefineSectionTaken := by
  unfold Obligations.DefineSectionTaken
  intro tag body s n d h hm hl hd
  refine ⟨serve_done (t := s.defineSection n d) h ?_, readSectionDef_defined hd⟩
  refine (fits_config hl (s := s.holding 24#8 tag body) hm).trans ?_
  rw [hd]; rfl

/-- Settles O5. -/
theorem simpleDefinitionsTaken : Obligations.SimpleDefinitionsTaken := by
  unfold Obligations.SimpleDefinitionsTaken
  refine fun tag body s hm => ⟨fun n d h hl hd => ?_, fun n d h hl hd => ?_, fun n d h hl hd => ?_, fun m h hl hd => ?_,
    fun n a h hl hd => ?_⟩
  · refine serve_done (t := s.modDefs fun x => { x with zones := alter x.zones n fun _ => d }) h
      ((fits_config hl (s := s.holding 25#8 tag body) hm).trans ?_)
    rw [hd]; rfl
  · refine serve_done (t := s.modDefs fun x => { x with stations := alter x.stations n fun _ => d }) h
      ((fits_config hl (s := s.holding 26#8 tag body) hm).trans ?_)
    rw [hd]; rfl
  · refine serve_done (t := s.modDefs fun x => { x with classes := alter x.classes n fun _ => d }) h
      ((fits_config hl (s := s.holding 27#8 tag body) hm).trans ?_)
    rw [hd]; rfl
  · refine serve_done (t := s.modDefs fun x => { x with codeMap := m }) h
      ((fits_config hl (s := s.holding 28#8 tag body) hm).trans ?_)
    rw [hd]; rfl
  · refine serve_done (t := s.modDefs fun x => { x with counting := n, source := a }) h
      ((fits_config hl (s := s.holding 34#8 tag body) hm).trans ?_)
    rw [hd]; rfl

/-! ## Ladders and equations (R96, R105) -/

theorem clamp_eq (lo hi k : Nat) (h : lo ≤ hi) : clamp lo hi k = max lo (min hi k) := by
  unfold clamp; split <;> [omega; split <;> omega]

/-- R96: the ladder that a DEFINE LADDER's body gives, its delays clamped. -/
def ladderOfBody (body : List Byte) (basis : Basis) : LadderDef :=
  ⟨basis, byteAt body 3, Vector.ofFn fun i => ladderDelay body (byteAt body 3) (i.val + 1)⟩

/-- R96: what DEFINE LADDER reads from a body whose fields are in range. -/
theorem readLadderDef_eq {body : List Byte} {basis : Basis} (h1 : 1 ≤ byteAt body 0) (h2 : byteAt body 0 ≤ 8)
    (hu : byteAt body 1 = 1) (hb : readBasis (byteAt body 2) = some basis) (l1 : 1 ≤ byteAt body 3)
    (l2 : byteAt body 3 ≤ 4) :
    readLadderDef body = some (byteAt body 0,
      some (ladderOfBody body basis,
        (numbers (byteAt body 3)).any fun k => ladderDelay body (byteAt body 3) k != wordAt body (2 * k + 2))) := by
  unfold readLadderDef
  simp only [ladderOfBody, within_of_le h1 h2, hu, readMark, hb, within_of_le l1 l2, Bool.not_true, Bool.false_eq_true, if_false,
    if_true]

theorem ladderDelay_eq (body : List Byte) (levels k : Nat) :
    ladderDelay body levels k = if k ≤ levels then max 10 (min 36000 (wordAt body (2 * k + 2))) else 0 := by
  unfold ladderDelay; rw [clamp_eq _ _ _ (by decide)]

/-- Settles O6. -/
theorem defineLadderTaken : Obligations.DefineLadderTaken := by
  unfold Obligations.DefineLadderTaken
  intro tag body s basis h hm hl h1 h2 hu hb l1 l2
  have hread := readLadderDef_eq h1 h2 hu hb l1 l2
  have hclamped : ((numbers (byteAt body 3)).any fun k => ladderDelay body (byteAt body 3) k != wordAt body (2 * k + 2))
      = true ↔ ∃ k, 1 ≤ k ∧ k ≤ byteAt body 3 ∧ (wordAt body (2 * k + 2) < 10 ∨ 36000 < wordAt body (2 * k + 2)) := by
    rw [List.any_eq_true]
    refine exists_congr fun k => ?_
    rw [mem_numbers, bne_iff_ne, ladderDelay_eq, and_assoc]
    refine and_congr_right fun _ => and_congr_right fun hk => ?_
    rw [if_pos hk]; omega
  generalize ((numbers (byteAt body 3)).any fun k => ladderDelay body (byteAt body 3) k != wordAt body (2 * k + 2))
    = clamped at hread hclamped
  refine ⟨ladderOfBody body basis, if clamped then .adjusted else .done, ?_, rfl, rfl, fun k k1 k2 => ?_, ?_, ?_⟩
  · refine serve_done (t := s.defineLadder (byteAt body 0) (some (ladderOfBody body basis))) h
      ((fits_config hl (s := s.holding 29#8 tag body) hm).trans ?_)
    rw [hread]; rfl
  · have inside : k - 1 < 4 := by omega
    have place : k - 1 + 1 = k := by omega
    unfold ladderOfBody pick
    dsimp only
    rw [dif_pos inside, if_neg (by omega), Vector.getElem_ofFn, place, ladderDelay_eq]
  · cases clamped
    · exact .inr rfl
    · exact .inl rfl
  · rw [← hclamped]
    cases clamped
    · simp
    · simp

/-- Settles O7. -/
theorem defineEquationTaken : Obligations.DefineEquationTaken := by
  unfold Obligations.DefineEquationTaken
  intro tag body s h hm hf
  have handled : ∀ handle : State → Handled, (if equationFits body then
      inMode .config handle (s.holding 30#8 tag body) else refuse (s.holding 30#8 tag body) .badFormat) =
        handle (s.holding 30#8 tag body) := fun handle =>
    (if_pos hf).trans (inMode_fits (s := s.holding 30#8 tag body) hm _)
  refine ⟨fun n e clamped he => ?_, fun n he => ?_, fun i he => ?_⟩
  · refine serve_done (t := s.defineEquation n (some e)) h ((handled _).trans ?_)
    rw [he]; rfl
  · refine serve_done (t := s.defineEquation n none) h ((handled _).trans ?_)
    rw [he]; rfl
  · refine serve_done (t := s) h ((handled _).trans ?_)
    rw [he]; rfl

/-! ## DEFINE LINKS (R190, R46) -/

theorem eq_of_butInputs {x u t : State} (ht : t = { u with host := t.host }) (hu : u.butInputs = x.butInputs) :
    t = { x with inputs := t.inputs, freeCount := t.freeCount, host := t.host } := by
  have hi : t.inputs = u.inputs := by rw [ht]
  have hf : t.freeCount = u.freeCount := by rw [ht]
  refine ht.trans ?_
  rw [hi, hf]
  exact (congrArg (fun y : State => { y with inputs := u.inputs, freeCount := u.freeCount, host := t.host }) hu :)

theorem inputTaken_inputs (s : State) (k : Nat) {m : Nat} (h1 : 1 ≤ m) (h2 : m ≤ 16) :
    pick (s.inputTaken k).inputs m =
      if m = k then ⟨(pick s.inputs m).raw, (pick s.inputs m).raw, false⟩ else pick s.inputs m :=
  pick_alter_within _ _ h1 h2

/-- In CONFIG an input taken leaves the other inputs. -/
theorem takeInput_inputs_config {s : State} (hm : s.mode = .config) (k : Nat) :
    (s.takeInput k).inputs = (s.inputTaken k).inputs := by
  rw [takeInput_eq, deliverEdge_config (s := s.inputTaken k) hm]
  exact (congrArg State.inputs (inputNotice_butHost (s.inputTaken k) k _) :)

/-- R190: what a new debounce time makes of an input: one that is not timed stays, one that is timed is taken where its
time becomes 0, and the raw level stays. -/
def retimed (before after : Nat) (x y : InputState) : Prop :=
  y.raw = x.raw ∧ (x.timing = false → y = x) ∧ (x.timing = true → after = 0 → before ≠ 0 → y = ⟨x.raw, x.raw, false⟩)

theorem debounceChanged_inputs {s : State} (old : LinkSettings) (hm : s.mode = .config) (k : Nat) {m : Nat} (h1 : 1 ≤ m)
    (h2 : m ≤ 16) :
    (m ≠ k → pick (State.debounceChanged old s k).inputs m = pick s.inputs m)
      ∧ (m = k → retimed (pick old.inputs k).debounceMs (pick s.defs.links.inputs k).debounceMs (pick s.inputs m)
          (pick (State.debounceChanged old s k).inputs m)) := by
  unfold State.debounceChanged
  dsimp only
  split
  · next hc =>
    rw [Bool.and_eq_true, bne_iff_ne] at hc
    split
    · rw [takeInput_inputs_config (s := { s with freeCount := s.freeCount + 1 }) hm,
        inputTaken_inputs { s with freeCount := s.freeCount + 1 } k h1 h2]
      refine ⟨fun e => if_neg e, fun e => ?_⟩
      rw [if_pos e]
      exact ⟨rfl, fun ht => absurd (e ▸ ht) (by rw [hc.1]; decide), fun _ _ _ => rfl⟩
    · next hl =>
      exact ⟨fun _ => rfl, fun e => ⟨rfl, fun _ => rfl, fun _ ha _ => absurd (Nat.le_trans (Nat.le_of_eq ha) (Nat.zero_le _)) hl⟩⟩
  · next hc =>
    refine ⟨fun _ => rfl, fun e => ⟨rfl, fun _ => rfl, fun ht ha hb => absurd ?_ hc⟩⟩
    rw [Bool.and_eq_true, bne_iff_ne, ha]
    exact ⟨e ▸ ht, fun e => hb e.symm⟩

/-- In CONFIG, of the link settings, an input taken changes nothing. -/
theorem debounceChanged_defs {s : State} (old : LinkSettings) (hm : s.mode = .config) (k : Nat) :
    (State.debounceChanged old s k).defs = s.defs :=
  (congrArg State.defs (debounceChanged_config old hm k).view :)

theorem replaceLinks_inputs {s : State} (l : LinkSettings) (hm : s.mode = .config) {k : Nat} (h1 : 1 ≤ k) (h2 : k ≤ 16) :
    retimed (pick s.defs.links.inputs k).debounceMs (pick l.inputs k).debounceMs (pick s.inputs k)
      (pick (s.replaceLinks l).inputs k) := by
  unfold State.replaceLinks
  refine foldl_at (fun t : State => pick t.inputs k) (fun t => t.mode = .config ∧ t.defs.links = l)
    (retimed (pick s.defs.links.inputs k).debounceMs (pick l.inputs k).debounceMs)
    (State.debounceChanged s.defs.links) k (fun t j ht => ?_) (fun t j ht hj => ?_) (fun t ht => ?_) (numbers 16)
    { s with defs := { s.defs with links := l } } (numbers_nodup 16) (mem_numbers.mpr ⟨h1, h2⟩) ⟨hm, rfl⟩
  · exact ⟨(debounceChanged_config _ ht.1 j).mode.trans ht.1, by rw [debounceChanged_defs _ ht.1]; exact ht.2⟩
  · exact (debounceChanged_inputs _ ht.1 j h1 h2).1 (Ne.symm hj)
  · have := (debounceChanged_inputs s.defs.links ht.1 k h1 h2).2 rfl
    rw [ht.2] at this
    exact this

/-- Settles O9: the fold over the inputs changes each at its own step. -/
theorem defineLinksTaken : Obligations.DefineLinksTaken := by
  unfold Obligations.DefineLinksTaken
  intro tag body s l clamped h hm hl hr
  have handled : defineLinksNow body (s.holding 33#8 tag body) =
      ⟨(s.holding 33#8 tag body).replaceLinks l, some (if clamped then .adjusted else .done, .empty)⟩ := by
    refine (fits_config hl (s := s.holding 33#8 tag body) hm).trans ?_
    rw [hr]; rfl
  have alone := replaceLinks_config (s := s.holding 33#8 tag body) l hm
  have each : ∀ k, 1 ≤ k → k ≤ 16 → _ := fun k k1 k2 =>
    replaceLinks_inputs (s := s.holding 33#8 tag body) l hm k1 k2
  generalize (s.holding 33#8 tag body).replaceLinks l = u at handled alone each
  obtain ⟨t, hx, ht, ha, -⟩ := serve_answered h handled alone.host
  refine ⟨t, hx, ?_, ha, fun k k1 k2 => ?_⟩
  · exact eq_of_butInputs (x := { s with defs := { s.defs with links := l } }) ht alone.view
  · have hi : t.inputs = u.inputs := by rw [ht]
    rw [hi]
    exact each k k1 k2

/-! ## The settings store (R192) -/

theorem recall_fields (s : State) (d : Definitions) {b f : Nat} (b1 : 1 ≤ b) (b2 : b ≤ 8) (f1 : 1 ≤ f)
    (f2 : f ≤ 12) : pick (pick (s.recall d).fields b) f = { pick (pick s.fields b) f with text := [] } := by
  unfold State.recall
  dsimp only
  rw [pick_alterAll _ _ b1 b2, pick_alterAll _ _ f1 f2]

/-- R192: RECALL SETTINGS changes the definitions, the trackers and the texts; of the inputs those being timed, and what
follows of notices. -/
theorem recall_view {s : State} (d : Definitions) (hm : s.mode = .config) :
    (s.recall d).butInputs =
        ({ s with defs := d, trackers := Vector.replicate 4 startTracker, fields := (s.recall d).fields } : State).butInputs
      ∧ s.host.Notified (s.recall d).host := by
  have links := replaceLinks_config (s := { s with defs := { d with links := s.defs.links } }) d.links hm
  unfold State.recall
  dsimp only
  refine ⟨?_, links.host⟩
  have hv := links.view
  generalize State.replaceLinks { s with defs := { d with links := s.defs.links } } d.links = u at hv
  exact (congrArg (fun y : State => ({ y with
    trackers := Vector.replicate 4 startTracker
    fields := alterAll s.fields fun _ row => alterAll row fun _ x => { x with text := [] } } : State).butInputs) hv :)

/-- Settles O15. -/
theorem settingsStoreTaken : Obligations.SettingsStoreTaken := by
  unfold Obligations.SettingsStoreTaken
  refine fun tag s hm => ⟨fun h => ?_, fun agrees r rest hs hv hq hroom => ?_, fun d h hd => ?_, fun h hn => ?_⟩
  · show serve 19#8 tag [] (storeSettingsNow []) s = _
    have handled : storeSettingsNow [] (s.holding 19#8 tag []) =
        ⟨{ s.holding 19#8 tag [] with
          store := none, host := { s.host.holding 19#8 tag [] with serving := .storing } }, none⟩ :=
      fits_config (s := s.holding 19#8 tag []) rfl hm
    unfold State.holding at handled
    rw [serve_of_turn h, serveNow_eq, handled]
  · show execStoreComplete agrees s = _
    unfold execStoreComplete
    rw [settled_takeDue hs]
    dsimp only
    rw [hv, hq]
    dsimp only
    unfold State.modHost HostLink.answer
    dsimp only
    rw [if_pos hroom]
  · have handled : recallSettingsNow [] (s.holding 20#8 tag []) =
        ⟨(s.holding 20#8 tag []).recall d, some (.done, .empty)⟩ := by
      refine (fits_config (s := s.holding 20#8 tag []) rfl hm).trans ?_
      have hd : (s.holding 20#8 tag []).store = some d := hd
      rw [hd]; rfl
    obtain ⟨view, notified⟩ := recall_view (s := s.holding 20#8 tag []) d hm
    have texts : ∀ b f, 1 ≤ b → b ≤ 8 → 1 ≤ f → f ≤ 12 → _ := fun b f b1 b2 f1 f2 =>
      recall_fields (s.holding 20#8 tag []) d b1 b2 f1 f2
    generalize (s.holding 20#8 tag []).recall d = u at handled view notified texts
    obtain ⟨t, hx, ht, ha, -⟩ := serve_answered h handled notified
    have hf : t.fields = u.fields := by rw [ht]
    refine ⟨t, hx, ha, ?_, by rw [hf]; exact texts⟩
    rw [hf]
    exact eq_of_butInputs
      (x := { s with defs := d, trackers := Vector.replicate 4 startTracker, fields := u.fields }) ht view
  · refine serve_refused h ((fits_config (s := s.holding 20#8 tag []) rfl hm).trans ?_)
    have none : (s.holding 20#8 tag []).store = none := hn
    rw [none]

/-! ## SET CLOCK and SET REPORTS (R184, R194) -/

theorem recompose_config {s : State} (hm : s.mode = .config) (p : FieldKind → Bool) : s.recompose p = s := by
  unfold State.recompose; rw [if_neg (by rw [hm]; decide)]

/-- Settles O16. -/
theorem setClockAndReportsTaken : Obligations.SetClockAndReportsTaken := by
  unfold Obligations.SetClockAndReportsTaken
  refine fun tag body s => ⟨fun h hl hv => ?_, fun h hl hv => ?_, fun mask h hl hr => ?_⟩
  · have handled : setClockNow body (s.holding 22#8 tag body) =
        ⟨(s.holding 22#8 tag body).setTime (tripleAt body 0),
          some (.done, .clock s.timeOfDay (tripleAt body 0))⟩ :=
      (ofLength_fits hl ..).trans (if_pos hv)
    have view := recompose_butBoards
      { s.holding 22#8 tag body with timeOfDay := tripleAt body 0, tenths := 0, clockSet := true } FieldKind.readsTime
    have shows : Shows (s.holding 22#8 tag body) ((s.holding 22#8 tag body).setTime (tripleAt body 0)) :=
      .trans (t := { s.holding 22#8 tag body with timeOfDay := tripleAt body 0, tenths := 0, clockSet := true })
        (.of_eq rfl rfl rfl) (recompose_shows ..)
    have inConfig : s.mode = .config → (s.holding 22#8 tag body).setTime (tripleAt body 0) =
        { s.holding 22#8 tag body with timeOfDay := tripleAt body 0, tenths := 0, clockSet := true } := fun hm =>
      recompose_config
        (s := { s.holding 22#8 tag body with timeOfDay := tripleAt body 0, tenths := 0, clockSet := true }) hm _
    unfold State.setTime at handled shows inConfig
    generalize State.recompose { s.holding 22#8 tag body with
      timeOfDay := tripleAt body 0, tenths := 0, clockSet := true } FieldKind.readsTime = u at handled view shows inConfig
    have hhost : u.host = s.host.holding 22#8 tag body := (congrArg State.host view :)
    refine ⟨_, serve_handled h handled, ?_, ⟨?_, fun b _ _ => shows.boards b, fun b f _ _ _ _ => shows.fields b f, rfl⟩,
      ?_, fun hm => ?_⟩
    · exact (congrArg (fun y : State => { y with
        boards := u.boards, fields := u.fields
        host := u.host.answer (.reply tag 22#8 .done (.clock s.timeOfDay (tripleAt body 0))) }) view :)
    · exact eq_of_butShown (congrArg State.butShown view :)
    · show u.host.answer _ = _
      rw [hhost]; rfl
    · rw [inConfig hm]; exact ⟨rfl, rfl⟩
  · exact serve_refused h ((ofLength_fits hl ..).trans (if_neg (by omega)))
  · have handled : setReportsNow body (s.holding 23#8 tag body) =
        ⟨(s.holding 23#8 tag body).modHost fun x => { x with reports := mask }, some (.done, .reports mask)⟩ := by
      refine (ofLength_fits hl ..).trans ?_
      rw [hr]; rfl
    refine ⟨_, serve_handled h handled, rfl, ?_, ?_⟩
    · exact (congrArg HostLink.reports
        (answer_flows { s.host.holding 23#8 tag body with reports := mask } _) :)
    · exact answeredLast_of_queues
        (k := ((s.holding 23#8 tag body).modHost fun x => { x with reports := mask }).host) h (holding_outbound ..) rfl rfl

end Sys2Proof.Machine
end

section
/-! PROOFS. Announcing: the zone announcements follow a stop request and the shift state (R89). -/

namespace Sys2Proof.Machine

/-! ## One zone on one loop -/

theorem mem_insertAscending {k x : Nat} {xs : List Nat} : x ∈ insertAscending k xs ↔ x = k ∨ x ∈ xs := by
  induction xs with
  | nil => simp [insertAscending]
  | cons y ys ih =>
    unfold insertAscending
    split
    · simp
    · split
      · next h => subst h; simp
      · rw [List.mem_cons, ih, List.mem_cons]
        exact or_left_comm

theorem loopOf_stationAt {l : LoopId} {a : Nat} (h1 : 1 ≤ a) (h2 : a ≤ 48) : loopOf (stationAt l a) = l := by
  cases l
  · exact if_pos h2
  · exact if_neg (show ¬ a + 48 ≤ 48 by omega)

theorem stationAt_within {l : LoopId} {a : Nat} (h1 : 1 ≤ a) (h2 : a ≤ 48) :
    1 ≤ stationAt l a ∧ stationAt l a ≤ 96 := by
  cases l
  · exact ⟨h1, Nat.le_trans h2 (by decide)⟩
  · exact ⟨Nat.le_trans h1 (Nat.le_add_right ..), Nat.add_le_add_right h2 48⟩

theorem stationAt_addressOf (n : Nat) : stationAt (loopOf n) (addressOf n) = n := by
  unfold loopOf addressOf
  split
  · rfl
  · show n - 48 + 48 = n; omega

theorem addressOf_within {n : Nat} (h1 : 1 ≤ n) (h2 : n ≤ 96) : 1 ≤ addressOf n ∧ addressOf n ≤ 48 := by
  unfold addressOf; split <;> omega

theorem zoneOnLoop_iff {s : State} {l : LoopId} {z : Nat} :
    zoneOnLoop s l z = true ↔ ∃ n x, 1 ≤ n ∧ n ≤ 96 ∧ loopOf n = l ∧ s.stationDef n = some x ∧ x.zone = z := by
  unfold zoneOnLoop
  rw [List.any_eq_true]
  constructor
  · rintro ⟨a, ha, hz⟩
    rw [mem_numbers] at ha
    obtain ⟨h1, h2⟩ := stationAt_within (l := l) ha.1 ha.2
    split at hz
    · next d hd => exact ⟨stationAt l a, d, h1, h2, loopOf_stationAt ha.1 ha.2, hd, by simpa using hz⟩
    · cases hz
  · rintro ⟨n, x, h1, h2, rfl, hx, hz⟩
    refine ⟨addressOf n, mem_numbers.mpr (addressOf_within h1 h2), ?_⟩
    rw [stationAt_addressOf, hx]
    simpa using hz

theorem modLoop_loop_same (s : State) (l : LoopId) (f : LoopState → LoopState) : (s.modLoop l f).loop l = f (s.loop l) := by
  cases l <;> rfl

theorem modLoop_loop_other (s : State) {l m : LoopId} (f : LoopState → LoopState) (h : m ≠ l) :
    (s.modLoop l f).loop m = s.loop m := by
  cases l <;> cases m <;> first | rfl | exact absurd rfl h

/-- What a loop holds for a zone: its text, and whether the zone is owed. -/
def zoneHeld (l : LoopId) (z : Nat) (s : State) : Text × Prop :=
  (pick (s.loop l).announcements z, z ∈ (s.loop l).zonesOwed)

/-- R89: the loop holds for the zone the text of the state it is in, and is owed it where that is a new text. -/
def zoneTold (s : State) (l : LoopId) (z : Nat) (x y : Text × Prop) : Prop :=
  y.1 = announcement s z ∧ (y.2 ↔ x.2 ∨ (announcement s z ≠ x.1 ∧ zoneOnLoop s l z = true))

/-- Another zone, or the zone on the other loop, is as it was. -/
theorem announceZone_other (s : State) {l m : LoopId} {z k : Nat} (h : ¬ (m = l ∧ k = z)) :
    zoneHeld m k (announceZone s l z) = zoneHeld m k s := by
  unfold announceZone
  dsimp only
  split
  · rfl
  · by_cases hl : m = l
    · subst hl
      have hk : k ≠ z := fun e => h ⟨rfl, e⟩
      unfold zoneHeld
      rw [modLoop_loop_same]
      dsimp only
      refine Prod.ext ?_ (propext ?_)
      · show pick (alter _ z _) k = _
        rw [pick_alter]; exact if_neg fun e => hk e.1
      · show k ∈ ite _ _ _ ↔ _
        split
        · rw [mem_insertAscending]; exact or_iff_right hk
        · rfl
    · unfold zoneHeld
      rw [modLoop_loop_other _ _ hl]

theorem announceZone_same (s : State) (l : LoopId) {z : Nat} (h1 : 1 ≤ z) (h2 : z ≤ 24) :
    zoneTold s l z (zoneHeld l z s) (zoneHeld l z (announceZone s l z)) := by
  unfold announceZone zoneTold
  dsimp only
  split
  · next h => exact ⟨h, (or_iff_left fun k => k.1 h.symm).symm⟩
  · next h =>
    unfold zoneHeld
    rw [modLoop_loop_same]
    dsimp only
    refine ⟨?_, ?_⟩
    · rw [pick_alter]; exact if_pos ⟨rfl, h1, h2⟩
    · split
      · next hz => rw [mem_insertAscending]; exact ⟨fun _ => .inr ⟨fun e => h e.symm, hz⟩, fun _ => .inl rfl⟩
      · next hz => exact (or_iff_left fun k => hz k.2).symm

/-! ## The announcements of a list of zones -/

theorem announcement_congr {s t : State} (h : t.butLoops = s.butLoops) (z : Nat) : announcement t z = announcement s z :=
  (congrArg (fun y : State => announcement y z) h :)

theorem zoneTold_congr {s t : State} (h : t.butLoops = s.butLoops) (l : LoopId) (z : Nat) (x y : Text × Prop) :
    zoneTold t l z x y ↔ zoneTold s l z x y :=
  (Iff.of_eq (congrArg (fun u : State => zoneTold u l z x y) h) :)

/-- R89: one zone on both loops. -/
def announceBoth (s : State) (z : Nat) : State := announceZone (announceZone s .a z) .b z

theorem announceBoth_other (s : State) {l : LoopId} {z k : Nat} (h : k ≠ z) :
    zoneHeld l k (announceBoth s z) = zoneHeld l k s := by
  unfold announceBoth
  rw [announceZone_other _ fun e => h e.2, announceZone_other _ fun e => h e.2]

theorem announceBoth_butLoops (s : State) (z : Nat) : (announceBoth s z).butLoops = s.butLoops :=
  (announceZone_butLoops ..).trans (announceZone_butLoops ..)

theorem announceBoth_same (s : State) (l : LoopId) {z : Nat} (h1 : 1 ≤ z) (h2 : z ≤ 24) :
    zoneTold s l z (zoneHeld l z s) (zoneHeld l z (announceBoth s z)) := by
  unfold announceBoth
  cases l with
  | a =>
    rw [announceZone_other _ fun e => by cases e.1]
    exact announceZone_same s .a h1 h2
  | b =>
    have := announceZone_same (announceZone s .a z) .b h1 h2
    rw [announceZone_other s (m := .b) fun e => by cases e.1] at this
    exact (zoneTold_congr (announceZone_butLoops s .a z) ..).mp this

theorem announce_eq {s : State} (hm : s.mode = .run) (zs : List Nat) : s.announce zs = zs.foldl announceBoth s :=
  if_pos hm

/-- R89: the zones of the list are told, the others hold what they held. -/
theorem announce_told {s : State} (hm : s.mode = .run) {zs : List Nat} (hn : zs.Nodup) (l : LoopId) {z : Nat}
    (h1 : 1 ≤ z) (h2 : z ≤ 24) :
    (z ∈ zs → zoneTold s l z (zoneHeld l z s) (zoneHeld l z (s.announce zs)))
      ∧ (z ∉ zs → zoneHeld l z (s.announce zs) = zoneHeld l z s) := by
  rw [announce_eq hm]
  refine ⟨fun hz => ?_, fun hz => ?_⟩
  · exact foldl_at (zoneHeld l z) (fun t => t.butLoops = s.butLoops) (zoneTold s l z) announceBoth z
      (fun t k ht => (announceBoth_butLoops t k).trans ht) (fun t k _ hk => announceBoth_other t (Ne.symm hk))
      (fun t ht => (zoneTold_congr ht ..).mp (announceBoth_same t l h1 h2)) zs s hn hz rfl
  · induction zs generalizing s with
    | nil => rfl
    | cons k zs ih =>
      rw [List.mem_cons, not_or] at hz
      rw [List.nodup_cons] at hn
      have hmode : (announceBoth s k).mode = s.mode := (congrArg State.mode (announceBoth_butLoops s k) :)
      rw [List.foldl_cons, ih (hmode.trans hm) hn.2 hz.2, announceBoth_other s hz.1]

/-- Of a loop, all but the announcements and the zones owed. -/
def LoopState.butZones (x : LoopState) : LoopState := { x with announcements := startLoop.announcements, zonesOwed := [] }

theorem announceZone_butZones (s : State) (l m : LoopId) (z : Nat) :
    ((announceZone s l z).loop m).butZones = (s.loop m).butZones := by
  unfold announceZone
  dsimp only
  split
  · rfl
  · by_cases hl : m = l
    · subst hl; rw [modLoop_loop_same]; rfl
    · rw [modLoop_loop_other _ _ hl]

theorem announce_butZones (s : State) (zs : List Nat) (l : LoopId) :
    ((s.announce zs).loop l).butZones = (s.loop l).butZones := by
  unfold State.announce
  split
  · exact foldl_keeps (fun s : State => (s.loop l).butZones) _
      (fun s z => (announceZone_butZones ..).trans (announceZone_butZones ..)) zs s
  · rfl

theorem eq_of_butZones {x y : LoopState} (h : y.butZones = x.butZones) :
    y = { x with announcements := y.announcements, zonesOwed := y.zonesOwed } :=
  (congrArg (fun u : LoopState => { u with announcements := y.announcements, zonesOwed := y.zonesOwed }) h :)

/-! ## What the announcements follow -/

/-- The part of the state that the announcements read and are. -/
structure AnnounceView where
  mode : Mode
  defs : Definitions
  shiftState : ShiftState
  loopA : LoopState
  loopB : LoopState
  request : Nat → Bool

def State.announceView (s : State) : AnnounceView :=
  ⟨s.mode, s.defs, s.shiftState, s.loopA, s.loopB, fun n => (pick s.stops n).request⟩

theorem announceView_loop {s t : State} (h : t.announceView = s.announceView) (l : LoopId) : t.loop l = s.loop l := by
  cases l
  · exact (congrArg AnnounceView.loopA h :)
  · exact (congrArg AnnounceView.loopB h :)

theorem announceView_request {s t : State} (h : t.announceView = s.announceView) (n : Nat) :
    (pick t.stops n).request = (pick s.stops n).request := congrFun (congrArg AnnounceView.request h) n

/-- R89: whether the announcements have followed is read off what they read and are. -/
theorem loopsAnnounce_congr {s t s' t' : State} (hs : s'.announceView = s.announceView)
    (ht : t'.announceView = t.announceView) (h : loopsAnnounce s t) : loopsAnnounce s' t' := by
  have hm : s'.mode = s.mode := (congrArg AnnounceView.mode hs :)
  have hd : s'.defs = s.defs := (congrArg AnnounceView.defs hs :)
  have hst : s'.shiftState = s.shiftState := (congrArg AnnounceView.shiftState hs :)
  have htt : t'.shiftState = t.shiftState := (congrArg AnnounceView.shiftState ht :)
  unfold loopsAnnounce zonesAnnounced State.zoneDef State.stationDef at *
  simp only [announceView_loop hs, announceView_loop ht, announceView_request hs, announceView_request ht, hm, hd, hst,
    htt]
  exact h

theorem loopsAnnounce_refl (s : State) : loopsAnnounce s s :=
  ⟨fun _ => rfl, fun _ _ _ _ _ _ _ _ _ => ⟨fun h => absurd h (by simp), fun _ _ => ⟨rfl, .rfl⟩⟩⟩

theorem loopsAnnounce_of_view {s t : State} (h : t.announceView = s.announceView) : loopsAnnounce s t :=
  loopsAnnounce_congr rfl h (loopsAnnounce_refl s)

theorem announcement_eq {s : State} {z : Nat} {d : ZoneDef} (hd : s.zoneDef z = some d) :
    announcement s z = if (pick s.stops d.sec).request = true then bytesOf "STOP"
      else if s.shiftState = .pause then bytesOf "PAUS" else List.replicate 4 0x20#8 := by
  unfold announcement
  rw [hd]
  rfl

/-- R89: announcing just the zones whose section's request, or with the shift state any zone, has changed. -/
theorem loopsAnnounce_announce {s t : State} {zs : List Nat} (hm : t.mode = s.mode) (hd : t.defs = s.defs)
    (hl : ∀ l, t.loop l = s.loop l) (hn : zs.Nodup)
    (hz : ∀ z d, 1 ≤ z → z ≤ 24 → s.zoneDef z = some d → 1 ≤ d.sec → d.sec ≤ 4 →
      (z ∈ zs ↔ t.shiftState ≠ s.shiftState ∨ (pick t.stops d.sec).request ≠ (pick s.stops d.sec).request)) :
    loopsAnnounce s (t.announce zs) := by
  refine ⟨fun l => eq_of_butZones ((announce_butZones t zs l).trans (congrArg LoopState.butZones (hl l))), ?_⟩
  intro hrun l z d z1 z2 hzd d1 d2
  have told := announce_told (hm.trans hrun) hn l z1 z2
  have hzt : t.zoneDef z = some d := by unfold State.zoneDef at *; rw [hd]; exact hzd
  have on : zoneOnLoop t l z = true ↔
      ∃ n x, 1 ≤ n ∧ n ≤ 96 ∧ loopOf n = l ∧ s.stationDef n = some x ∧ x.zone = z := by
    rw [zoneOnLoop_iff]; unfold State.stationDef; rw [hd]
  unfold zoneTold zoneHeld at told
  rw [hl l, announcement_eq hzt] at told
  rw [announce_shiftState, announce_stops]
  refine ⟨fun hc => ?_, fun h1 h2 => ?_⟩
  · obtain ⟨ht, ho⟩ := told.1 ((hz z d z1 z2 hzd d1 d2).mpr hc)
    dsimp only at ht ho
    refine ⟨ht, ?_⟩
    rw [ho, on, ht]
  · have same := told.2 fun hin => by
      rcases (hz z d z1 z2 hzd d1 d2).mp hin with h | h
      · exact h h1
      · exact h h2
    injection same with ht ho
    exact ⟨ht, Iff.of_eq ho⟩

theorem zonesOf_nodup (s : State) (n : Nat) : (zonesOf s n).Nodup := (numbers_nodup 24).filter _

theorem mem_zonesOf {s : State} {n z : Nat} {d : ZoneDef} (h1 : 1 ≤ z) (h2 : z ≤ 24) (hd : s.zoneDef z = some d) :
    z ∈ zonesOf s n ↔ d.sec = n := by
  unfold zonesOf
  rw [List.mem_filter, mem_numbers, hd]
  simp [h1, h2]

/-! ## The operations that the announcements follow -/

theorem notify_view (s : State) (n : Notice) : (s.notify n).announceView = s.announceView :=
  (congrArg State.announceView (notify_butHost s n) :)

theorem handOn_view (s : State) (cs : List Change) : (s.handOn cs).announceView = s.announceView :=
  (congrArg State.announceView (handOn_butEquations s cs) :)

theorem recompose_view (s : State) (p : FieldKind → Bool) : (s.recompose p).announceView = s.announceView :=
  (congrArg State.announceView (recompose_butBoards s p) :)

theorem appendRecord_view (s : State) (e : HistoryEntry) : (s.appendRecord e).announceView = s.announceView :=
  (congrArg State.announceView (appendRecord_butHistory s e) :)

/-- A change of stop logic that leaves the requests. -/
theorem modStop_view (s : State) (n : Nat) {f : StopLogic → StopLogic} (hf : ∀ x, (f x).request = x.request) :
    (s.modStop n f).announceView = s.announceView := by
  unfold State.announceView
  simp only [modStop_mode, modStop_defs, modStop_shiftState, modStop_loopA, modStop_loopB, AnnounceView.mk.injEq, true_and]
  funext m
  rw [modStop_stops, pick_alter]
  split
  · next h => rw [h.1]; exact hf _
  · rfl

/-- R89: the requests of one section changed, and its zones announced. -/
theorem requestTurned_announces (s : State) (n : Nat) {f : StopLogic → StopLogic} {cs : List Change} {b : Bool}
    (hb : (pick s.stops n).request = !b) (hf : ∀ x, (f x).request = b) :
    loopsAnnounce s (((s.modStop n f).handOn cs).announce (zonesOf (s.modStop n f) n)) := by
  have request : ∀ m, 1 ≤ m → m ≤ 4 → (pick (s.modStop n f).stops m).request =
      if m = n then b else (pick s.stops m).request := fun m h1 h2 => by
    rw [modStop_stops, pick_alter_within _ _ h1 h2]; split
    · exact hf _
    · rfl
  have turned := handOn_view (s.modStop n f) cs
  have zones : ∀ z d, 1 ≤ z → z ≤ 24 → s.zoneDef z = some d → (z ∈ zonesOf (s.modStop n f) n ↔ d.sec = n) :=
    fun z d z1 z2 hz => mem_zonesOf (s := s.modStop n f) z1 z2 hz
  have different := zonesOf_nodup (s.modStop n f) n
  generalize zonesOf (s.modStop n f) n = zs at zones different ⊢
  generalize (s.modStop n f).handOn cs = t at turned ⊢
  have hd : t.defs = s.defs := (congrArg AnnounceView.defs turned :)
  refine loopsAnnounce_announce (congrArg AnnounceView.mode turned :) hd (fun l => ?_) different
    fun z d z1 z2 hz d1 d2 => ?_
  · rw [announceView_loop turned]; cases l <;> rfl
  · have hst : t.shiftState = s.shiftState := (congrArg AnnounceView.shiftState turned :)
    rw [zones z d z1 z2 hz, hst, announceView_request turned, request d.sec d1 d2]
    by_cases hn : d.sec = n
    · rw [if_pos hn, hn, hb]; simp
    · rw [if_neg hn]; simp [hn]

theorem assertRequest_announces {s : State} {n : Nat} (h : (pick s.stops n).request = false) :
    loopsAnnounce s (s.assertRequest n) :=
  loopsAnnounce_congr rfl (notify_view ..)
    (requestTurned_announces s n (b := true) (f := fun x => { x with request := true, coast := 0 }) h fun _ => rfl)

theorem releaseRequest_announces {s : State} {n : Nat} (h : (pick s.stops n).request = true) :
    loopsAnnounce s (s.releaseRequest n) :=
  loopsAnnounce_congr rfl (notify_view ..)
    (requestTurned_announces s n (b := false) (f := fun x => { x with request := false }) h fun _ => rfl)

/-- R61, R89: where a stop request is brought in line with its causes, the announcements follow. -/
theorem lineUp_announces (s : State) (n : Nat) : loopsAnnounce s (s.lineUp n) := by
  unfold State.lineUp
  dsimp only
  split
  · exact loopsAnnounce_refl s
  · next h =>
    split
    · next hc =>
      rw [hc] at h
      exact assertRequest_announces (by simpa using h)
    · next hc =>
      rw [Bool.not_eq_true] at hc
      rw [hc] at h
      exact releaseRequest_announces (by simpa using h)

theorem loopsAnnounce_ite {s t u : State} {c : Prop} [Decidable c] (h : loopsAnnounce s t) (k : loopsAnnounce s u) :
    loopsAnnounce s (if c then t else u) := by
  split
  · exact h
  · exact k

theorem causeLeft_announces (s : State) (n : Nat) : loopsAnnounce s (s.causeLeft n) := by
  unfold State.causeLeft
  refine loopsAnnounce_ite (loopsAnnounce_congr (Eq.symm ?_) rfl (lineUp_announces ..)) (lineUp_announces ..)
  exact (notify_view ..).trans ((handOn_view ..).trans (modStop_view _ _ fun _ => rfl))

/-- R89: a new shift state is announced to all zones. -/
theorem shiftChanged_announces {s t : State} (hm : t.mode = s.mode) (hd : t.defs = s.defs)
    (hl : ∀ l, t.loop l = s.loop l) (hst : t.shiftState ≠ s.shiftState) : loopsAnnounce s t.shiftChanged := by
  refine loopsAnnounce_congr rfl ((recompose_view ..).trans (handOn_view ..))
    (loopsAnnounce_announce hm hd hl (numbers_nodup 24) fun z d z1 z2 _ _ _ => ?_)
  exact ⟨fun _ => .inl hst, fun _ => mem_numbers.mpr ⟨z1, z2⟩⟩

end Sys2Proof.Machine
end

section
/-! PROOFS. TimePasses: the outbound queue's flow, targets, periods, seconds, blink turns and escalations. -/

namespace Sys2Proof.Machine

/-! ## What the shared operations leave but what they are shown in -/

theorem notify_butShown (s : State) (n : Notice) : (s.notify n).butShown = s.butShown :=
  (congrArg State.butShown (notify_butHost s n) :)

theorem handOn_butShown (s : State) (cs : List Change) : (s.handOn cs).butShown = s.butShown :=
  (congrArg State.butShown (handOn_butEquations s cs) :)

theorem recompose_butShown (s : State) (p : FieldKind → Bool) : (s.recompose p).butShown = s.butShown :=
  (congrArg State.butShown (recompose_butBoards s p) :)

theorem handBehind_butShown (s b : State) : (s.handBehind b).butShown = s.butShown := by
  unfold State.handBehind; split
  · rfl
  · exact handOn_butShown ..

theorem composeAccount_butShown (s : State) : s.composeAccount.butShown = s.butShown := by
  unfold State.composeAccount; split
  · rfl
  · exact recompose_butShown ..

theorem shiftNotice_butShown (s : State) (c : ShiftCause) : (s.shiftNotice c).butShown = s.butShown := by
  unfold State.shiftNotice; split
  · exact notify_butShown ..
  · rfl

/-- What a command shows that is no request. -/
theorem sameButShown_of_change {s x t : State} (hx : x.boards = s.boards ∧ x.fields = s.fields ∧ x.host = s.host)
    (hu : t.butShown = x.butShown) (sh : Shows s t) : sameButShown x t := by
  obtain ⟨hb, hfl, hh⟩ := hx
  refine ⟨eq_of_butShown hu, fun b _ _ => ?_, fun b f _ _ _ _ => ?_, ?_⟩
  · rw [hb]; exact sh.boards b
  · rw [hfl]; exact sh.fields b f
  · rw [hh]; exact sh.host.flows

/-! ## The outbound queue (R183, R186) -/

/-- R183: a reply that waits for room stays where there is none. -/
theorem answer_of_full {h : HostLink} {f : HostFrame} (hfull : Config.outboundCapacity ≤ h.outbound.length)
    (hs : h.serving = .replyWaits f) : h.answer f = h := by
  unfold HostLink.answer
  rw [if_neg (Nat.not_lt.mpr hfull), ← hs]

/-- R186: the self-pause ends where the third request of the queue becomes its second. -/
theorem resumes_iff (h : HostLink) :
    (h.selfPaused && !h.requests.isEmpty && (h.requests.drop 1).length == Config.selfResumeAt) =
      (h.selfPaused && decide (h.requests.length = 3)) := by
  cases hr : h.requests with
  | nil => simp
  | cons r rest =>
    rw [Bool.eq_iff_iff]
    simp [Config.selfResumeAt]

theorem leave_eq (h : HostLink) :
    h.leave = { h with
      requests := h.requests.drop 1, serving := .free
      selfPaused := h.selfPaused && decide (h.requests.length ≠ 3)
      lastMark := if h.selfPaused = true ∧ h.requests.length = 3 then some .resume else h.lastMark } := by
  unfold HostLink.leave
  dsimp only
  rw [resumes_iff]
  cases h.selfPaused <;> by_cases hl : h.requests.length = 3 <;> simp [hl]

/-- Settles O31. -/
theorem outboundQueueFlows : Obligations.OutboundQueueFlows := by
  unfold Obligations.OutboundQueueFlows
  refine fun s => ⟨fun hs => ?_, fun f hf hroom => ?_⟩
  · have due := settled_takeDue hs
    refine ⟨?_, ?_, fun hn => ?_, fun f rest hn hq => ?_, ?_⟩
    · show Host.Outcome.next (s.takeDue.modHost _) = _
      rw [due]; rfl
    · show Host.Outcome.next (s.takeDue.modHost _) = _
      rw [due]; rfl
    · show Host.Outcome.next (s.takeDue.modHost _) = _
      rw [due]
      unfold State.modHost HostLink.frameSent
      rw [hn]; rfl
    · show Host.Outcome.next (s.takeDue.modHost _) = _
      rw [due]
      unfold State.modHost HostLink.frameSent
      rw [hn, hq]; rfl
    · show Host.Outcome.next s.takeReply = _
      obtain ⟨-, -, -, -, -, -, -, -, -, h⟩ := settled_iff.mp hs
      unfold State.takeReply
      split
      · next f hf =>
        unfold State.modHost
        dsimp only
        rw [answer_of_full (h f hf) hf]
      · rfl
  · show Host.Outcome.next s.takeReply = _
    unfold State.takeReply
    rw [hf]
    unfold State.modHost HostLink.answer
    dsimp only
    rw [if_pos (show s.host.outbound.length < Config.outboundCapacity from hroom), leave_eq]
    rfl

/-! ## Lamps (R26, R88) -/

theorem lampOf_congr {s t : State} (hc : t.calls = s.calls) (hd : t.defs = s.defs) (n : Nat) : lampOf t n = lampOf s n := by
  show lampOf { State.reset with calls := t.calls, defs := t.defs } n = lampOf { State.reset with calls := s.calls, defs := s.defs } n
  rw [hc, hd]

theorem callsChanged_station (s : State) (c : Call) (full : Bool) {n : Nat} (h1 : 1 ≤ n) (h2 : n ≤ 96) :
    pick (s.callsChanged c full).stations n =
      if c.origin = .station n then { pick s.stations n with lamp := lampOf s n } else pick s.stations n := by
  unfold State.callsChanged
  simp only [recompose_stations, handOn_stations]
  cases ho : c.origin with
  | tag k => rw [if_neg nofun]
  | station k =>
    dsimp only
    rw [modStation_stations, pick_alter_within _ _ h1 h2]
    by_cases hk : n = k
    · subst hk; rw [if_pos rfl, if_pos rfl]
    · rw [if_neg hk, if_neg fun e => hk (by injection e with e; exact e.symm)]

/-- R26: the lamp follows where the one change of the calls has been told. -/
theorem lampFollows_of_changed {s u t : State} {c now : Call} {full : Bool} (hu : u.stations = s.stations)
    (ho : now.origin = c.origin) (ht : t.stations = (u.callsChanged now full).stations) (hc : t.calls = u.calls)
    (hd : t.defs = u.defs) : lampFollows c s t := by
  intro n h1 h2
  rw [ht, callsChanged_station _ _ _ h1 h2, ho, hu, lampOf_congr hc hd]

/-! ## Changes of the call table (R5, R61) -/

/-- The part of the state that the announcements read and are, and stop logic. -/
def State.lineView (s : State) : State :=
  { State.reset with
    mode := s.mode, defs := s.defs, shiftState := s.shiftState, loopA := s.loopA, loopB := s.loopB, stops := s.stops }

theorem notify_lineView (s : State) (n : Notice) : (s.notify n).lineView = s.lineView :=
  (congrArg State.lineView (notify_butHost s n) :)

theorem handOn_lineView (s : State) (cs : List Change) : (s.handOn cs).lineView = s.lineView :=
  (congrArg State.lineView (handOn_butEquations s cs) :)

theorem recompose_lineView (s : State) (p : FieldKind → Bool) : (s.recompose p).lineView = s.lineView :=
  (congrArg State.lineView (recompose_butBoards s p) :)

theorem appendRecord_lineView (s : State) (e : HistoryEntry) : (s.appendRecord e).lineView = s.lineView :=
  (congrArg State.lineView (appendRecord_butHistory s e) :)

theorem callsChanged_lineView (s : State) (c : Call) (full : Bool) : (s.callsChanged c full).lineView = s.lineView := by
  unfold State.callsChanged
  refine (recompose_lineView ..).trans ((handOn_lineView ..).trans ?_)
  split <;> rfl

theorem noticeOf_lineView (s : State) (x : CallChange) (n : Nat) : (s.noticeOf x n).lineView = s.lineView := by
  unfold State.noticeOf; split
  · exact notify_lineView ..
  · rfl

/-- What an operation on a standing call leaves is all but what it is shown in, the call table, the stations, stop logic
and the loops. -/
theorem butShown_of_change {s t : State} (h : t.butChange = s.butChange) :
    t.butShown = ({ s with
      calls := t.calls, stations := t.stations, stops := t.stops, loopA := t.loopA, loopB := t.loopB } : State).butShown :=
  (congrArg (fun y : State => ({ y with
    calls := t.calls, stations := t.stations, stops := t.stops, loopA := t.loopA, loopB := t.loopB } : State).butShown) h :)

/-- … and where the line is untouched, all but the call table and the stations. -/
theorem butShown_of_table {s t : State} (h : t.butChange = s.butChange) (hl : t.lineView = s.lineView) :
    t.butShown = ({ s with calls := t.calls, stations := t.stations } : State).butShown := by
  have h1 : t.stops = s.stops := (congrArg State.stops hl :)
  have h2 : t.loopA = s.loopA := (congrArg State.loopA hl :)
  have h3 : t.loopB = s.loopB := (congrArg State.loopB hl :)
  rw [butShown_of_change h, h1, h2, h3]

/-! ## Escalations (R99) -/

theorem climb_lineView (s : State) (k : Nat) : (s.climb k).lineView = s.lineView := by
  unfold State.climb; split
  · rfl
  · exact (noticeOf_lineView ..).trans (callsChanged_lineView ..)

theorem climb_lamps {s : State} {c : Call} (h : s.callOf c.number = some c) : lampFollows c s (s.climb c.number) := by
  refine lampFollows_of_changed (u := s.modCall c.number fun _ => climbed s c) (now := climbed s c) (full := false) rfl rfl
    ?_ ?_ ?_
  · unfold State.climb; rw [h]; exact noticeOf_stations ..
  · rw [climb_calls h]; rfl
  · exact (congrArg State.defs (climb_butChange s c.number) :)

/-- Settles O36: the first expired timer is that of the first call that `find?` gives. -/
theorem escalationTaken : Obligations.EscalationTaken := by
  unfold Obligations.EscalationTaken
  have head : ∀ s : State, (expiredTimers s).head? = (s.calls.find? fun c => c.timer == some 0).map (·.number) :=
    fun s => by unfold expiredTimers; rw [List.head?_map, List.head?_filter]
  refine fun s => ⟨fun c hc hn => ?_, fun hc => ?_⟩
  · have taken : s.takeEscalation = s.climb c.number := by
      have := head s
      rw [hc] at this
      unfold State.takeEscalation
      cases he : expiredTimers s with
      | nil => rw [he] at this; cases this
      | cons k ks => rw [he] at this; cases this; rfl
    refine ⟨_, climbed s c, congrArg Host.Outcome.next taken, rfl, fun l hl => ?_, fun hl => ?_, ?_, climb_lamps hn⟩
    · unfold climbed; rw [hl]
    · unfold climbed; rw [hl]
    · refine sameButShown_of_change (s := s) ⟨rfl, rfl, rfl⟩ ?_ (ByOps.climb s c.number).shows
      rw [butShown_of_table (climb_butChange s c.number) (climb_lineView s c.number), climb_calls hn]
  · have none : expiredTimers s = [] := by
      have := head s
      rw [hc] at this
      exact List.head?_eq_none_iff.mp this
    show Host.Outcome.next s.takeEscalation = _
    unfold State.takeEscalation; rw [none]

/-! ## Targets and periods (R126, R127) -/

theorem targetDue_iff {s : State} {sh : Shift} (h : s.shift = some sh) :
    targetDue s = true ↔ sh.takt ≤ sh.fraction ∧ sh.target < sh.volume := by
  unfold targetDue; rw [h]; simp

/-- R130: the account with the unit that the fraction filled. -/
def unitCounted (sh : Shift) : Shift :=
  { sh with
    target := sh.target + 1
    fraction := if sh.volume ≤ sh.target + 1 then 0 else sh.fraction - sh.takt }

theorem takeTarget_due {s : State} {sh : Shift} (h : s.shift = some sh) (hd : targetDue s = true) :
    s.takeTarget.butShown = ({ s with shift := some (unitCounted sh) } : State).butShown
      ∧ s.takeTarget.host = s.host ∧ Shows s s.takeTarget := by
  have ops : ByOps s s.takeTarget := by
    unfold State.takeTarget
    exact .ite ((ByOps.modShift s _).trans ((ByOps.handBehind ..).trans (ByOps.composeAccount ..))) (.refl s)
  have counted : s.modShift unitCounted = { s with shift := some (unitCounted sh) } := by
    unfold State.modShift; rw [h]; rfl
  refine ⟨?_, ?_, ops.shows⟩
  · unfold State.takeTarget
    rw [if_pos hd]
    exact (composeAccount_butShown ..).trans ((handBehind_butShown ..).trans (congrArg State.butShown counted))
  · unfold State.takeTarget
    rw [if_pos hd]
    unfold State.composeAccount State.handBehind
    dsimp only
    split <;> split <;> simp

end Sys2Proof.Machine
end

section
/-! PROOFS. TicksTaken: targets, periods, seconds, blink turns, and what a tick books, lowers and accrues. -/

namespace Sys2Proof.Machine

/-! ## Periods (R127) -/

theorem periodDue_iff {s : State} {sh : Shift} (h : s.shift = some sh) : periodDue s = true ↔ sh.remaining = some 0 := by
  unfold periodDue; rw [h]; simp

theorem nextPeriod_some {sh : Shift} {i : Nat} {p : Period} (hi : sh.index = some i) (hp : sh.plan[i]? = some p) :
    nextPeriod sh = ({ sh with index := some (i + 1), remaining := some (p.minutes * 600) }, p.kind.toShift) := by
  unfold nextPeriod; rw [hi, Option.getD_some, hp]

theorem nextPeriod_none {sh : Shift} {i : Nat} (hi : sh.index = some i) (hp : sh.plan[i]? = none) :
    nextPeriod sh = ({ sh with index := none, remaining := none }, .overtime) := by
  unfold nextPeriod; rw [hi, Option.getD_some, hp]

theorem shiftChanged_butShown (s : State) : s.shiftChanged.butShown =
    ({ s with loopA := s.shiftChanged.loopA, loopB := s.shiftChanged.loopB } : State).butShown := by
  have h : s.shiftChanged.butShown.butLoops = s.butShown.butLoops := by
    refine (congrArg State.butLoops (recompose_butShown ..)).trans ((congrArg State.butLoops (handOn_butShown ..)).trans ?_)
    exact (congrArg State.butShown (announce_butLoops s (numbers 24)) :)
  generalize s.shiftChanged = t at h ⊢
  exact (congrArg (fun y : State => { y with loopA := t.loopA, loopB := t.loopB }) h :)

/-- R127: the state with the account and the shift state of a period that has begun. -/
def State.inPeriod (s : State) (next : Shift × ShiftState) : State :=
  { s with shift := some next.1, shiftState := next.2 }

/-- R127: the next period, or OVERTIME, with what follows of it. -/
theorem takePeriod_due {s : State} {sh : Shift} (h : s.shift = some sh) (ht : targetDue s = false)
    (hp : periodDue s = true) :
    (∃ a b : LoopState, s.takePeriod.butShown =
        ({ s.inPeriod (nextPeriod sh) with loopA := a, loopB := b } : State).butShown)
      ∧ loopsAnnounce s s.takePeriod ∧ Shows s s.takePeriod := by
  have taken : s.takePeriod = State.shiftNotice (if (nextPeriod sh).2 = s.shiftState
      then (s.inPeriod (nextPeriod sh)).recompose FieldKind.readsAccount
      else (s.inPeriod (nextPeriod sh)).shiftChanged) .period := by
    unfold State.takePeriod
    rw [takeTarget_of_not_due ht]
    dsimp only
    rw [h]
    dsimp only
    rw [if_pos hp]
    rfl
  have begun : Shows s (s.inPeriod (nextPeriod sh)) := .of_eq rfl rfl rfl
  rw [taken]
  refine ⟨?_, ?_, ?_⟩
  · split
    · exact ⟨s.loopA, s.loopB, (shiftNotice_butShown ..).trans (recompose_butShown ..)⟩
    · exact ⟨_, _, (shiftNotice_butShown ..).trans (shiftChanged_butShown ..)⟩
  · have told : ∀ u : State, (u.shiftNotice .period).announceView = u.announceView := fun u => by
      unfold State.shiftNotice; split
      · exact notify_view ..
      · rfl
    refine loopsAnnounce_congr rfl (told _) ?_
    split
    · next he =>
      refine loopsAnnounce_of_view ((recompose_view ..).trans ?_)
      unfold State.announceView State.inPeriod
      rw [he]
    · next hne => exact shiftChanged_announces (s := s) rfl rfl (fun l => by cases l <;> rfl) hne
  · refine begun.trans (.trans ?_ (ByOps.shiftNotice ..).shows)
    exact .ite (recompose_shows ..) (ByOps.shiftChanged _).shows

/-- Settles O34. -/
theorem targetUnitAndPeriodTaken : Obligations.TargetUnitAndPeriodTaken := by
  unfold Obligations.TargetUnitAndPeriodTaken
  intro s sh h
  have notDue : sh.fraction < sh.takt ∨ sh.volume ≤ sh.target → targetDue s = false := fun hc => by
    rw [← Bool.not_eq_true, targetDue_iff h]; omega
  refine ⟨fun h1 h2 => ?_, fun hc => ?_, fun i hc hr hi => ?_, fun hc hr => ?_⟩
  · obtain ⟨hb, hh, hs⟩ := takeTarget_due h ((targetDue_iff h).mpr ⟨h1, h2⟩)
    refine ⟨s.takeTarget, rfl, sameButShown_of_change (s := s) ⟨rfl, rfl, rfl⟩ (hb.trans ?_) hs, hh⟩
    unfold unitCounted
    rw [if_congr (show sh.volume ≤ sh.target + 1 ↔ sh.target + 1 = sh.volume by omega) rfl rfl]
  · exact congrArg Host.Outcome.next (takeTarget_of_not_due (notDue hc))
  · obtain ⟨⟨a, b, hb⟩, hl, hs⟩ := takePeriod_due h (notDue hc) ((periodDue_iff h).mpr hr)
    have ha : s.takePeriod.loopA = a := (congrArg State.loopA hb :)
    have hbb : s.takePeriod.loopB = b := (congrArg State.loopB hb :)
    have hsh : s.takePeriod.shift = some (nextPeriod sh).1 := (congrArg State.shift hb :)
    have hst : s.takePeriod.shiftState = (nextPeriod sh).2 := (congrArg State.shiftState hb :)
    refine ⟨s.takePeriod, rfl, sameButShown_of_change (s := s) ⟨rfl, rfl, rfl⟩ ?_ hs, hl, fun p hp => ?_, fun hp => ?_⟩
    · rw [hsh, hst, ha, hbb]; exact hb
    · rw [hst, hsh, nextPeriod_some hi hp]; exact ⟨rfl, rfl⟩
    · rw [hst, hsh, nextPeriod_none hi hp]; exact ⟨rfl, rfl⟩
  · have := periodDue_iff h
    exact congrArg Host.Outcome.next (takePeriod_of_not_due (notDue hc) (by rw [← Bool.not_eq_true, this]; exact hr))

/-! ## Seconds and blink turns (R102, R194) -/

theorem eq_of_butEquations {x t : State} (h : t.butEquations = x.butEquations) :
    t = { x with equations := t.equations, flags := t.flags, relays := t.relays, tunes := t.tunes } :=
  (congrArg (fun y : State => { y with
    equations := t.equations, flags := t.flags, relays := t.relays, tunes := t.tunes }) h :)

/-- R102: the blink levels after one turn, not yet told. -/
def State.blinkTurned (s : State) : State :=
  let turnsSlow := decide (3 ≤ s.blinkPhase)
  { s with blinkFast := !s.blinkFast, blinkSlow := s.blinkSlow != turnsSlow
           blinkPhase := if turnsSlow then 0 else s.blinkPhase + 1 }

theorem blinkTurn_eq (s : State) : s.blinkTurn = s.blinkTurned.handOn [.blink] := rfl

theorem blinkTurned_eq (s : State) : s.blinkTurned = { s with
    blinkFast := !s.blinkFast
    blinkSlow := if 3 ≤ s.blinkPhase then !s.blinkSlow else s.blinkSlow
    blinkPhase := if 3 ≤ s.blinkPhase then 0 else s.blinkPhase + 1 } := by
  unfold State.blinkTurned
  by_cases h3 : 3 ≤ s.blinkPhase <;> simp [h3]

/-- Settles O35. -/
theorem secondAndBlinkTaken : Obligations.SecondAndBlinkTaken := by
  unfold Obligations.SecondAndBlinkTaken
  refine fun s => ⟨fun h => ?_, fun h => ?_, fun hs => ?_⟩
  · have due : s.takeSecond = { s with timeOfDay := wrap 86399 s.timeOfDay, tenths := 0 }.recompose
        FieldKind.readsTime := if_pos (by unfold secondDue; rw [h]; rfl)
    have time : wrap 86399 s.timeOfDay = if s.timeOfDay < 86399 then s.timeOfDay + 1 else 0 := by
      unfold wrap; split <;> split <;> omega
    have view := recompose_butBoards { s with timeOfDay := wrap 86399 s.timeOfDay, tenths := 0 } FieldKind.readsTime
    have shows : Shows s s.takeSecond := by
      rw [due]
      exact .trans (t := { s with timeOfDay := wrap 86399 s.timeOfDay, tenths := 0 }) (.of_eq rfl rfl rfl)
        (recompose_shows ..)
    rw [← due] at view
    refine ⟨s.takeSecond, rfl, (congrArg State.host view :), (congrArg State.equations view :),
      (congrArg State.flags view :), (congrArg State.relays view :), (congrArg State.tunes view :),
      sameButShown_of_change (s := s) ⟨rfl, rfl, rfl⟩ ?_ shows⟩
    rw [← time]
    exact (congrArg State.butShown view :)
  · refine congrArg Host.Outcome.next (takeSecond_of_not_due ?_)
    unfold secondDue
    simpa using h
  · refine ⟨s.blinkTurn, congrArg (fun u : State => Host.Outcome.next u.blinkTurn) (settled_takeDue hs), ?_, fun hm => ?_⟩
    · rw [blinkTurn_eq, blinkTurned_eq]
      exact eq_of_butEquations (handOn_butEquations ..)
    · rw [blinkTurn_eq, handOn_config (s := s.blinkTurned) hm]
      exact ⟨rfl, rfl, rfl, rfl⟩

/-! ## What a tick books (R67) -/

theorem bookStop_request (s : State) (n m : Nat) :
    (pick (s.bookStop n).stops m).request = (pick s.stops m).request
      ∧ (pick (s.bookStop n).stops m).holdOrder = (pick s.stops m).holdOrder := by
  unfold State.bookStop
  dsimp only
  split
  · split
    · exact ⟨rfl, rfl⟩
    · rw [modStop_stops, pick_alter]
      split
      · next h => rw [h.1]; exact ⟨rfl, rfl⟩
      · exact ⟨rfl, rfl⟩
  · exact ⟨rfl, rfl⟩

/-- R67: what one section's booking makes of a call's held time. -/
def bookedHeld (s : State) (number held n : Nat) : Nat :=
  if (pick s.stops n).request = true ∧ (pick s.stops n).holdOrder.head? = some number then min 999999 (held + 1) else held

theorem bookStop_calls (s : State) (n : Nat) :
    (s.bookStop n).calls = s.calls.map fun c => { c with heldTime := bookedHeld s c.number c.heldTime n } := by
  have same : (∀ k held, bookedHeld s k held n = held) →
      s.calls = s.calls.map fun c => { c with heldTime := bookedHeld s c.number c.heldTime n } := fun h => by
    refine (List.map_id'' (fun c => ?_) _).symm
    rw [h]
  unfold State.bookStop
  dsimp only
  split
  · next hr =>
    split
    · next first rest ho =>
      rw [modCall_calls]
      refine List.map_congr_left fun c _ => ?_
      unfold bookedHeld
      rw [ho, List.head?_cons]
      by_cases hc : c.number = first
      · rw [if_pos hc, if_pos ⟨hr, by rw [hc]⟩]; rfl
      · rw [if_neg hc, if_neg fun k => hc (Option.some.inj k.2).symm]
    · next ho => exact same fun k held => if_neg fun h => by rw [ho] at h; cases h.2
  · next hr => exact same fun k held => if_neg fun h => hr h.1

theorem bookedHeld_congr {s t : State} {n : Nat} (hr : (pick t.stops n).request = (pick s.stops n).request)
    (ho : (pick t.stops n).holdOrder = (pick s.stops n).holdOrder) (k held : Nat) :
    bookedHeld t k held n = bookedHeld s k held n := by
  unfold bookedHeld; rw [hr, ho]

theorem bookings_calls (ns : List Nat) (s : State) :
    (ns.foldl State.bookStop s).calls =
      s.calls.map fun c => { c with heldTime := ns.foldl (bookedHeld s c.number) c.heldTime } := by
  induction ns generalizing s with
  | nil => exact (List.map_id'' (fun _ => rfl) _).symm
  | cons n ns ih =>
    rw [List.foldl_cons, ih, bookStop_calls, List.map_map]
    refine List.map_congr_left fun c _ => ?_
    have same : bookedHeld (s.bookStop n) c.number = bookedHeld s c.number := by
      funext held m
      exact bookedHeld_congr (bookStop_request s n m).1 (bookStop_request s n m).2 ..
    show { c with heldTime := ns.foldl (bookedHeld (s.bookStop n) c.number) (bookedHeld s c.number c.heldTime n) } = _
    rw [same]
    rfl

/-- R67: a section with its request asserted and no call to hold it books the tick as unattributed. -/
def StopLogic.booked (x : StopLogic) : StopLogic :=
  if x.request = true ∧ x.holdOrder = [] then { x with unattributed := min 999999 (x.unattributed + 1) } else x

theorem bookStop_stops (s : State) (n : Nat) {m : Nat} (h1 : 1 ≤ m) (h2 : m ≤ 4) :
    pick (s.bookStop n).stops m = if m = n then (pick s.stops m).booked else pick s.stops m := by
  have idle : ∀ h : ¬ ((pick s.stops n).request = true ∧ (pick s.stops n).holdOrder = []),
      pick s.stops m = if m = n then (pick s.stops m).booked else pick s.stops m := fun h => by
    split
    · next e => rw [e]; exact (if_neg h).symm
    · rfl
  unfold State.bookStop
  dsimp only
  split
  · next hr =>
    split
    · next ho => exact idle fun k => by rw [ho] at k; cases k.2
    · next ho =>
      rw [modStop_stops, pick_alter_within _ _ h1 h2]
      split
      · next e => rw [e]; exact (if_pos ⟨hr, ho⟩).symm
      · rfl
  · next hr => exact idle fun k => hr k.1

theorem booked_stops (s : State) {n : Nat} (h1 : 1 ≤ n) (h2 : n ≤ 4) :
    pick s.booked.stops n = (pick s.stops n).booked := by
  unfold State.booked
  refine foldl_at (fun t : State => pick t.stops n) (fun _ => True) (fun x y => y = x.booked) State.bookStop n
    (fun _ _ _ => trivial) (fun t m _ hm => ?_) (fun t _ => ?_) (numbers 4) s (numbers_nodup 4)
    (mem_numbers.mpr ⟨h1, h2⟩) trivial
  · rw [bookStop_stops t m h1 h2, if_neg (Ne.symm hm)]
  · rw [bookStop_stops t n h1 h2, if_pos rfl]

/-- All but what a tick touches: the calls, stop logic, the shift, the delay, refresh, probe and stale timers, the boards
and fields, the tick count. -/
def State.butTick (s : State) : State :=
  { s with calls := [], stops := Vector.replicate 4 startStop, shift := none
           equations := Vector.replicate 48 startEquation, refreshTimer := none
           boards := Vector.replicate 8 startBoard, fields := Vector.replicate 8 (Vector.replicate 12 startField)
           staleTimer := none, tenths := 0 }

/-- All but the calls and stop logic. -/
def State.butHolds (s : State) : State := { s with calls := [], stops := Vector.replicate 4 startStop }

theorem booked_butHolds (s : State) : s.booked.butHolds = s.butHolds := by
  refine foldl_keeps State.butHolds State.bookStop (fun t n => ?_) _ s
  unfold State.bookStop
  dsimp only
  split
  · split <;> rfl
  · rfl

theorem lowerEscalation_butHolds (s : State) : s.lowerEscalation.butHolds = s.butHolds := by
  unfold State.lowerEscalation; split <;> rfl

theorem lowerEscalation_stops (s : State) : s.lowerEscalation.stops = s.stops := by
  unfold State.lowerEscalation; split <;> rfl

/-! ## What a tick accrues (R130, R134) -/

/-- What the accruing reads: the definitions, the inputs, the requests and the shift. -/
structure AccrualView where
  defs : Definitions
  inputs : Vector InputState 16
  shiftState : ShiftState
  shift : Option Shift
  request : Nat → Bool

def State.accrualView (s : State) : AccrualView :=
  ⟨s.defs, s.inputs, s.shiftState, s.shift, fun n => (pick s.stops n).request⟩

theorem accrued_congr {s t : State} (h : t.accrualView = s.accrualView) : accrued t = accrued s := by
  have hd : t.defs = s.defs := (congrArg AccrualView.defs h :)
  have hi : t.inputs = s.inputs := (congrArg AccrualView.inputs h :)
  have hr : ∀ n, (pick t.stops n).request = (pick s.stops n).request := congrFun (congrArg AccrualView.request h)
  have andon : andonStops t = andonStops s := by
    funext n; unfold andonStops State.sectionDef; rw [hd, hr]
  have other : otherStops t = otherStops s := by
    funext n; unfold otherStops runLevel sensorLevel inputLevel State.sectionDef; rw [hd, hi, hr]
  unfold accrued
  rw [andon, other]

theorem ticking_accrualView (s : State) : s.booked.lowerEscalation.accrualView = s.accrualView := by
  have table := (lowerEscalation_butHolds s.booked).trans (booked_butHolds s)
  unfold State.accrualView
  rw [lowerEscalation_stops]
  generalize s.booked.lowerEscalation = t at table
  have hd : t.defs = s.defs := (congrArg State.defs table :)
  have hi : t.inputs = s.inputs := (congrArg State.inputs table :)
  have hst : t.shiftState = s.shiftState := (congrArg State.shiftState table :)
  have hsh : t.shift = s.shift := (congrArg State.shift table :)
  rw [hd, hi, hst, hsh, AccrualView.mk.injEq]
  refine ⟨rfl, rfl, rfl, rfl, funext fun n => ?_⟩
  have kept := foldl_holds (fun t : State => (pick t.stops n).request = (pick s.stops n).request) State.bookStop
    (fun t m ht => (bookStop_request t m n).1.trans ht) (numbers 4) s rfl
  exact kept

/-- R130: what a tick makes of the shift, by the shift state. -/
def tickedShift (s : State) (sh : Shift) : Shift :=
  match s.shiftState with
  | .none => sh
  | .work => { accrued s sh with remaining := lower sh.remaining }
  | .pause => { sh with remaining := lower sh.remaining }
  | .overtime => accrued s sh

theorem accrue_shift (s : State) : s.accrue.shift = s.shift.map (tickedShift s) := by
  unfold State.accrue tickedShift
  cases s.shiftState with
  | none => exact (Option.map_id' ..).symm
  | work => rfl
  | pause => rfl
  | overtime => rfl

theorem composeTick_butBoards (s : State) : s.composeTick.butBoards = s.butBoards := by
  unfold State.composeTick
  split
  · rfl
  · split
    · rfl
    · exact recompose_butBoards ..
  · unfold State.composeAccount
    split
    · rfl
    · exact recompose_butBoards ..

theorem composeTick_shift (s : State) : s.composeTick.shift = s.shift :=
  (congrArg State.shift (composeTick_butBoards s) :)

theorem composeTick_shows (s : State) : Shows s s.composeTick := by
  unfold State.composeTick
  split
  · exact .refl s
  · exact .ite (.refl s) (recompose_shows ..)
  · exact (ByOps.composeAccount s).shows

theorem tick_shift (s : State) : s.tick.shift = s.shift.map (tickedShift s) := by
  have lowered : ∀ u : State, u.lowerRunTimers.shift = u.shift := fun u => by
    unfold State.lowerRunTimers; split <;> rfl
  have view := ticking_accrualView s
  have hst : s.booked.lowerEscalation.shiftState = s.shiftState := (congrArg AccrualView.shiftState view :)
  have hsh : s.booked.lowerEscalation.shift = s.shift := (congrArg AccrualView.shift view :)
  have same : tickedShift s.booked.lowerEscalation = tickedShift s := by
    funext sh; unfold tickedShift; rw [hst, accrued_congr view]
  have ticked : ∀ u : State, u.ticked.shift = u.shift := fun _ => rfl
  rw [tick_eq, composeTick_shift, ticked, lowered, accrue_shift, same, hsh]

/-- Settles O33. -/
theorem tickAccrues : Obligations.TickAccrues := by
  unfold Obligations.TickAccrues
  intro s hs
  have taken : exec .tick s = .next s.tick := congrArg (fun u : State => Host.Outcome.next u.tick) (settled_takeDue hs)
  refine ⟨fun hn => ⟨s.tick, taken, by rw [tick_shift, hn, Option.map_none]⟩, fun sh hsh => ?_⟩
  refine ⟨s.tick, tickedShift s sh, taken, by rw [tick_shift, hsh, Option.map_some], fun hst => ?_, fun hst => ?_, fun hst => ?_⟩
  · unfold tickedShift; rw [hst]
  · unfold tickedShift; rw [hst]; rfl
  · have andon : ∀ n, 1 ≤ n → n ≤ 4 → pick (accrued s sh).andonStop n =
        if (s.sectionDef n).isSome = true ∧ (pick s.stops n).request = true then
          min 999999 (pick sh.andonStop n + 1) else pick sh.andonStop n := fun n h1 h2 => by
      unfold accrued
      dsimp only
      rw [pick_alterAll _ _ h1 h2]
      unfold andonStops
      rw [if_congr (Bool.and_eq_true _ _).to_iff rfl rfl]; rfl
    have other : ∀ n, 1 ≤ n → n ≤ 4 → pick (accrued s sh).otherStop n =
        if (s.sectionDef n).isSome = true ∧ (pick s.stops n).request = false ∧ runLevel s n = some false then
          min 999999 (pick sh.otherStop n + 1) else pick sh.otherStop n := fun n h1 h2 => by
      unfold accrued
      dsimp only
      rw [pick_alterAll _ _ h1 h2]
      unfold otherStops
      have : (((s.sectionDef n).isSome && !(pick s.stops n).request && runLevel s n == some false) = true) ↔
          (s.sectionDef n).isSome = true ∧ (pick s.stops n).request = false ∧ runLevel s n = some false := by
        rw [Bool.and_eq_true, Bool.and_eq_true, Bool.not_eq_true', beq_iff_eq, and_assoc]
      rw [if_congr this rfl rfl]; rfl
    rcases hst with hst | hst
    · have now : tickedShift s sh = { accrued s sh with remaining := lower sh.remaining } := by
        unfold tickedShift; rw [hst]
      rw [now, if_pos hst]
      exact ⟨rfl, fun n h1 h2 => ⟨andon n h1 h2, other n h1 h2⟩⟩
    · have now : tickedShift s sh = accrued s sh := by unfold tickedShift; rw [hst]
      rw [now, if_neg (by rw [hst]; decide)]
      exact ⟨rfl, fun n h1 h2 => ⟨andon n h1 h2, other n h1 h2⟩⟩

/-! ## What a tick lowers (R98, R112, R148, R168, R179) -/

theorem accrue_butTick (s : State) : s.accrue.butTick = s.butTick := by
  unfold State.accrue; split <;> rfl

theorem setTimers_butTick (s : State) (e : Vector EquationState 48) (r : Option Nat) (b : Vector Board 8) :
    ({ s with equations := e, refreshTimer := r, boards := b } : State).butTick = s.butTick := rfl

theorem lowerRunTimers_butTick (s : State) : s.lowerRunTimers.butTick = s.butTick := by
  unfold State.lowerRunTimers
  split
  · exact setTimers_butTick ..
  · rfl

theorem tick_butTick (s : State) : s.tick.butTick = s.butTick := by
  rw [tick_eq]
  have h1 := (congrArg State.butTick (booked_butHolds s) :)
  have h2 := (congrArg State.butTick (lowerEscalation_butHolds s.booked) :)
  generalize s.booked.lowerEscalation = u at h2 ⊢
  have h3 := accrue_butTick u
  have h4 := lowerRunTimers_butTick u.accrue
  generalize u.accrue.lowerRunTimers = v at h4 ⊢
  have h5 : v.ticked.butTick = v.butTick := rfl
  have h6 := (congrArg State.butTick (composeTick_butBoards v.ticked) :)
  exact h6.trans (h5.trans (h4.trans (h3.trans (h2.trans h1))))

theorem lowerRunTimers_of_run {s : State} (hm : s.mode = .run) :
    s.lowerRunTimers = { s with
      equations := alterAll s.equations fun _ e => { e with timer := lower e.timer }
      refreshTimer := lower s.refreshTimer
      boards := alterAll s.boards fun _ b => { b with probeTimer := lower b.probeTimer } } := if_pos hm

theorem lowerRunTimers_of_config {s : State} (hm : s.mode ≠ .run) : s.lowerRunTimers = s := if_neg hm

/-- What a tick reads of the state before its timers are lowered. -/
theorem accrue_fields (s : State) :
    s.booked.lowerEscalation.accrue.mode = s.mode ∧ s.booked.lowerEscalation.accrue.equations = s.equations
      ∧ s.booked.lowerEscalation.accrue.refreshTimer = s.refreshTimer
      ∧ s.booked.lowerEscalation.accrue.boards = s.boards ∧ s.booked.lowerEscalation.accrue.fields = s.fields
      ∧ s.booked.lowerEscalation.accrue.staleTimer = s.staleTimer
      ∧ s.booked.lowerEscalation.accrue.tenths = s.tenths := by
  have table := (lowerEscalation_butHolds s.booked).trans (booked_butHolds s)
  generalize s.booked.lowerEscalation = u at table ⊢
  have accrued : ({ u.accrue with shift := none } : State).butHolds = ({ u with shift := none } : State).butHolds := by
    unfold State.accrue; split <;> rfl
  generalize u.accrue = v at accrued ⊢
  have all : ({ v with shift := none } : State).butHolds = ({ s with shift := none } : State).butHolds :=
    accrued.trans (congrArg (fun y : State => ({ y with shift := none } : State).butHolds) table :)
  exact ⟨(congrArg State.mode all :), (congrArg State.equations all :), (congrArg State.refreshTimer all :),
    (congrArg State.boards all :), (congrArg State.fields all :), (congrArg State.staleTimer all :),
    (congrArg State.tenths all :)⟩

/-- What a tick lowers and accrues leaves the calls and stop logic as they were booked. -/
theorem tick_holds (s : State) :
    s.tick.calls = s.booked.lowerEscalation.calls ∧ s.tick.stops = s.booked.stops := by
  rw [tick_eq, ← lowerEscalation_stops s.booked]
  generalize s.booked.lowerEscalation = u
  have accrued : u.accrue.calls = u.calls ∧ u.accrue.stops = u.stops := by
    unfold State.accrue; split <;> exact ⟨rfl, rfl⟩
  have lowered : ∀ v : State, v.lowerRunTimers.calls = v.calls ∧ v.lowerRunTimers.stops = v.stops := fun v => by
    unfold State.lowerRunTimers; split <;> exact ⟨rfl, rfl⟩
  have composed : ∀ v : State, v.ticked.composeTick.calls = v.calls ∧ v.ticked.composeTick.stops = v.stops := fun v =>
    ⟨(congrArg State.calls (composeTick_butBoards v.ticked) :), (congrArg State.stops (composeTick_butBoards v.ticked) :)⟩
  rw [(composed _).1, (composed _).2, (lowered _).1, (lowered _).2, accrued.1, accrued.2]
  exact ⟨rfl, rfl⟩

theorem tick_calls (s : State) :
    s.tick.calls = s.calls.map fun c => { c with
      heldTime := (numbers 4).foldl (bookedHeld s c.number) c.heldTime
      timer := if s.shiftState = .pause then c.timer else c.timer.map (· - 1) } := by
  have hst : s.booked.shiftState = s.shiftState := (congrArg State.shiftState (booked_butHolds s) :)
  have held : s.booked.calls = _ := bookings_calls (numbers 4) s
  rw [(tick_holds s).1]
  unfold State.lowerEscalation
  rw [hst]
  split
  · exact held
  · rw [held]; exact List.map_map ..

/-- R112, R168, R179: the delay, refresh and probe timers fall in RUN alone. -/
theorem lowerRunTimers_timers (w : State) :
    (∀ i, 1 ≤ i → i ≤ 48 → pick w.lowerRunTimers.equations i =
        if w.mode = .run then { pick w.equations i with timer := (pick w.equations i).timer.map (· - 1) }
        else pick w.equations i)
      ∧ w.lowerRunTimers.refreshTimer = (if w.mode = .run then w.refreshTimer.map (· - 1) else w.refreshTimer)
      ∧ (∀ b, 1 ≤ b → b ≤ 8 → pick w.lowerRunTimers.boards b = { pick w.boards b with
          probeTimer := if w.mode = .run then (pick w.boards b).probeTimer.map (· - 1)
            else (pick w.boards b).probeTimer })
      ∧ w.lowerRunTimers.fields = w.fields ∧ w.lowerRunTimers.staleTimer = w.staleTimer
      ∧ w.lowerRunTimers.tenths = w.tenths := by
  unfold State.lowerRunTimers
  split
  · dsimp only
    refine ⟨fun i h1 h2 => ?_, rfl, fun b h1 h2 => ?_, rfl, rfl, rfl⟩
    · rw [pick_alterAll _ _ h1 h2]; rfl
    · rw [pick_alterAll _ _ h1 h2]; rfl
  · exact ⟨fun i _ _ => rfl, rfl, fun b _ _ => rfl, rfl, rfl, rfl⟩

/-- What a tick makes of the timers of a state, and of what the boards show. -/
theorem timers_lowered (w t : State) (h : t = w.lowerRunTimers.ticked.composeTick) :
    (∀ i, 1 ≤ i → i ≤ 48 → pick t.equations i =
        if w.mode = .run then { pick w.equations i with timer := (pick w.equations i).timer.map (· - 1) }
        else pick w.equations i)
      ∧ t.refreshTimer = (if w.mode = .run then w.refreshTimer.map (· - 1) else w.refreshTimer)
      ∧ t.staleTimer = w.staleTimer.map (· - 1) ∧ t.tenths = w.tenths + 1
      ∧ (∀ b, 1 ≤ b → b ≤ 8 → pick t.boards b = { pick w.boards b with
          queue := (pick t.boards b).queue, owed := (pick t.boards b).owed
          probeTimer := if w.mode = .run then (pick w.boards b).probeTimer.map (· - 1)
            else (pick w.boards b).probeTimer })
      ∧ ∀ b f, pick (pick t.fields b) f = { pick (pick w.fields b) f with last := (pick (pick t.fields b) f).last } := by
  obtain ⟨l1, l2, l3, l4, l5, l6⟩ := lowerRunTimers_timers w
  have view := composeTick_butBoards w.lowerRunTimers.ticked
  have shows := composeTick_shows w.lowerRunTimers.ticked
  rw [← h] at view shows
  generalize w.lowerRunTimers = u at l1 l2 l3 l4 l5 l6 view shows
  have he : t.equations = u.equations := (congrArg State.equations view :)
  have hr : t.refreshTimer = u.refreshTimer := (congrArg State.refreshTimer view :)
  have hst : t.staleTimer = u.staleTimer.map (· - 1) := (congrArg State.staleTimer view :)
  have ht : t.tenths = u.tenths + 1 := (congrArg State.tenths view :)
  have hb : ∀ b, pick t.boards b = { pick u.boards b with
    queue := (pick t.boards b).queue, owed := (pick t.boards b).owed } := shows.boards
  have hf : ∀ b f, pick (pick t.fields b) f =
    { pick (pick u.fields b) f with last := (pick (pick t.fields b) f).last } := shows.fields
  refine ⟨by rw [he]; exact l1, by rw [hr, l2], by rw [hst, l5], by rw [ht, l6], fun b h1 h2 => ?_, by rw [← l4]; exact hf⟩
  rw [hb b, l3 b h1 h2]

/-- Settles O32: what each part of a tick leaves and changes. -/
theorem tickTaken : Obligations.TickTaken := by
  unfold Obligations.TickTaken
  intro s hs
  have taken : exec .tick s = .next s.tick := congrArg (fun u : State => Host.Outcome.next u.tick) (settled_takeDue hs)
  obtain ⟨hm, he, hr, hb, hf, hst, ht⟩ := accrue_fields s
  have timers := timers_lowered s.booked.lowerEscalation.accrue s.tick (tick_eq s)
  rw [hm, he, hr, hb, hf, hst, ht] at timers
  obtain ⟨t1, t2, t3, t4, t5, t6⟩ := timers
  refine ⟨s.tick, taken, ?_, fun n h1 h2 => ?_, tick_calls s, t1, t5, fun b f _ _ _ _ => t6 b f⟩
  · rw [← t2, ← t3, ← t4]
    have view := tick_butTick s
    generalize s.tick = t at view
    exact (congrArg (fun y : State => { y with
      calls := t.calls, stops := t.stops, shift := t.shift, equations := t.equations, refreshTimer := t.refreshTimer
      boards := t.boards, fields := t.fields, staleTimer := t.staleTimer, tenths := t.tenths }) view :)
  · rw [(tick_holds s).2]
    exact booked_stops s h1 h2

end Sys2Proof.Machine
end

section
/-! PROOFS. ShiftRequests: START SHIFT, END SHIFT, SET TAKT, SET VOLUME and CORRECT ACTUAL (R122–R138). -/

namespace Sys2Proof.Machine

/-- R89: what the announcements followed before the answer, they follow after it. -/
theorem loopsAnnounce_answered {s u t : State} {kind tag : Byte} {body : List Byte}
    (h : loopsAnnounce (s.holding kind tag body) u) (ht : t = { u with host := t.host }) : loopsAnnounce s t :=
  loopsAnnounce_congr rfl (by rw [ht]; rfl) h

theorem shiftNotice_view (s : State) (c : ShiftCause) : (s.shiftNotice c).announceView = s.announceView := by
  unfold State.shiftNotice; split
  · exact notify_view ..
  · rfl

/-- R187: a request on the shift, while one runs. -/
theorem withShift_running {handle : Shift → State → Handled} {s : State} {sh : Shift} (hm : s.mode = .run)
    (hst : s.shiftState ≠ .none) (hsh : s.shift = some sh) : withShift handle s = handle sh s := by
  unfold withShift
  rw [inMode_fits hm, hsh]
  exact if_neg hst

/-! ## START SHIFT (R123, R124) -/

/-- R123, R124: the state with a shift begun, before it is told. -/
def State.shiftBegun (s : State) (plan : List Period) (takt volume : Nat) : State :=
  { s with shift := some (newShift plan takt volume s.timeOfDay), shiftState := firstState plan
           stops := alterAll s.stops fun _ x => { x with unattributed := 0 } }

theorem beginShift_eq (s : State) (plan : List Period) (takt volume : Nat) :
    s.beginShift plan takt volume = (s.shiftBegun plan takt volume).shiftChanged.shiftNotice .start := rfl

theorem shiftBegun_stops (s : State) (plan : List Period) (takt volume : Nat) {n : Nat} (h1 : 1 ≤ n) (h2 : n ≤ 4) :
    pick (s.shiftBegun plan takt volume).stops n = { pick s.stops n with unattributed := 0 } := by
  unfold State.shiftBegun
  dsimp only
  rw [pick_alterAll _ _ h1 h2]

theorem beginShift_shown (s : State) (plan : List Period) (takt volume : Nat) (hst : s.shiftState = .none)
    (hp : plan ≠ []) :
    (∃ a b : LoopState, (s.beginShift plan takt volume).butShown =
        ({ s.shiftBegun plan takt volume with loopA := a, loopB := b } : State).butShown)
      ∧ loopsAnnounce s (s.beginShift plan takt volume) ∧ Shows s (s.beginShift plan takt volume) := by
  rw [beginShift_eq]
  refine ⟨⟨_, _, (shiftNotice_butShown ..).trans (shiftChanged_butShown ..)⟩, ?_, ?_⟩
  · refine loopsAnnounce_congr rfl (shiftNotice_view ..) (shiftChanged_announces (s := s) rfl rfl (fun l => by cases l <;> rfl) ?_)
    rw [hst]; exact firstState_ne_none hp
  · have begun : Shows s (s.shiftBegun plan takt volume) := .of_eq rfl rfl rfl
    exact begun.trans ((ByOps.shiftChanged _).shows.trans (ByOps.shiftNotice ..).shows)

theorem clampPeriod_eq_self {p : Period} : clampPeriod p = p ↔ 1 ≤ p.minutes ∧ p.minutes ≤ 600 := by
  constructor
  · intro h
    have := congrArg Period.minutes h
    simp only [clampPeriod, clamp_eq 1 600 _ (by decide)] at this
    omega
  · intro h
    unfold clampPeriod
    rw [clamp_eq _ _ _ (by decide), show max 1 (min 600 p.minutes) = p.minutes by omega]

theorem map_clampPeriod_eq_self {plan : List Period} :
    plan.map clampPeriod = plan ↔ ∀ p ∈ plan, 1 ≤ p.minutes ∧ p.minutes ≤ 600 := by
  induction plan with
  | nil => simp
  | cons p plan ih => rw [List.map_cons, List.cons.injEq, ih, clampPeriod_eq_self, List.forall_mem_cons]

theorem firstState_cons (p : Period) (plan : List Period) : firstState (p :: plan) = p.kind.toShift := rfl

/-- R123: the result of a request whose figures may have been clamped. -/
theorem result_done_iff (adjusted : Bool) :
    (if adjusted then Result.adjusted else .done) = .done ↔ adjusted = false := by cases adjusted <;> simp

/-- Settles O17. -/
theorem startShiftTaken : Obligations.StartShiftTaken := by
  unfold Obligations.StartShiftTaken
  intro tag body s asked h hm hst hfit hread
  have handled : ∀ place, place = 3 * byteAt body 0 + 1 → startShiftNow body (s.holding 40#8 tag body) =
      ⟨(s.holding 40#8 tag body).beginShift (asked.map clampPeriod) (clamp 300 3000 (wordAt body place))
          (clamp 0 9999 (wordAt body (place + 2))),
        some (if asked.map clampPeriod != asked || clamp 300 3000 (wordAt body place) != wordAt body place
            || clamp 0 9999 (wordAt body (place + 2)) != wordAt body (place + 2) then .adjusted else .done,
          .shiftStarted (firstState (asked.map clampPeriod)) (asked.map clampPeriod).length
            (plannedTenths (asked.map clampPeriod)) (clamp 300 3000 (wordAt body place))
            (clamp 0 9999 (wordAt body (place + 2))))⟩ := by
    rintro _ rfl
    unfold startShiftNow
    rw [if_pos hfit, hread]
    exact (inMode_fits (s := s.holding 40#8 tag body) hm _).trans (if_pos hst)
  have handled := handled _ rfl
  rw [show 3 * byteAt body 0 + 1 + 2 = 3 * byteAt body 0 + 3 from rfl] at handled
  have hne : asked.map clampPeriod ≠ [] := by simpa using readPlan_ne_nil hread
  have unclamped : (asked.map clampPeriod != asked
        || clamp 300 3000 (wordAt body (3 * byteAt body 0 + 1)) != wordAt body (3 * byteAt body 0 + 1)
        || clamp 0 9999 (wordAt body (3 * byteAt body 0 + 3)) != wordAt body (3 * byteAt body 0 + 3)) = false ↔
      (∀ p ∈ asked, 1 ≤ p.minutes ∧ p.minutes ≤ 600)
        ∧ 300 ≤ wordAt body (3 * byteAt body 0 + 1) ∧ wordAt body (3 * byteAt body 0 + 1) ≤ 3000
        ∧ wordAt body (3 * byteAt body 0 + 3) ≤ 9999 := by
    rw [Bool.or_eq_false_iff, Bool.or_eq_false_iff, bne_eq_false_iff_eq, bne_eq_false_iff_eq, bne_eq_false_iff_eq,
      map_clampPeriod_eq_self, and_assoc, clamp_eq _ _ _ (by decide), clamp_eq _ _ _ (by decide)]
    refine and_congr_right fun _ => ?_
    omega
  have hT := clamp_eq 300 3000 (wordAt body (3 * byteAt body 0 + 1)) (by decide)
  have hV : clamp 0 9999 (wordAt body (3 * byteAt body 0 + 3)) = min 9999 (wordAt body (3 * byteAt body 0 + 3)) := by
    rw [clamp_eq _ _ _ (by decide)]; omega
  generalize clamp 300 3000 (wordAt body (3 * byteAt body 0 + 1)) = takt at *
  generalize clamp 0 9999 (wordAt body (3 * byteAt body 0 + 3)) = volume at *
  generalize (asked.map clampPeriod != asked || takt != _ || volume != _) = adjusted at handled unclamped
  have hplan : ∀ p ∈ asked.map clampPeriod, 1 ≤ p.minutes ∧ p.minutes ≤ 600 := fun p hp => by
    obtain ⟨q, -, rfl⟩ := List.mem_map.mp hp
    exact clamp_within _ (by decide)
  generalize hdef : asked.map clampPeriod = plan at *
  obtain ⟨⟨a, b, hb⟩, hl, hs⟩ := beginShift_shown (s.holding 40#8 tag body) plan takt volume hst hne
  have stops := fun n h1 h2 => shiftBegun_stops (s.holding 40#8 tag body) plan takt volume (n := n) h1 h2
  generalize (s.holding 40#8 tag body).beginShift plan takt volume = u at handled hb hl hs
  obtain ⟨t, hx, ht, ha, hf⟩ := serve_answered h handled hs.host
  have hu : t.butShown = ({ s.shiftBegun plan takt volume with loopA := a, loopB := b } : State).butShown := by
    rw [ht]; exact hb
  have hsh : t.shift = some (newShift plan takt volume s.timeOfDay) := (congrArg State.shift hu :)
  have hstate : t.shiftState = firstState plan := (congrArg State.shiftState hu :)
  have hstops : t.stops = (s.shiftBegun plan takt volume).stops := (congrArg State.stops hu :)
  have hA : t.loopA = a := (congrArg State.loopA hu :)
  have hB : t.loopB = b := (congrArg State.loopB hu :)
  refine ⟨t, newShift plan takt volume s.timeOfDay, _, _, hx, hsh, ha, ?_, ?_, ?_, rfl, hplan, hT, hV, rfl, rfl, rfl, rfl,
    rfl, rfl, rfl, rfl, ?_, fun n h1 h2 => ?_, loopsAnnounce_answered hl ht, ?_⟩
  · cases adjusted
    · exact .inl rfl
    · exact .inr rfl
  · rw [result_done_iff]; exact unclamped
  · rw [hstate]
    unfold plannedTenths
    simp only [newShift, beq_eq_decide]
  · cases plan with
    | nil => exact absurd rfl hne
    | cons p rest => exact ⟨p, rfl, rfl, by rw [hstate, firstState_cons]⟩
  · rw [hstops]; exact stops n h1 h2
  · refine sameButShown_of_shows (s := s) (u := u) ⟨rfl, rfl, rfl⟩ ?_ hs ht hf
    rw [hsh, hstate, hstops, hA, hB]
    exact hb

/-! ## END SHIFT (R136, R137) -/

theorem appendRecord_overflow (s : State) (e : HistoryEntry) :
    (s.appendRecord e).overflowCount =
      if s.history.length < 128 then s.overflowCount else min 255 (s.overflowCount + 1) := by
  unfold State.appendRecord Config.historyCapacity
  by_cases h : s.history.length < 128
  · simp only [h, decide_true, if_true]
    split
    · exact (congrArg State.overflowCount (notify_butHost ..) :)
    · rfl
  · simp only [h, decide_false, if_false, Bool.false_eq_true]
    exact (congrArg State.overflowCount (notify_butHost ..) :)

theorem wrap_65535 (n : Nat) : wrap 65535 n = if n < 65535 then n + 1 else 0 := by
  unfold wrap; split <;> split <;> omega

/-- R136: the state with its shift's figures frozen and recorded. -/
def State.shiftRecorded (s : State) (sh : Shift) : State :=
  { s with previous := some (freeze s.shiftState sh s.timeOfDay) }.appendRecord (shiftRecord s sh)

/-- R136: the state with no shift any more, before it is told. -/
def State.shiftOver (s : State) : State := { s with shiftState := .none, shift := none }

theorem finishShift_eq (s : State) (sh : Shift) : s.finishShift sh =
    (s.shiftRecorded sh).shiftOver.shiftChanged.notify
      (.shift .ended { shiftReport s.shiftState sh with state := .none }) := rfl


theorem shiftOver_announces (s : State) (hst : s.shiftState ≠ .none) : loopsAnnounce s s.shiftOver.shiftChanged :=
  shiftChanged_announces (s := s) rfl rfl (fun l => by cases l <;> rfl) (Ne.symm hst)

/-- R136: the record is of the figures, and the frame of it is the history queue's. -/
theorem shiftRecorded_fields (s : State) (sh : Shift) :
    (s.shiftRecorded sh).history = (if s.history.length < 128 then s.history else s.history.drop 1)
        ++ [⟨s.nextSeq, shiftRecord s sh⟩]
      ∧ (s.shiftRecorded sh).nextSeq = (if s.nextSeq < 65535 then s.nextSeq + 1 else 0)
      ∧ (s.shiftRecorded sh).overflowCount =
        (if s.history.length < 128 then s.overflowCount else min 255 (s.overflowCount + 1)) := by
  obtain ⟨hh, hn⟩ := appendRecord_history { s with previous := some (freeze s.shiftState sh s.timeOfDay) } (shiftRecord s sh)
  exact ⟨hh, hn.trans (wrap_65535 _), appendRecord_overflow ..⟩

theorem appendRecord_butShown (s : State) (e : HistoryEntry) : ∃ stale, (s.appendRecord e).butShown =
    ({ s with history := (s.appendRecord e).history, nextSeq := (s.appendRecord e).nextSeq
              overflowCount := (s.appendRecord e).overflowCount, staleTimer := stale } : State).butShown := by
  refine ⟨(s.appendRecord e).staleTimer, ?_⟩
  have hv := appendRecord_butHistory s e
  generalize s.appendRecord e = u at hv ⊢
  exact (congrArg (fun y : State => ({ y with
    history := u.history, nextSeq := u.nextSeq, overflowCount := u.overflowCount, staleTimer := u.staleTimer } : State).butShown) hv :)

/-- R136: the record leaves all but the history queue, and gives the previous shift. -/
theorem shiftRecorded_shown (s : State) (sh : Shift) : ∃ stale, (s.shiftRecorded sh).butShown = ({ s with
    previous := some (freeze s.shiftState sh s.timeOfDay), history := (s.shiftRecorded sh).history
    nextSeq := (s.shiftRecorded sh).nextSeq, overflowCount := (s.shiftRecorded sh).overflowCount
    staleTimer := stale } : State).butShown := appendRecord_butShown ..

theorem shiftRecorded_shows (s : State) (sh : Shift) : Shows s (s.shiftRecorded sh) := by
  have frozen : Shows s { s with previous := some (freeze s.shiftState sh s.timeOfDay) } := .of_eq rfl rfl rfl
  exact frozen.trans (ByOps.appendRecord ..).shows

theorem shiftOver_shown (s : State) : s.shiftOver.shiftChanged.butShown = ({ s with
    shiftState := .none, shift := none, loopA := s.shiftOver.shiftChanged.loopA
    loopB := s.shiftOver.shiftChanged.loopB } : State).butShown := shiftChanged_butShown ..

theorem shiftOver_shows (s : State) : Shows s s.shiftOver.shiftChanged := by
  have ended : Shows s s.shiftOver := .of_eq rfl rfl rfl
  exact ended.trans (ByOps.shiftChanged _).shows

/-- R136: what a shift that ends leaves. -/
theorem finishShift_shown (s : State) (sh : Shift) (hst : s.shiftState ≠ .none) :
    (∃ (a b : LoopState) (stale : Option Nat), (s.finishShift sh).butShown = ({ s with
        shift := none, shiftState := .none, previous := some (freeze s.shiftState sh s.timeOfDay)
        history := (s.shiftRecorded sh).history, nextSeq := (s.shiftRecorded sh).nextSeq
        overflowCount := (s.shiftRecorded sh).overflowCount, staleTimer := stale, loopA := a, loopB := b } : State).butShown)
      ∧ loopsAnnounce s (s.finishShift sh) ∧ Shows s (s.finishShift sh) := by
  rw [finishShift_eq]
  obtain ⟨stale, recorded⟩ := shiftRecorded_shown s sh
  have hview : (s.shiftRecorded sh).announceView = s.announceView := appendRecord_view ..
  have hst' : (s.shiftRecorded sh).shiftState ≠ .none := fun h =>
    hst ((congrArg AnnounceView.shiftState hview).symm.trans h)
  refine ⟨⟨_, _, stale, (notify_butShown ..).trans ((shiftOver_shown _).trans (congrArg (fun y : State => ({ y with
      shiftState := .none, shift := none, loopA := (s.shiftRecorded sh).shiftOver.shiftChanged.loopA
      loopB := (s.shiftRecorded sh).shiftOver.shiftChanged.loopB } : State).butShown) recorded))⟩, ?_, ?_⟩
  · exact loopsAnnounce_congr hview.symm (notify_view ..) (shiftOver_announces _ hst')
  · exact (shiftRecorded_shows s sh).trans ((shiftOver_shows _).trans (ByOps.notify ..).shows)

/-- Settles O18. -/
theorem endShiftTaken : Obligations.EndShiftTaken := by
  unfold Obligations.EndShiftTaken
  intro tag s sh h hm hst hsh
  have handled : endShiftNow [] (s.holding 41#8 tag []) = ⟨(s.holding 41#8 tag []).finishShift sh,
      some (.done, .shiftEnded (freeze s.shiftState sh s.timeOfDay))⟩ :=
    (ofLength_fits rfl _ _).trans (withShift_running (s := s.holding 41#8 tag []) hm hst hsh)
  obtain ⟨⟨a, b, stale, hb⟩, hl, hs⟩ := finishShift_shown (s.holding 41#8 tag []) sh hst
  obtain ⟨hh, hn, ho⟩ := shiftRecorded_fields (s.holding 41#8 tag []) sh
  rw [hh, hn, ho] at hb
  generalize (s.holding 41#8 tag []).finishShift sh = u at handled hb hl hs
  obtain ⟨t, hx, ht, ha, hf⟩ := serve_answered h handled hs.host
  have hu : t.butShown = u.butShown := by rw [ht]; rfl
  have hv := hu.trans hb
  have hA : t.loopA = a := (congrArg State.loopA hv :)
  have hB : t.loopB = b := (congrArg State.loopB hv :)
  have hT : t.staleTimer = stale := (congrArg State.staleTimer hv :)
  have hP : t.previous = some (freeze s.shiftState sh s.timeOfDay) := (congrArg State.previous hv :)
  have hH : t.history = _ := (congrArg State.history hv :)
  have hN : t.nextSeq = _ := (congrArg State.nextSeq hv :)
  have hO : t.overflowCount = _ := (congrArg State.overflowCount hv :)
  refine ⟨t, hx, (congrArg State.shiftState hv :), (congrArg State.shift hv :), hP, ha, hH, hN, hO,
    loopsAnnounce_answered hl ht, ?_⟩
  refine sameButShown_of_shows (s := s) (u := u) ⟨rfl, rfl, rfl⟩ ?_ hs ht hf
  rw [hP, hH, hN, hO, hT, hA, hB]
  exact hb

/-! ## The corrections (R134, R135) -/

theorem replaceShift_butShown (s : State) (sh : Shift) :
    (s.replaceShift sh).butShown = ({ s with shift := some sh } : State).butShown :=
  (recompose_butShown ..).trans (handBehind_butShown ..)

theorem replaceShift_shows (s : State) (sh : Shift) : Shows s (s.replaceShift sh) := by
  have replaced : Shows s { s with shift := some sh } := .of_eq rfl rfl rfl
  exact replaced.trans ((ByOps.handBehind ..).shows.trans (ByOps.recompose ..).shows)

theorem recompose_equations (s : State) (p : FieldKind → Bool) : (s.recompose p).equations = s.equations :=
  (congrArg State.equations (recompose_butBoards s p) :)

/-- R134, R135: a request that replaces figures of the shift, answered ADJUSTED where one was clamped. -/
theorem figuresReplaced {kind tag : Byte} {body : List Byte} {handle : State → Handled} {s u : State} {now : Shift}
    {adjusted : Bool} {result : Result} {reply : ReplyBody} (h : atTurn kind tag body s)
    (hd : handle (s.holding kind tag body) = doneOr adjusted u reply)
    (hu : u.butShown = ({ s.holding kind tag body with shift := some now } : State).butShown)
    (sh : Shows (s.holding kind tag body) u) (hr : (if adjusted then Result.adjusted else .done) = result) :
    ∃ t, serve kind tag body handle s = .next t ∧ t.equations = u.equations
      ∧ sameButShown { s with shift := some now } t ∧ answeredLast kind tag result reply s t := by
  subst hr
  obtain ⟨t, hx, ht, ha, hf⟩ := serve_answered h hd sh.host
  exact ⟨t, hx, by rw [ht], sameButShown_of_shows (s := s) (u := u) ⟨rfl, rfl, rfl⟩ hu sh ht hf, ha⟩

/-- Settles O19. -/
theorem shiftCorrectionsTaken : Obligations.ShiftCorrectionsTaken := by
  unfold Obligations.ShiftCorrectionsTaken
  intro tag body s sh hm hst hsh hlen
  have running : ∀ (kind : Byte) (handle : Shift → State → Handled),
      ofLength 2 body (withShift handle) (s.holding kind tag body) = handle sh (s.holding kind tag body) :=
    fun kind handle => (ofLength_fits hlen _ _).trans (withShift_running (s := s.holding kind tag body) hm hst hsh)
  refine ⟨fun h => ?_, fun h => ?_, fun h ha => ?_⟩
  · have set : sh.setTakt (clamp 300 3000 (wordAt body 0)) = { sh with
        takt := max 300 (min 3000 (wordAt body 0))
        fraction := min sh.fraction (max 300 (min 3000 (wordAt body 0)) - 1) } := by
      unfold Shift.setTakt
      rw [clamp_eq _ _ _ (by decide)]
      congr 1
      split <;> omega
    have shown : Shows (s.holding 42#8 tag body) { s.holding 42#8 tag body with
        shift := some (sh.setTakt (clamp 300 3000 (wordAt body 0))) } := .of_eq rfl rfl rfl
    have handled : setTaktNow body (s.holding 42#8 tag body) = doneOr (clamp 300 3000 (wordAt body 0) != wordAt body 0)
        ({ s.holding 42#8 tag body with
          shift := some (sh.setTakt (clamp 300 3000 (wordAt body 0))) }.recompose FieldKind.readsAccount) _ := running _ _
    have result : (if clamp 300 3000 (wordAt body 0) != wordAt body 0 then Result.adjusted else .done)
        = if 300 ≤ wordAt body 0 ∧ wordAt body 0 ≤ 3000 then .done else .adjusted := by
      rw [clamp_eq _ _ _ (by decide)]
      by_cases hw : 300 ≤ wordAt body 0 ∧ wordAt body 0 ≤ 3000
      · rw [if_pos hw, show max 300 (min 3000 (wordAt body 0)) = wordAt body 0 by omega, if_neg]
        simp
      · rw [if_neg hw, if_pos]
        rw [bne_iff_ne]; omega
    obtain ⟨t, hx, he, hs, ha⟩ := figuresReplaced h handled (recompose_butShown ..) (shown.trans (ByOps.recompose ..).shows) result
    exact ⟨t, _, hx, set, hs, he.trans (recompose_equations ..), ha⟩
  · have hv : clamp 0 9999 (wordAt body 0) = min 9999 (wordAt body 0) := by rw [clamp_eq _ _ _ (by decide)]; omega
    have handled : setVolumeNow body (s.holding 43#8 tag body) = doneOr (clamp 0 9999 (wordAt body 0) != wordAt body 0)
        ((s.holding 43#8 tag body).replaceShift (sh.setVolume (clamp 0 9999 (wordAt body 0)))) _ := running _ _
    have result : (if clamp 0 9999 (wordAt body 0) != wordAt body 0 then Result.adjusted else .done)
        = if wordAt body 0 ≤ 9999 then .done else .adjusted := by
      rw [hv]
      by_cases hw : wordAt body 0 ≤ 9999
      · rw [if_pos hw, Nat.min_eq_right hw, if_neg]
        simp
      · rw [if_neg hw, if_pos]
        rw [bne_iff_ne]; omega
    obtain ⟨t, hx, -, hs, ha⟩ := figuresReplaced h handled (replaceShift_butShown ..) (replaceShift_shows ..) result
    exact ⟨t, _, hx, by rw [hv]; rfl, hs, ha⟩
  · have handled : correctActualNow body (s.holding 44#8 tag body) = doneOr
        (clampAmount (signedAt body 0) != signedAt body 0
          || (corrected sh.actual (clampAmount (signedAt body 0)) : Int) != (sh.actual : Int) + clampAmount (signedAt body 0))
        ((s.holding 44#8 tag body).replaceShift { sh with actual := corrected sh.actual (clampAmount (signedAt body 0)) })
        _ := running _ _
    have hafter : ((corrected sh.actual (clampAmount (signedAt body 0)) : Nat) : Int)
        = max 0 (min 9999 ((sh.actual : Int) + max (-99) (min 99 (signedAt body 0)))) := by
      unfold corrected clampAmount; omega
    have result : (if clampAmount (signedAt body 0) != signedAt body 0
          || (corrected sh.actual (clampAmount (signedAt body 0)) : Int) != (sh.actual : Int) + clampAmount (signedAt body 0)
          then Result.adjusted else .done)
        = if ((corrected sh.actual (clampAmount (signedAt body 0)) : Nat) : Int) = (sh.actual : Int) + signedAt body 0
            ∧ -99 ≤ signedAt body 0 ∧ signedAt body 0 ≤ 99 then .done else .adjusted := by
      clear handled hafter
      generalize corrected sh.actual (clampAmount (signedAt body 0)) = after
      unfold clampAmount
      by_cases hw : (after : Int) = (sh.actual : Int) + signedAt body 0 ∧ -99 ≤ signedAt body 0 ∧ signedAt body 0 ≤ 99
      · rw [if_pos hw, if_neg]
        rw [Bool.or_eq_true, bne_iff_ne, bne_iff_ne]; omega
      · rw [if_neg hw, if_pos]
        rw [Bool.or_eq_true, bne_iff_ne, bne_iff_ne]; omega
    obtain ⟨t, hx, -, hs, hl⟩ := figuresReplaced h handled (replaceShift_butShown ..) (replaceShift_shows ..) result
    exact ⟨t, _, hx, hafter, hs, hl⟩

end Sys2Proof.Machine
end

section
/-! PROOFS. SectionRequests: RESTART SECTION and RELEASE HISTORY (R65, R152). -/

namespace Sys2Proof.Machine

/-- What an operation on stop logic leaves is all but what it is shown in, stop logic and the loops. -/
theorem butShown_of_stops {s t : State} (h : t.butStops = s.butStops) :
    t.butShown = ({ s with stops := t.stops, loopA := t.loopA, loopB := t.loopB } : State).butShown :=
  (congrArg (fun y : State => ({ y with stops := t.stops, loopA := t.loopA, loopB := t.loopB } : State).butShown) h :)

/-! ## RESTART SECTION (R65) -/

theorem heldOtherwise_iff {s : State} {n : Nat} :
    heldOtherwise s n = true ↔ (pick s.stops n).holdOrder ≠ [] ∨ (pick s.stops n).overflow = true := by
  unfold heldOtherwise; simp

/-- R62, R65: with no other cause left, a restart releases the section. -/
theorem giveRestart_released {s : State} {n : Nat} (h : heldOtherwise s n = false) :
    (s.giveRestart n).stops = alter s.stops n fun x => { x with pending := false, request := false } := by
  rw [giveRestart_stops]
  refine alter_congr_at _ ?_
  unfold heldOtherwise at h
  simp [StopLogic.lined, StopLogic.hasCause] at h ⊢
  simp [h]

theorem giveRestart_announces (s : State) (n : Nat) : loopsAnnounce s (s.giveRestart n) := by
  have same : ((s.modStop n fun x => { x with pending := false }).handOn [.sectionAspect n .pending]).announceView
      = s.announceView := (handOn_view ..).trans (modStop_view _ _ fun _ => rfl)
  exact loopsAnnounce_congr same.symm rfl (lineUp_announces ..)

theorem restartGiven_held {s : State} {n : Nat} (h : heldOtherwise s n = true) :
    restartGiven n s = refuse s .wrongState := if_pos h

theorem restartGiven_idle {s : State} {n : Nat} (h : heldOtherwise s n = false) (hp : (pick s.stops n).pending = false) :
    restartGiven n s = done s (.restarted n (pick s.stops n).request false) := by
  unfold restartGiven; rw [h, hp]; rfl

theorem restartGiven_pending {s : State} {n : Nat} (h : heldOtherwise s n = false) (h1 : 1 ≤ n) (h2 : n ≤ 4)
    (hp : (pick s.stops n).pending = true) :
    restartGiven n s = done (s.giveRestart n) (.restarted n false true) := by
  have released : (pick (s.giveRestart n).stops n).request = false := by
    rw [giveRestart_released h, pick_alter_within _ _ h1 h2, if_pos rfl]
  unfold restartGiven
  rw [h, hp]
  show done (s.giveRestart n) (.restarted n (pick (s.giveRestart n).stops n).request true) = _
  rw [released]

/-- Settles O23. -/
theorem restartSectionTaken : Obligations.RestartSectionTaken := by
  unfold Obligations.RestartSectionTaken
  intro tag body s h hlen h1 h2
  have taken : ∀ t : State, restartSectionNow body t =
      if (t.sectionDef (byteAt body 0)).isSome then inMode .run (restartGiven (byteAt body 0)) t else refuse t .notFound :=
    fun t => (ofLength_fits hlen _ _).trans (if_pos (within_of_le h1 h2))
  have defined : ∀ d, s.sectionDef (byteAt body 0) = some d → ((s.holding 51#8 tag body).sectionDef (byteAt body 0)).isSome = true :=
    fun d hd => Option.isSome_iff_exists.mpr ⟨d, hd⟩
  have given : ∀ d, s.sectionDef (byteAt body 0) = some d → s.mode = .run →
      restartSectionNow body (s.holding 51#8 tag body) = restartGiven (byteAt body 0) (s.holding 51#8 tag body) :=
    fun d hd hm => (taken _).trans ((if_pos (defined d hd)).trans (inMode_fits (s := s.holding 51#8 tag body) hm _))
  refine ⟨fun hd => ?_, fun d hd => ⟨fun hm => ?_, fun hm held => ?_, fun hm ho hov => ⟨fun hp => ?_, fun hp => ?_⟩⟩⟩
  · have undefined : (s.holding 51#8 tag body).sectionDef (byteAt body 0) = none := hd
    exact serve_refused h ((taken _).trans (by rw [undefined]; rfl))
  · have away : (s.holding 51#8 tag body).mode ≠ .run := fun e => nomatch hm.symm.trans e
    exact serve_refused h ((taken _).trans ((if_pos (defined d hd)).trans (inMode_misfits away _)))
  · exact serve_refused h ((given d hd hm).trans (restartGiven_held (s := s.holding 51#8 tag body) (heldOtherwise_iff.mpr held)))
  · have free : heldOtherwise (s.holding 51#8 tag body) (byteAt body 0) = false := by
      rw [Bool.eq_false_iff, Ne, heldOtherwise_iff (s := s.holding 51#8 tag body)]
      rintro (e | e)
      · exact e ho
      · exact nomatch hov.symm.trans e
    exact serve_done (t := s) h ((given d hd hm).trans (restartGiven_idle free hp))
  · have free : heldOtherwise (s.holding 51#8 tag body) (byteAt body 0) = false := by
      rw [Bool.eq_false_iff, Ne, heldOtherwise_iff (s := s.holding 51#8 tag body)]
      rintro (e | e)
      · exact e ho
      · exact nomatch hov.symm.trans e
    have handled := (given d hd hm).trans (restartGiven_pending free h1 h2 hp)
    have hs := (ByOps.giveRestart (s.holding 51#8 tag body) (byteAt body 0)).shows
    have hl := giveRestart_announces (s.holding 51#8 tag body) (byteAt body 0)
    have released := giveRestart_released free
    have hu := butShown_of_stops (giveRestart_butStops (s.holding 51#8 tag body) (byteAt body 0))
    generalize (s.holding 51#8 tag body).giveRestart (byteAt body 0) = u at handled hs hl hu released
    obtain ⟨t, hx, ht, ha, hf⟩ := serve_answered h handled hs.host
    have hA : t.loopA = u.loopA := by rw [ht]
    have hB : t.loopB = u.loopB := by rw [ht]
    refine ⟨t, hx, ha, loopsAnnounce_answered hl ht, sameButShown_of_shows (s := s) (u := u) ⟨rfl, rfl, rfl⟩ ?_ hs ht hf⟩
    rw [hA, hB, hu, released]
    rfl

/-! ## RELEASE HISTORY (R152) -/

/-- R141: in a history queue in order the record at place `i` has the oldest sequence and `i` more. -/
theorem sequencesRun_seq {h : List HistoryRecord} {x : HistoryRecord} {next : Nat} (hs : sequencesRun (x :: h) next) {i : Nat}
    {r : HistoryRecord} (hr : (x :: h)[i]? = some r) : r.seq = (x.seq + i) % 65536 := by
  induction h generalizing x i with
  | nil =>
    cases i with
    | zero => cases hr; exact (Nat.mod_eq_of_lt hs.1).symm
    | succ i => simp at hr
  | cons y h ih =>
    obtain ⟨hx, hy, hrest⟩ := hs
    cases i with
    | zero => cases hr; exact (Nat.mod_eq_of_lt hx).symm
    | succ i =>
      have := ih hrest hr
      omega

theorem sequence_at {s : State} (h : historyInOrder s) {i : Nat} {r : HistoryRecord} (hr : s.history[i]? = some r) :
    r.seq = (oldestSeq s + i) % 65536 := by
  unfold historyInOrder at h
  unfold oldestSeq
  cases hh : s.history with
  | nil => rw [hh] at hr; cases hr
  | cons x rest =>
    rw [hh] at h hr
    exact sequencesRun_seq h hr

theorem oldestSeq_lt {s : State} (h : historyInOrder s) : oldestSeq s < 65536 := by
  unfold historyInOrder at h
  unfold oldestSeq
  cases hh : s.history with
  | nil => rw [hh] at h; exact h
  | cons x rest =>
    rw [hh] at h
    cases rest with
    | nil => exact h.1
    | cons y rest => exact h.1

/-- R152: the record with the sequence is found at its place. -/
theorem releaseCount_found {s : State} (h : historyInOrder s) (hlen : s.history.length ≤ 128) {i : Nat} {r : HistoryRecord}
    (hr : s.history[i]? = some r) : releaseCount s r.seq = some (i + 1) := by
  obtain ⟨hi, -⟩ := List.getElem?_eq_some_iff.mp hr
  have hold := oldestSeq_lt h
  have hseq := sequence_at h hr
  have place : (r.seq + 65536 - oldestSeq s) % 65536 = i := by omega
  unfold releaseCount
  rw [place]
  exact if_pos hi

theorem releaseCount_missing {s : State} (h : historyInOrder s) {seq : Nat} (hseq : seq < 65536)
    (hn : ∀ r ∈ s.history, r.seq ≠ seq) : releaseCount s seq = none := by
  have hold := oldestSeq_lt h
  unfold releaseCount
  refine if_neg fun hlt => ?_
  have := sequence_at h (List.getElem?_eq_getElem hlt)
  exact hn _ (List.getElem_mem hlt) (by omega)

theorem wordAt_lt (body : List Byte) (i : Nat) : wordAt body i < 65536 := by
  unfold wordAt byteAt
  have h1 := ((body[i]?).getD 0#8).isLt
  have h2 := ((body[i + 1]?).getD 0#8).isLt
  omega

/-- Settles O27. -/
theorem releaseHistoryTaken : Obligations.ReleaseHistoryTaken := by
  unfold Obligations.ReleaseHistoryTaken
  intro tag body s h hm hlen ho hfit
  have taken : ∀ c, releaseCount s (wordAt body 0) = c → releaseHistoryNow body (s.holding 61#8 tag body) = match c with
      | some k => done ((s.holding 61#8 tag body).releaseRecords k) (releasedBody ((s.holding 61#8 tag body).releaseRecords k) k)
      | none => ⟨s.holding 61#8 tag body, some (.notFound, releasedBody (s.holding 61#8 tag body) 0)⟩ := by
    rintro c rfl
    exact (ofLength_fits hlen _ _).trans (inMode_fits (s := s.holding 61#8 tag body) hm _)
  refine ⟨fun i r hr hseq => ?_, fun hn => ?_⟩
  · have found := taken _ (hseq ▸ releaseCount_found ho hfit hr)
    obtain ⟨hi, -⟩ := List.getElem?_eq_some_iff.mp hr
    obtain ⟨t, hx, ht, ha, -⟩ := serve_answered h found (.refl _)
    refine ⟨t, hx, ht.trans ?_, oldestSeq (s.releaseRecords (i + 1)), ?_⟩
    · unfold State.releaseRecords
      have last : (List.drop (i + 1) s.history).isEmpty = true ↔ s.history.length = i + 1 := by
        rw [List.isEmpty_iff, List.drop_eq_nil_iff]; omega
      simp only [State.holding, last]
    · have rest : (s.history.drop (i + 1)).length = s.history.length - (i + 1) := List.length_drop
      rw [← rest]
      exact ha
  · exact serve_done (t := s) h (taken _ (releaseCount_missing ho (wordAt_lt ..) hn))

end Sys2Proof.Machine
end

section
/-! PROOFS. Pulses: encoder pulses, sync edges, raw input changes, arming and the three expiries of O38 (R35–R41, R46, R53,
R148, R168, R179). -/

namespace Sys2Proof.Machine

/-! ## One notice (R182) -/

theorem notify_quiet {s : State} {n : Notice} (h : pick s.host.reports n.kind.place = false) : s.notify n = s := by
  unfold State.notify; rw [h]; rfl

theorem notify_room {s : State} {n : Notice} (h : pick s.host.reports n.kind.place = true)
    (hr : s.host.outbound.length < 24) :
    (s.notify n).host = { s.host with
      outbound := s.host.outbound ++ [.notice s.timeOfDay n], sending := s.host.sending || !s.host.paused } := by
  unfold State.notify; rw [h, if_pos rfl, if_pos (show _ < Config.noticeCapacity from hr)]; rfl

theorem notify_lost {s : State} {n : Notice} (h : pick s.host.reports n.kind.place = true)
    (hr : 24 ≤ s.host.outbound.length) :
    (s.notify n).host = { s.host with lostNotices := min 65535 (s.host.lostNotices + 1) } := by
  unfold State.notify
  rw [h, if_pos rfl, if_neg (show ¬ _ < Config.noticeCapacity from Nat.not_lt.mpr hr)]; rfl

theorem notify_eq (s : State) (n : Notice) : s.notify n = { s with host := (s.notify n).host } :=
  eq_with_host_of_butHost (notify_butHost s n)

/-! ## Arming (R53) -/

/-- Settles O46: the gap from the phase to the mark, and a pitch more where that is below R. -/
theorem armingInRange : Obligations.ArmingInRange := by
  unfold Obligations.ArmingInRange
  intro d phase mark h1 h2 h3
  have hm : mark % d.pitch < d.pitch := Nat.mod_lt _ (by omega)
  have reached : ∀ x, (x = mark % d.pitch ∨ x = mark % d.pitch + d.pitch ∨ x = mark % d.pitch + d.pitch + d.pitch) →
      x % d.pitch = mark % d.pitch := by
    rintro x (rfl | rfl | rfl) <;> simp only [Nat.add_mod_right, Nat.mod_mod]
  unfold armDistance
  dsimp only
  generalize mark % d.pitch = m at *
  refine ⟨?_, ?_, reached _ ?_⟩ <;> split <;> split <;> omega

/-! ## The expiries of the stale, the refresh and the probe timer (R148, R168, R179) -/

theorem takeStale_due {s : State} (h : s.staleTimer = some 0) : s.takeStale = s.historyOccasion true := if_pos h

theorem refreshBoard_board {s : State} {b m : Nat} (h1 : 1 ≤ m) (h2 : m ≤ 8) :
    pick (s.refreshBoard b).boards m =
      if m = b then { pick s.boards m with queue := [clearFrame], clearing := true, owed := false } else pick s.boards m := by
  show pick (alter s.boards b _) m = _
  rw [pick_alter_within _ _ h1 h2]

theorem refreshBoard_field {s : State} {b m f : Nat} (h1 : 1 ≤ m) (h2 : m ≤ 8) (f1 : 1 ≤ f) (f2 : f ≤ 12) :
    pick (pick (s.refreshBoard b).fields m) f =
      if m = b ∧ (s.fieldDef m f).isSome = true then { pick (pick s.fields m) f with marked := true }
      else pick (pick s.fields m) f := by
  show pick (pick (alter s.fields b _) m) f = _
  rw [pick_alter_within _ _ h1 h2]
  by_cases hm : m = b
  · subst hm
    rw [if_pos rfl, pick_alterAll _ _ f1 f2]
    simp only [true_and]
    rfl
  · rw [if_neg hm, if_neg fun h => hm h.1]

/-- R166, R168: the step of a refresh of boards that one board takes. -/
def refreshWhere (p : Board → Bool) (s : State) (b : Nat) : State :=
  if (s.boardDepth b).isSome && p (pick s.boards b) then s.refreshBoard b else s

theorem refreshBoards_eq (s : State) (p : Board → Bool) : s.refreshBoards p = (numbers 8).foldl (refreshWhere p) s := rfl

theorem refreshWhere_defs (p : Board → Bool) (s : State) (b : Nat) : (refreshWhere p s b).defs = s.defs := by
  unfold refreshWhere; split <;> rfl

/-- R168: each board that the refresh is of has a CLEAR alone in its queue. -/
theorem refreshBoards_board (s : State) (p : Board → Bool) {b : Nat} (h1 : 1 ≤ b) (h2 : b ≤ 8) :
    pick (s.refreshBoards p).boards b =
      if (s.boardDepth b).isSome = true ∧ p (pick s.boards b) = true then
        { pick s.boards b with queue := [clearFrame], clearing := true, owed := false }
      else pick s.boards b := by
  rw [refreshBoards_eq]
  refine foldl_at (fun t : State => pick t.boards b) (fun t => t.defs = s.defs)
    (fun x y => y = if (s.boardDepth b).isSome = true ∧ p x = true then
      { x with queue := [clearFrame], clearing := true, owed := false } else x) (refreshWhere p) b
    (fun t k ht => (refreshWhere_defs p t k).trans ht) (fun t k ht hk => ?_) (fun t ht => ?_) (numbers 8) s (numbers_nodup 8)
    (mem_numbers.mpr ⟨h1, h2⟩) rfl
  · unfold refreshWhere
    split
    · exact (refreshBoard_board h1 h2).trans (if_neg (Ne.symm hk))
    · rfl
  · have hd : t.boardDepth b = s.boardDepth b := by unfold State.boardDepth; rw [ht]
    unfold refreshWhere
    rw [hd]
    simp only [Bool.and_eq_true]
    split
    · exact (refreshBoard_board h1 h2).trans (if_pos rfl)
    · rfl

/-- R168: … and its defined fields are marked. -/
theorem refreshBoards_field (s : State) (p : Board → Bool) {b f : Nat} (h1 : 1 ≤ b) (h2 : b ≤ 8) (f1 : 1 ≤ f) (f2 : f ≤ 12) :
    pick (pick (s.refreshBoards p).fields b) f =
      if ((s.boardDepth b).isSome = true ∧ p (pick s.boards b) = true) ∧ (s.fieldDef b f).isSome = true then
        { pick (pick s.fields b) f with marked := true }
      else pick (pick s.fields b) f := by
  rw [refreshBoards_eq]
  have both := foldl_at (fun t : State => (pick t.boards b, pick (pick t.fields b) f)) (fun t => t.defs = s.defs)
    (fun x y => y.2 = if ((s.boardDepth b).isSome = true ∧ p x.1 = true) ∧ (s.fieldDef b f).isSome = true then
      { x.2 with marked := true } else x.2) (refreshWhere p) b
    (fun t k ht => (refreshWhere_defs p t k).trans ht) (fun t k ht hk => ?_) (fun t ht => ?_) (numbers 8) s (numbers_nodup 8)
    (mem_numbers.mpr ⟨h1, h2⟩) rfl
  · exact both
  · unfold refreshWhere
    split
    · rw [refreshBoard_board h1 h2, if_neg (Ne.symm hk), refreshBoard_field h1 h2 f1 f2, if_neg fun h => hk h.1.symm]
    · rfl
  · have hd : t.boardDepth b = s.boardDepth b := by unfold State.boardDepth; rw [ht]
    have hf : t.fieldDef b f = s.fieldDef b f := by unfold State.fieldDef; rw [ht]
    unfold refreshWhere
    rw [hd]
    by_cases hc : (s.boardDepth b).isSome = true ∧ p (pick t.boards b) = true
    · rw [if_pos (by rw [Bool.and_eq_true]; exact hc), refreshBoard_field h1 h2 f1 f2, hf]
      simp only [hc, true_and]
    · rw [if_neg (by rw [Bool.and_eq_true]; exact hc), if_neg fun h => hc h.1]

theorem eq_of_butBoards {s t : State} (h : t.butBoards = s.butBoards) : t = { s with boards := t.boards, fields := t.fields } :=
  (congrArg (fun y : State => { y with boards := t.boards, fields := t.fields }) h :)

theorem takeRefresh_due {s : State} (h : s.refreshTimer = some 0) :
    s.takeRefresh = { s with
      boards := (s.refreshBoards fun b => b.state != .dark).boards
      fields := (s.refreshBoards fun b => b.state != .dark).fields, refreshTimer := refreshLoad s } := by
  have whole := eq_of_butBoards (refreshBoards_butBoards s fun b => b.state != .dark)
  unfold State.takeRefresh
  rw [if_pos h]
  generalize s.refreshBoards (fun b => b.state != .dark) = u at whole ⊢
  exact congrArg (fun y : State => { y with refreshTimer := refreshLoad s }) whole

/-- Settles O38. -/
theorem timersTaken : Obligations.TimersTaken := by
  unfold Obligations.TimersTaken
  refine fun s => ⟨fun h => ?_, fun h => ?_, fun h => ?_, fun h => ?_, fun b h1 h2 => ⟨fun h => ?_, fun h => ?_⟩⟩
  · refine ⟨_, congrArg Host.Outcome.next (takeStale_due h), notify_eq _ _, fun hq => ?_, fun hq hr => ?_, fun hq hr => ?_⟩
    · unfold State.historyOccasion; rw [notify_quiet hq]
    · exact notify_room hq hr
    · exact notify_lost hq hr
  · exact congrArg Host.Outcome.next (takeStale_of_not_due h)
  · have due := takeRefresh_due h
    have hb := fun b h1 h2 => refreshBoards_board s (fun b => b.state != .dark) (b := b) h1 h2
    have hf := fun b f h1 h2 f1 f2 => refreshBoards_field s (fun b => b.state != .dark) (b := b) (f := f) h1 h2 f1 f2
    simp only [bne_iff_ne, and_assoc] at hb hf
    generalize (s.refreshBoards fun b => b.state != .dark).boards = v at due hb
    generalize (s.refreshBoards fun b => b.state != .dark).fields = w at due hf
    exact ⟨_, congrArg Host.Outcome.next due, rfl, hb, hf⟩
  · exact congrArg Host.Outcome.next (takeRefresh_of_not_due h)
  · have taken : s.takeProbe b = s.modBoard b fun x => { x with probeTimer := none, probeDue := true } := if_pos h
    show execProbeTimerExpiry b s = _
    unfold execProbeTimerExpiry
    rw [if_pos (within_of_le h1 h2), taken]
    rfl
  · show execProbeTimerExpiry b s = _
    unfold execProbeTimerExpiry
    rw [if_pos (within_of_le h1 h2), takeProbe_of_not_due h]

end Sys2Proof.Machine
end

section
/-! PROOFS. Pulses: encoder pulses, sync edges, raw input changes and the stop distance's expiry (R35–R41, R46, R55). -/

namespace Sys2Proof.Machine

/-! ## The actual count (R132) -/

/-- R132: the shift with one body more, where the section counts by that source. -/
def bodyCount (s : State) (n : Nat) (a : ActualSource) : Option Shift :=
  if s.defs.counting = n ∧ s.defs.source = a ∧ s.shiftState ≠ .none then
    s.shift.map fun sh => { sh with actual := min 9999 (sh.actual + 1) }
  else s.shift

theorem bodyProduced_butShown {s : State} (h : s.shiftState ≠ .none) :
    s.bodyProduced.butShown =
      ({ s with shift := s.shift.map fun sh => { sh with actual := min 9999 (sh.actual + 1) } } : State).butShown := by
  unfold State.bodyProduced
  rw [if_neg h]
  exact (recompose_butShown ..).trans (handBehind_butShown ..)

theorem countRose_butShown (s : State) (n : Nat) (a : ActualSource) :
    (s.countRose n a).butShown = ({ s with shift := bodyCount s n a } : State).butShown := by
  unfold State.countRose bodyCount
  by_cases hc : s.defs.counting = n ∧ s.defs.source = a
  · rw [if_pos hc]
    by_cases hs : s.shiftState = .none
    · rw [if_neg fun h => h.2.2 hs]
      unfold State.bodyProduced
      rw [if_pos hs]
    · rw [if_pos ⟨hc.1, hc.2, hs⟩]
      exact bodyProduced_butShown hs
  · rw [if_neg hc, if_neg fun h => hc ⟨h.1, h.2.1⟩]

theorem countRose_host (s : State) (n : Nat) (a : ActualSource) : (s.countRose n a).host = s.host := by
  unfold State.countRose State.bodyProduced State.handBehind
  dsimp only
  split
  · split
    · rfl
    · split <;> simp
  · rfl

/-! ## Distance (R37, R57) -/

theorem forwardDistance_congr {t x : State} (h : t.butShown = x.butShown) (n k : Nat) :
    (t.forwardDistance n k).butShown = (x.forwardDistance n k).butShown :=
  (congrArg (fun y : State => (y.forwardDistance n k).butShown) h :)

/-- R37: a pitch counted, and what it does to the actual count. -/
def State.pitched (s : State) (n : Nat) : State :=
  { s with trackers := alter s.trackers n fun t => { t with pitchCount := wrap 65535 t.pitchCount }
           shift := bodyCount s n .pitch }

theorem pitchRises_butShown (s : State) (n : Nat) : (s.pitchRises n).butShown = (s.pitched n).butShown :=
  countRose_butShown ..

theorem pitchRises_host (s : State) (n : Nat) : (s.pitchRises n).host = s.host := countRose_host ..

theorem modTracker_shows (s : State) (n : Nat) (f : Tracker → Tracker) : Shows s (s.modTracker n f) := .of_eq rfl rfl rfl

theorem pitchRises_shows (s : State) (n : Nat) : Shows s (s.pitchRises n) :=
  (modTracker_shows ..).trans (ByOps.countRose ..).shows

theorem forwardDistance_shows (s : State) (n k : Nat) : Shows s (s.forwardDistance n k) := .of_eq rfl rfl rfl

/-! ## Encoder pulses (R35, R36) -/

theorem liveSection_some {s : State} {n : Nat} {d : SectionDef} (hm : s.mode = .run) (hd : s.sectionDef n = some d) :
    liveSection s n = some d := by unfold liveSection; rw [if_pos hm, hd]

theorem liveSection_none {s : State} {n : Nat} (h : s.mode = .config ∨ s.sectionDef n = none) : liveSection s n = none := by
  unfold liveSection
  rcases h with h | h
  · rw [h]; rfl
  · rw [h]; split <;> rfl

theorem forwardPulse_live {s : State} {n : Nat} {d : SectionDef} (hs : settled s = true) (h1 : 1 ≤ n) (h2 : n ≤ 4)
    (hm : s.mode = .run) (hd : s.sectionDef n = some d) : exec (.encoderForwardPulse n) s = .next (s.forwardPulse n d) := by
  show execEncoderForwardPulse n s = _
  unfold execEncoderForwardPulse
  rw [if_pos (within_of_le h1 h2), settled_takeDue hs]
  dsimp only
  rw [liveSection_some hm hd]

theorem forwardPulse_dead {s : State} {n : Nat} (hs : settled s = true) (h1 : 1 ≤ n) (h2 : n ≤ 4)
    (h : s.mode = .config ∨ s.sectionDef n = none) : exec (.encoderForwardPulse n) s = .next s := by
  show execEncoderForwardPulse n s = _
  unfold execEncoderForwardPulse
  rw [if_pos (within_of_le h1 h2), settled_takeDue hs]
  dsimp only
  rw [liveSection_none h]

theorem reversePulse_live {s : State} {n : Nat} {d : SectionDef} (hs : settled s = true) (h1 : 1 ≤ n) (h2 : n ≤ 4)
    (hm : s.mode = .run) (hd : s.sectionDef n = some d) : exec (.encoderReversePulse n) s = .next (s.reversePulse n d) := by
  show execEncoderReversePulse n s = _
  unfold execEncoderReversePulse
  rw [if_pos (within_of_le h1 h2), settled_takeDue hs]
  dsimp only
  rw [liveSection_some hm hd]

theorem reversePulse_dead {s : State} {n : Nat} (hs : settled s = true) (h1 : 1 ≤ n) (h2 : n ≤ 4)
    (h : s.mode = .config ∨ s.sectionDef n = none) : exec (.encoderReversePulse n) s = .next s := by
  show execEncoderReversePulse n s = _
  unfold execEncoderReversePulse
  rw [if_pos (within_of_le h1 h2), settled_takeDue hs]
  dsimp only
  rw [liveSection_none h]

/-- R35: the pulse that completes a pitch. -/
theorem pitchPulse_butShown (s : State) (n : Nat) :
    (((s.modTracker n fun t => { t with phase := 0 }).pitchRises n).forwardDistance n 1).butShown =
      ({ s with
        trackers := alter s.trackers n fun x => { x with
          phase := 0, pitchCount := if x.pitchCount < 65535 then x.pitchCount + 1 else 0 }
        stops := alter s.stops n fun x => { x with coast := min 65535 (x.coast + 1) }
        calls := s.calls.map (countDown n 1)
        shift := bodyCount s n .pitch } : State).butShown := by
  refine (forwardDistance_congr (pitchRises_butShown ..) n 1).trans ?_
  unfold State.pitched
  rw [modTracker_trackers, alter_alter]
  simp only [wrap_65535]
  rfl

theorem forwardPulse_shows (s : State) (n : Nat) (d : SectionDef) : Shows s (s.forwardPulse n d) := by
  unfold State.forwardPulse
  refine .ite (modTracker_shows ..) (.ite (.of_eq rfl rfl rfl) ?_)
  exact ((modTracker_shows ..).trans (pitchRises_shows ..)).trans (forwardDistance_shows ..)

/-- Settles O39. -/
theorem forwardPulseTaken : Obligations.ForwardPulseTaken := by
  unfold Obligations.ForwardPulseTaken
  refine fun s n hs h1 h2 => ⟨forwardPulse_dead hs h1 h2, fun d hm hd => ?_⟩
  rw [forwardPulse_live hs h1 h2 hm hd]
  refine ⟨fun h => ?_, fun h hp => ?_, fun h hp => ?_⟩
  · exact congrArg Host.Outcome.next (if_pos h)
  · have taken : s.forwardPulse n d = (s.modTracker n fun t => { t with phase := t.phase + 1 }).forwardDistance n 1 :=
      (if_neg (by omega)).trans (if_pos hp)
    exact congrArg Host.Outcome.next taken
  · have taken : s.forwardPulse n d = ((s.modTracker n fun t => { t with phase := 0 }).pitchRises n).forwardDistance n 1 :=
      (if_neg (by omega)).trans (if_neg (by omega))
    have hu := pitchPulse_butShown s n
    have hh : (((s.modTracker n fun t => { t with phase := 0 }).pitchRises n).forwardDistance n 1).host = s.host :=
      pitchRises_host ..
    rw [← taken] at hu hh
    have hsh : (s.forwardPulse n d).shift = bodyCount s n .pitch := (congrArg State.shift hu :)
    refine ⟨_, rfl, sameButShown_of_change (s := s) ⟨rfl, rfl, rfl⟩ ?_ (forwardPulse_shows ..), hh, hsh⟩
    rw [hsh]
    exact hu

/-- Settles O40. -/
theorem reversePulseTaken : Obligations.ReversePulseTaken := by
  unfold Obligations.ReversePulseTaken
  refine fun s n hs h1 h2 => ⟨reversePulse_dead hs h1 h2, fun d hm hd => ?_⟩
  rw [reversePulse_live hs h1 h2 hm hd]
  refine ⟨fun h => ?_, fun h hp => ?_, fun h hp => ?_⟩
  · exact congrArg Host.Outcome.next (if_pos h)
  · have taken : s.reversePulse n d = s := (if_neg (by omega)).trans (if_pos hp)
    exact congrArg Host.Outcome.next taken
  · have taken : s.reversePulse n d = (s.modTracker n fun t => { t with saturated := true }).rollbackNotice n :=
      (if_neg (by omega)).trans (if_neg (by rw [hp]; decide))
    have tracker : pick (s.modTracker n fun t => { t with saturated := true }).trackers n
        = { pick s.trackers n with saturated := true } := by
      rw [modTracker_trackers, pick_alter_within _ _ h1 h2, if_pos rfl]
    refine ⟨_, congrArg Host.Outcome.next taken, notify_eq _ _, fun hq => ?_, fun hq hr => ?_⟩
    · have quiet := fun q o p h c => notify_quiet (s := s.modTracker n fun t => { t with saturated := true }) (n := .sec n c q o p h) hq
      exact (congrArg State.host (quiet _ _ _ _ _) :)
    · refine ⟨_, notify_room (s := s.modTracker n fun t => { t with saturated := true }) (n := .sec n _ _ _ _ _) hq hr, ?_⟩
      rw [tracker]
      exact ⟨_, _, _, _, rfl⟩

/-! ## Sync edges (R38, R39) -/

theorem dropDebt_shows (s : State) (n : Nat) : Shows s (s.dropDebt n) := by
  unfold State.dropDebt
  exact (modTracker_shows ..).trans (.ite (notify_shows ..) (.refl _))

theorem dropDebt_butShown (s : State) (n : Nat) :
    (s.dropDebt n).butShown = (s.modTracker n fun t => { t with debt := 0, saturated := false }).butShown :=
  (congrArg State.butShown (dropDebt_butHost s n) :)

theorem syncEdge_aligned {s : State} {n : Nat} {d : SectionDef} (h : (pick s.trackers n).phase = 0) :
    s.syncEdge n d = (s.dropDebt n).modTracker n fun t => { t with lastSync := some (.aligned, 0) } := by
  unfold State.syncEdge
  dsimp only
  rw [dropDebt_phase, if_pos h]

theorem syncEdge_forward {s : State} {n : Nat} {d : SectionDef} (h : d.pitch / 2 ≤ (pick s.trackers n).phase)
    (hpos : 0 < (pick s.trackers n).phase) :
    s.syncEdge n d = (((s.dropDebt n).modTracker n fun t =>
        { t with phase := 0, lastSync := some (.forward, d.pitch - (pick s.trackers n).phase) }).pitchRises n).forwardDistance
      n (d.pitch - (pick s.trackers n).phase) := by
  unfold State.syncEdge
  dsimp only
  rw [dropDebt_phase, if_neg hpos.ne', if_pos h]

/-- R39: the tracker after a forward jump. -/
def Tracker.jumped (d : SectionDef) (x : Tracker) : Tracker :=
  { x with
    debt := 0, saturated := false, phase := 0
    pitchCount := if x.pitchCount < 65535 then x.pitchCount + 1 else 0, lastSync := some (.forward, d.pitch - x.phase) }

theorem pitched_congr {t x : State} (h : t.butShown = x.butShown) (n : Nat) (f : Tracker → Tracker) :
    ((t.modTracker n f).pitched n).butShown = ((x.modTracker n f).pitched n).butShown :=
  (congrArg (fun y : State => ((y.modTracker n f).pitched n).butShown) h :)

theorem syncEdge_forward_butShown {s : State} {n : Nat} {d : SectionDef} (h : d.pitch / 2 ≤ (pick s.trackers n).phase)
    (hpos : 0 < (pick s.trackers n).phase) :
    (s.syncEdge n d).butShown = ({ s with
        trackers := alter s.trackers n (Tracker.jumped d)
        stops := alter s.stops n fun x => { x with coast := min 65535 (x.coast + (d.pitch - (pick s.trackers n).phase)) }
        calls := s.calls.map (countDown n (d.pitch - (pick s.trackers n).phase))
        shift := bodyCount s n .pitch } : State).butShown := by
  rw [syncEdge_forward h hpos]
  have jumped : alter (alter (alter s.trackers n fun t => { t with debt := 0, saturated := false }) n fun t =>
        { t with phase := 0, lastSync := some (.forward, d.pitch - (pick s.trackers n).phase) }) n
        (fun t => { t with pitchCount := wrap 65535 t.pitchCount }) = alter s.trackers n (Tracker.jumped d) := by
    rw [alter_alter, alter_alter]
    refine alter_congr_at _ ?_
    rw [wrap_65535]
    rfl
  have pitched : (((s.dropDebt n).modTracker n fun t =>
      { t with phase := 0, lastSync := some (.forward, d.pitch - (pick s.trackers n).phase) }).pitchRises n).butShown =
      ({ s with trackers := alter s.trackers n (Tracker.jumped d), shift := bodyCount s n .pitch } : State).butShown := by
    rw [← jumped]
    exact (pitchRises_butShown ..).trans (pitched_congr (dropDebt_butShown s n) n _)
  exact forwardDistance_congr pitched n _

theorem syncEdge_shows (s : State) (n : Nat) (d : SectionDef) : Shows s (s.syncEdge n d) := by
  unfold State.syncEdge
  refine (dropDebt_shows s n).trans (.ite (modTracker_shows ..) (.ite ?_ (.of_eq rfl rfl rfl)))
  exact ((modTracker_shows ..).trans (pitchRises_shows ..)).trans (forwardDistance_shows ..)

/-- Settles O41. -/
theorem syncEdgeForwardOrAligned : Obligations.SyncEdgeForwardOrAligned := by
  unfold Obligations.SyncEdgeForwardOrAligned
  refine fun s n d h1 h2 => ⟨fun h hpos => ?_, fun h => ?_⟩
  · have hu := syncEdge_forward_butShown h hpos
    have hsh : (s.syncEdge n d).shift = bodyCount s n .pitch := (congrArg State.shift hu :)
    refine sameButShown_of_change (s := s) ⟨rfl, rfl, rfl⟩ ?_ (syncEdge_shows s n d)
    rw [hsh]
    exact hu
  · rw [syncEdge_aligned h, dropDebt_eq]
    unfold State.modTracker
    dsimp only
    rw [alter_alter, alter_congr_at s.trackers (g := fun x =>
      { x with debt := 0, saturated := false, phase := 0, lastSync := some (.aligned, 0) }) (by rw [← h])]

/-! ## Raw input changes (R46) -/

/-- Settles O44. -/
theorem rawInputTaken : Obligations.RawInputTaken := by
  unfold Obligations.RawInputTaken
  intro s k level hs h1 h2
  have taken : exec (.rawInputChange k level) s = .next (s.rawChange k level) := by
    show execRawInputChange k level s = _
    unfold execRawInputChange
    rw [if_pos (within_of_le h1 h2), settled_takeDue hs]
  refine ⟨fun h => taken.trans (congrArg Host.Outcome.next (if_pos h)), fun h hd => ?_, fun h hd => ⟨fun hz => ?_, fun hz => ?_⟩⟩
  · refine taken.trans (congrArg Host.Outcome.next ((if_neg h).trans ?_))
    rw [hd]
    simp
  · refine taken.trans (congrArg Host.Outcome.next ((if_neg h).trans ?_))
    have away : (level != (pick s.inputs k).debounced) = true := by rw [bne_iff_ne]; exact Ne.symm hd
    rw [away]
    simp [hz]
  · have away : (level != (pick s.inputs k).debounced) = true := by rw [bne_iff_ne]; exact Ne.symm hd
    refine taken.trans ?_
    show _ = execInputDebounceExpiry k _
    unfold execInputDebounceExpiry
    have due : settled { s with inputs := alter s.inputs k fun x => { x with raw := level, timing := true } } = true := hs
    rw [if_pos (within_of_le h1 h2), settled_takeDue due]
    dsimp only
    rw [pick_alter_within _ _ h1 h2, if_pos rfl, if_pos rfl]
    unfold State.rawChange
    dsimp only
    rw [if_neg h, away, hz]
    rfl

end Sys2Proof.Machine
end

section
/-! PROOFS. CallOperations: what the operations on a call do to stop logic, the announcements and the lamps (R5, R12–R15,
R22, R56, R59). -/

namespace Sys2Proof.Machine

/-! ## Views -/

theorem announceView_of_lineView {s t : State} (h : t.lineView = s.lineView) : t.announceView = s.announceView :=
  (congrArg State.announceView h :)

theorem callsChanged_view (s : State) (c : Call) (full : Bool) : (s.callsChanged c full).announceView = s.announceView :=
  announceView_of_lineView (callsChanged_lineView ..)

theorem noticeOf_view (s : State) (x : CallChange) (n : Nat) : (s.noticeOf x n).announceView = s.announceView :=
  announceView_of_lineView (noticeOf_lineView ..)

theorem handOn_ite_view {s : State} {p : Prop} [Decidable p] (cs : List Change) :
    (if p then s.handOn cs else s).announceView = s.announceView := by
  split
  · exact handOn_view ..
  · rfl

theorem enterHold_view (s : State) (n k : Nat) : (s.enterHold n k).announceView = s.announceView :=
  (handOn_ite_view _).trans (modStop_view _ _ fun _ => rfl)

theorem leaveHold_view (s : State) (n k : Nat) : (s.leaveHold n k).announceView = s.announceView :=
  (handOn_ite_view _).trans (modStop_view _ _ fun _ => rfl)

/-! ## Stop logic entered and left (R59, R61, R62) -/

theorem entered_eq (k : Nat) (x : StopLogic) : x.entered k = { x with
    holdOrder := x.holdOrder ++ [k], request := true, coast := if x.request then x.coast else 0 } := by
  unfold StopLogic.entered StopLogic.lined
  have cause : ({ x with holdOrder := x.holdOrder ++ [k] } : StopLogic).hasCause = true := by
    simp [StopLogic.hasCause]
  rw [cause]
  cases x.request <;> rfl

theorem holdEntered_of_stops {s t : State} {n k : Nat} (h : t.stops = alter s.stops n (StopLogic.entered k)) :
    holdEntered n k s t := by
  intro m h1 h2
  rw [h, pick_alter_within _ _ h1 h2, entered_eq]

theorem left_fields (m : Bool) (k : Nat) (x : StopLogic) :
    (x.left m k).holdOrder = x.holdOrder.erase k ∧ (x.left m k).overflow = x.overflow ∧ (x.left m k).waiting = x.waiting
      ∧ (x.left m k).unattributed = x.unattributed
      ∧ (x.left m k).coast = (if x.request = false ∧ (x.left m k).request = true then 0 else x.coast)
      ∧ ((x.left m k).pending = true ↔ x.pending = true ∨ (x.holdOrder.erase k = [] ∧ x.overflow = false ∧ m = true))
      ∧ ((x.left m k).request = true ↔
        x.holdOrder.erase k ≠ [] ∨ x.overflow = true ∨ (x.left m k).pending = true) := by
  obtain ⟨order, overflow, waiting, pending, request, coast, unattributed⟩ := x
  unfold StopLogic.left StopLogic.restarts StopLogic.lined StopLogic.hasCause
  by_cases he : order.erase k = []
  · cases overflow <;> cases pending <;> cases m <;> cases request <;> simp [he]
  · cases overflow <;> cases pending <;> cases m <;> cases request <;> simp [he]

theorem holdLeft_of_stops {s t : State} {c : Call}
    (h : t.stops = alter s.stops c.sec (StopLogic.left (manual s c.sec) c.number)) : holdLeft c s t := by
  refine ⟨fun n h1 h2 hn => ?_, fun h1 h2 => ?_⟩
  · rw [h, pick_alter_within _ _ h1 h2, if_neg hn]
  · obtain ⟨ho, hv, hw, hun, hc, hp, hr⟩ := left_fields (manual s c.sec) c.number (pick s.stops c.sec)
    rw [h, pick_alter_within _ _ h1 h2, if_pos rfl, ho, hv]
    exact ⟨rfl, rfl, hw, hun, hc, hp.trans (by rw [manual_iff]), hr⟩

/-! ## A call that enters HOLDING by its distance (R56) -/

theorem expireStop_eq {s : State} {c : Call} (h : s.callOf c.number = some c) :
    s.expireStop c.number = (((((s.modCall c.number fun _ => heldNow s c).enterHold c.sec c.number).callsChanged
      (heldNow s c) false).noticeOf .hold c.number).lineUp c.sec) := by
  unfold State.expireStop; rw [h]; rfl

theorem expireStop_announces {s : State} {c : Call} (h : s.callOf c.number = some c) :
    loopsAnnounce s (s.expireStop c.number) := by
  rw [expireStop_eq h]
  refine loopsAnnounce_congr (Eq.symm ?_) rfl (lineUp_announces ..)
  exact (noticeOf_view ..).trans ((callsChanged_view ..).trans (enterHold_view ..))

theorem expireStop_lamps {s : State} {c : Call} (h : s.callOf c.number = some c) :
    lampFollows c s (s.expireStop c.number) := by
  refine lampFollows_of_changed (u := (s.modCall c.number fun _ => heldNow s c).enterHold c.sec c.number)
    (now := heldNow s c) (full := false) (enterHold_stations ..) rfl ?_ ?_ ?_
  · rw [expireStop_eq h]
    simp
  · rw [expireStop_calls h, enterHold_calls]; rfl
  · rw [enterHold_defs]
    exact (congrArg State.defs (expireStop_butChange s c.number) :)

/-- The record put in the place of a standing call is the one that its number finds. -/
theorem callOf_withRecord {s : State} {c now : Call} (h : c ∈ s.calls) (hn : now.number = c.number)
    {t : State} (ht : t.calls = withRecord s c now) : t.callOf c.number = some now := by
  unfold State.callOf
  rw [ht]
  unfold withRecord
  clear ht
  generalize s.calls = cs at h ⊢
  induction cs with
  | nil => cases h
  | cons x xs ih =>
    rw [List.map_cons, List.find?_cons]
    by_cases hx : x.number = c.number
    · rw [if_pos hx, hn]; simp
    · have away : (x.number == c.number) = false := by simpa using hx
      rw [if_neg hx, away]
      exact ih ((List.mem_cons.mp h).resolve_left fun e => hx (e ▸ rfl))

theorem enterHold_host (s : State) (n k : Nat) : (s.enterHold n k).host = s.host := by
  unfold State.enterHold; dsimp only; split <;> simp

theorem callsChanged_host (s : State) (c : Call) (full : Bool) : (s.callsChanged c full).host = s.host := by
  unfold State.callsChanged
  rw [recompose_host, handOn_host]
  split <;> rfl

theorem noticeOf_some {s : State} {x : CallChange} {k : Nat} {c : Call} (h : s.callOf k = some c) :
    s.noticeOf x k = s.callNotice x none c := by
  unfold State.noticeOf; rw [h]

/-- R56: the HOLD notice is the first of the change's notices. -/
theorem expireStop_told {s : State} {c : Call} (h : s.callOf c.number = some c) (hq : pick s.host.reports 1 = true)
    (hr : s.host.outbound.length < 24) :
    ∃ rest, (s.expireStop c.number).host.outbound = s.host.outbound ++ [.notice s.timeOfDay (.call .hold none c.number
      c.origin c.cls c.zone .holding c.answered c.level c.repeats)] ++ rest := by
  have told := (ByOps.lineUp ((((s.modCall c.number fun _ => heldNow s c).enterHold c.sec c.number).callsChanged
      (heldNow s c) false).noticeOf .hold c.number) c.sec).shows.host.outbound
  rw [← expireStop_eq h] at told
  have hcalls : (((s.modCall c.number fun _ => heldNow s c).enterHold c.sec c.number).callsChanged (heldNow s c) false).calls
      = withRecord s c (heldNow s c) := by rw [callsChanged_calls, enterHold_calls]; rfl
  have htime : (((s.modCall c.number fun _ => heldNow s c).enterHold c.sec c.number).callsChanged (heldNow s c) false).timeOfDay
      = s.timeOfDay := by rw [callsChanged_timeOfDay, enterHold_timeOfDay]; rfl
  have hhost : (((s.modCall c.number fun _ => heldNow s c).enterHold c.sec c.number).callsChanged (heldNow s c) false).host
      = s.host := by rw [callsChanged_host, enterHold_host]; rfl
  generalize ((s.modCall c.number fun _ => heldNow s c).enterHold c.sec c.number).callsChanged (heldNow s c) false = x
    at told hcalls htime hhost
  obtain ⟨rest, hrest⟩ := told
  rw [noticeOf_some (callOf_withRecord (now := heldNow s c) (callOf_mem h) rfl hcalls)] at hrest
  unfold State.callNotice at hrest
  rw [notify_room (n := .call _ _ _ _ _ _ _ _ _ _) (by rw [hhost]; exact hq) (by rw [hhost]; exact hr), hhost, htime] at hrest
  exact ⟨rest, hrest⟩

/-- Settles O43: the first expired call is the one that `find?` gives. -/
theorem stopDistanceTaken : Obligations.StopDistanceTaken := by
  unfold Obligations.StopDistanceTaken
  intro s n h1 h2
  have head : (expiredCalls s n).head? = (s.calls.find? fun c => c.sec == n && c.distance == some 0).map (·.number) := by
    unfold expiredCalls; rw [List.head?_map, List.head?_filter]
  have taken : exec (.stopDistanceExpiry n) s = .next (s.takeStopExpiry n) := if_pos (within_of_le h1 h2)
  refine ⟨fun c hc hn => ?_, fun hc => ?_⟩
  · have hsec : c.sec = n := by have := List.find?_some hc; simp at this; exact this.1
    have first : s.takeStopExpiry n = s.expireStop c.number := by
      rw [hc] at head
      unfold State.takeStopExpiry
      cases he : expiredCalls s n with
      | nil => rw [he] at head; cases head
      | cons k ks => rw [he] at head; cases head; rfl
    have held : heldNow s c = { c with
        state := .holding, distance := none, firstHold := some (c.firstHold.getD s.timeOfDay) } := by
      unfold heldNow; cases c.firstHold <;> rfl
    refine ⟨_, taken.trans (congrArg Host.Outcome.next first), ?_, expireStop_lamps hn, expireStop_announces hn,
      expireStop_told hn, ?_⟩
    · refine sameButShown_of_change (s := s) ⟨rfl, rfl, rfl⟩ ?_ (ByOps.expireStop s c.number).shows
      rw [butShown_of_change (expireStop_butChange s c.number), expireStop_calls hn, held]
    · rw [← hsec]
      exact holdEntered_of_stops (expireStop_stops hn)
  · rw [hc] at head
    refine taken.trans (congrArg Host.Outcome.next ?_)
    unfold State.takeStopExpiry
    rw [List.head?_eq_none_iff.mp head]

end Sys2Proof.Machine
end

section
/-! PROOFS. CallRequests: RAISE CALL and ACT ON CALL (R28, R29). -/

namespace Sys2Proof.Machine

/-! ## A call repeated (R13) -/

theorem repeated_standing {s : State} {c : Call} (h : c.state ≠ .carried) :
    repeated s c = { c with repeats := min 15 (c.repeats + 1) } := by
  unfold repeated
  dsimp only
  rw [if_neg h]
  rfl

theorem repeated_fixed {s : State} {c : Call} (h : c.state = .carried) (hf : (s.classDef c.cls).stop = .fixed) :
    repeated s c = { c with
      repeats := min 15 (c.repeats + 1), state := .opened, distance := arming s c.zone c.sec } := by
  unfold repeated
  dsimp only
  rw [if_pos h, hf]
  rfl

theorem repeated_immediate {s : State} {c : Call} (h : c.state = .carried) (hi : (s.classDef c.cls).stop = .immediate) :
    repeated s c = { c with repeats := min 15 (c.repeats + 1), state := .holding } := by
  unfold repeated
  dsimp only
  rw [if_pos h, hi]
  rfl

/-- R13, R14: a change of a standing call that leaves stop logic. -/
theorem changed_lineView (s : State) (c now : Call) (x : CallChange) :
    (((s.modCall c.number fun _ => now).callsChanged now false).noticeOf x c.number).lineView = s.lineView :=
  (noticeOf_lineView ..).trans (callsChanged_lineView ..)

theorem repeatCall_quiet {s : State} {c : Call} (h : ¬ ((repeated s c).state = .holding ∧ c.state ≠ .holding)) :
    s.repeatCall c = ((s.modCall c.number fun _ => repeated s c).callsChanged (repeated s c) false).noticeOf .repeated c.number := by
  have quiet : (decide ((repeated s c).state = .holding) && decide (c.state ≠ .holding)) = false := by simpa using h
  unfold State.repeatCall
  dsimp only
  rw [quiet]
  rfl

theorem repeatCall_holds {s : State} {c : Call} (h : (repeated s c).state = .holding ∧ c.state ≠ .holding) :
    s.repeatCall c = ((((s.modCall c.number fun _ => repeated s c).enterHold c.sec c.number).callsChanged (repeated s c)
      false).noticeOf .repeated c.number).lineUp c.sec := by
  have holds : (decide ((repeated s c).state = .holding) && decide (c.state ≠ .holding)) = true := by simpa using h
  unfold State.repeatCall
  dsimp only
  rw [holds]
  rfl

theorem repeated_origin (s : State) (c : Call) : (repeated s c).origin = c.origin := (repeated_sameRecord s c).2.2.1

theorem repeatCall_lamps (s : State) (c : Call) : lampFollows c s (s.repeatCall c) := by
  by_cases h : (repeated s c).state = .holding ∧ c.state ≠ .holding
  · refine lampFollows_of_changed (u := (s.modCall c.number fun _ => repeated s c).enterHold c.sec c.number)
      (now := repeated s c) (full := false) (enterHold_stations ..) (repeated_origin ..) ?_ ?_ ?_
    · rw [repeatCall_holds h]; simp
    · rw [repeatCall_calls, enterHold_calls]; rfl
    · rw [enterHold_defs]; exact (congrArg State.defs (repeatCall_butChange s c) :)
  · refine lampFollows_of_changed (u := s.modCall c.number fun _ => repeated s c) (now := repeated s c) (full := false) rfl
      (repeated_origin ..) ?_ ?_ ?_
    · rw [repeatCall_quiet h]; simp
    · rw [repeatCall_calls]; rfl
    · exact (congrArg State.defs (repeatCall_butChange s c) :)

theorem repeatCall_announces (s : State) (c : Call) : loopsAnnounce s (s.repeatCall c) := by
  by_cases h : (repeated s c).state = .holding ∧ c.state ≠ .holding
  · rw [repeatCall_holds h]
    refine loopsAnnounce_congr (Eq.symm ?_) rfl (lineUp_announces ..)
    exact (noticeOf_view ..).trans ((callsChanged_view ..).trans (enterHold_view ..))
  · rw [repeatCall_quiet h]
    exact loopsAnnounce_of_view (announceView_of_lineView (changed_lineView ..))

theorem repeatCall_butShown {s : State} {c : Call} (h : ¬ ((repeated s c).state = .holding ∧ c.state ≠ .holding)) :
    (s.repeatCall c).butShown =
      ({ s with calls := withRecord s c (repeated s c), stations := (s.repeatCall c).stations } : State).butShown := by
  have hl : (s.repeatCall c).lineView = s.lineView := by rw [repeatCall_quiet h]; exact changed_lineView ..
  rw [butShown_of_table (repeatCall_butChange s c) hl, repeatCall_calls]

theorem raisedBody_of_found {s : State} {b : Bool} {k : Nat} {c : Call} (h : s.callOf k = some c) :
    raisedBody s b k = .callRaised b k c.state c.zone := by
  unfold raisedBody
  rw [h]

theorem repeated_number (s : State) (c : Call) : (repeated s c).number = c.number := (repeated_sameRecord s c).1

theorem repeated_zone (s : State) (c : Call) : (repeated s c).zone = c.zone := by
  unfold repeated; dsimp only; split
  · split <;> rfl
  · rfl

/-- R28: the reply that a repeat brings. -/
theorem raiseCall_repeats {s : State} {tag cls zone : Nat} {c : Call} (h : callFrom s (.tag tag) cls = some c) :
    raiseCall tag cls zone s = done (s.repeatCall c) (.callRaised false c.number (repeated s c).state c.zone) := by
  have found := callOf_withRecord (callFrom_mem h) (repeated_number s c) (repeatCall_calls s c)
  unfold raiseCall
  rw [h]
  dsimp only
  rw [raisedBody_of_found found, repeated_zone]

/-! ## A call created (R12) -/

/-- R5, R12: the table with the record put in, told, before stop logic is brought in line. -/
def State.createdTold (s : State) (c : Call) : State :=
  let s := s.insertRecord c
  let s := if c.state = .holding then s.enterHold c.sec c.number else s
  let s := (s.callsChanged c (tableFull s)).noticeOf .new c.number
  if tableFull s then s.tableNotice else s

theorem createCall_eq (s : State) (o : Origin) (cls zone : Nat) (w : Option Nat) : s.createCall o cls zone w =
    if (newRecord s o cls zone w).state = .holding then
      (s.createdTold (newRecord s o cls zone w)).lineUp (newRecord s o cls zone w).sec
    else s.createdTold (newRecord s o cls zone w) := rfl

theorem insertRecord_lineView (s : State) (c : Call) : (s.insertRecord c).lineView = s.lineView := by
  unfold State.insertRecord; dsimp only; split <;> rfl

theorem tableNotice_ite_lineView {s : State} {p : Prop} [Decidable p] :
    (if p then s.tableNotice else s).lineView = s.lineView := by
  split
  · exact notify_lineView ..
  · rfl

theorem createdTold_view (s : State) (c : Call) : (s.createdTold c).announceView = s.announceView := by
  have entered : ∀ t : State, (if c.state = .holding then t.enterHold c.sec c.number else t).announceView = t.announceView := by
    intro t; split
    · exact enterHold_view ..
    · rfl
  refine (announceView_of_lineView tableNotice_ite_lineView).trans ((noticeOf_view ..).trans ((callsChanged_view ..).trans
    ((entered _).trans ?_)))
  exact announceView_of_lineView (insertRecord_lineView ..)

theorem createdTold_lineView {s : State} {c : Call} (h : c.state ≠ .holding) : (s.createdTold c).lineView = s.lineView := by
  unfold State.createdTold
  dsimp only
  rw [if_neg h]
  exact tableNotice_ite_lineView.trans ((noticeOf_lineView ..).trans ((callsChanged_lineView ..).trans
    (insertRecord_lineView ..)))

theorem createCall_announces (s : State) (o : Origin) (cls zone : Nat) (w : Option Nat) :
    loopsAnnounce s (s.createCall o cls zone w) := by
  rw [createCall_eq]
  exact loopsAnnounce_ite (loopsAnnounce_congr (createdTold_view ..).symm rfl (lineUp_announces ..))
    (loopsAnnounce_of_view (createdTold_view ..))

/-- What an operation on the call table leaves is all but what it is shown in, the table and its counters, the stations,
stop logic, the loops and the history queue. -/
theorem butShown_of_calls {s t : State} (h : t.butCalls = s.butCalls) :
    t.butShown = ({ s with
      calls := t.calls, lastNumber := t.lastNumber, arrivalCount := t.arrivalCount, stations := t.stations
      stops := t.stops, loopA := t.loopA, loopB := t.loopB, history := t.history, nextSeq := t.nextSeq
      overflowCount := t.overflowCount, staleTimer := t.staleTimer } : State).butShown :=
  (congrArg (fun y : State => ({ y with
    calls := t.calls, lastNumber := t.lastNumber, arrivalCount := t.arrivalCount, stations := t.stations
    stops := t.stops, loopA := t.loopA, loopB := t.loopB, history := t.history, nextSeq := t.nextSeq
    overflowCount := t.overflowCount, staleTimer := t.staleTimer } : State).butShown) h :)

theorem createdTold_butChange (s : State) (c : Call) : (s.createdTold c).butChange = (s.insertRecord c).butChange := by
  have entered : ∀ t : State, (if c.state = .holding then t.enterHold c.sec c.number else t).butChange = t.butChange := by
    intro t; split
    · exact enterHold_butChange ..
    · rfl
  have full : ∀ t : State, (if tableFull t then t.tableNotice else t).butChange = t.butChange := by
    intro t; split
    · exact notify_butChange ..
    · rfl
  exact (full _).trans ((noticeOf_butChange ..).trans ((callsChanged_butChange ..).trans (entered _)))

theorem createCall_butChange (s : State) (o : Origin) (cls zone : Nat) (w : Option Nat) :
    (s.createCall o cls zone w).butChange = (s.insertRecord (newRecord s o cls zone w)).butChange := by
  rw [createCall_eq]
  split
  · exact (lineUp_butChange ..).trans (createdTold_butChange ..)
  · exact createdTold_butChange ..

theorem insertRecord_eq (s : State) (c : Call) : s.insertRecord c =
    { s with calls := (s.insertRecord c).calls, arrivalCount := (s.insertRecord c).arrivalCount, lastNumber := c.number } := by
  unfold State.insertRecord; dsimp only; split <;> rfl

/-- R12: what a call that is created leaves. -/
theorem createCall_butShown (s : State) (o : Origin) (cls zone : Nat) (w : Option Nat) :
    (s.createCall o cls zone w).butShown = ({ s with
      calls := (s.insertRecord (newRecord s o cls zone w)).calls, lastNumber := (newRecord s o cls zone w).number
      arrivalCount := (s.insertRecord (newRecord s o cls zone w)).arrivalCount
      stations := (s.createCall o cls zone w).stations, stops := (s.createCall o cls zone w).stops
      loopA := (s.createCall o cls zone w).loopA, loopB := (s.createCall o cls zone w).loopB } : State).butShown := by
  have hv := butShown_of_change (createCall_butChange s o cls zone w)
  rw [createCall_calls, insertRecord_eq] at hv
  exact hv

/-- … and where its call does not hold, stop logic and the loops as they were. -/
theorem createCall_lineView {s : State} {o : Origin} {cls zone : Nat} {w : Option Nat}
    (h : (newRecord s o cls zone w).state ≠ .holding) : (s.createCall o cls zone w).lineView = s.lineView := by
  rw [createCall_eq, if_neg h]
  exact createdTold_lineView h

theorem callsChanged_tag {s : State} {c : Call} {k : Nat} (h : c.origin = .tag k) (full : Bool) :
    (s.callsChanged c full).stations = s.stations := by
  unfold State.callsChanged
  rw [recompose_stations, handOn_stations, h]

theorem createdTold_stations {s : State} {c : Call} {k : Nat} (h : c.origin = .tag k) :
    (s.createdTold c).stations = s.stations := by
  have entered : ∀ t : State, (if c.state = .holding then t.enterHold c.sec c.number else t).stations = t.stations := by
    intro t; split <;> simp
  have full : ∀ t : State, (if tableFull t then t.tableNotice else t).stations = t.stations := by
    intro t; split <;> simp
  exact (full _).trans ((noticeOf_stations ..).trans ((callsChanged_tag h _).trans ((entered _).trans
    (insertRecord_stations ..))))

theorem createCall_stations (s : State) (k cls zone : Nat) (w : Option Nat) :
    (s.createCall (.tag k) cls zone w).stations = s.stations := by
  rw [createCall_eq]
  split
  · rw [lineUp_stations]; exact createdTold_stations rfl
  · exact createdTold_stations rfl

/-- The number, state and zone that a number finds do not depend on arrival orders. -/
theorem found_of_image {cs ds : List Call}
    (h : cs.map (fun c => (c.number, c.state, c.zone)) = ds.map fun c => (c.number, c.state, c.zone)) (k : Nat) :
    (cs.find? fun c => c.number == k).map (fun c => (c.number, c.state, c.zone)) =
      (ds.find? fun c => c.number == k).map fun c => (c.number, c.state, c.zone) := by
  have look : ∀ l : List Call, (l.find? fun c => c.number == k).map (fun c => (c.number, c.state, c.zone)) =
      (l.map fun c => (c.number, c.state, c.zone)).find? fun p => p.1 == k := fun l => by
    rw [List.find?_map]; rfl
  rw [look, look, h]

theorem newRecord_number (s : State) (o : Origin) (cls zone : Nat) (w : Option Nat) :
    (newRecord s o cls zone w).number = freeNumber (s.calls.map (·.number)) 65 s.lastNumber := rfl

/-- R6: with room, the number of a new record is one that no call has. -/
theorem newRecord_free {s : State} (h : s.calls.length < 64) (o : Origin) (cls zone : Nat) (w : Option Nat) :
    ∀ x ∈ s.calls, x.number ≠ (newRecord s o cls zone w).number := by
  intro x hx e
  have := freeNumber_not_mem (used := s.calls.map (·.number)) (by rw [List.length_map]; omega) s.lastNumber
  rw [← newRecord_number s o cls zone w, ← e] at this
  exact this (List.mem_map_of_mem hx)

theorem createCall_lastNumber (s : State) (o : Origin) (cls zone : Nat) (w : Option Nat) :
    (s.createCall o cls zone w).lastNumber = (newRecord s o cls zone w).number :=
  (congrArg State.lastNumber (createCall_butShown s o cls zone w) :)

/-- R28: the new record is the one that the reply tells of. -/
theorem createCall_reply {s : State} (h : s.calls.length < 64) (o : Origin) (cls zone : Nat) (w : Option Nat) :
    raisedBody (s.createCall o cls zone w) true (newRecord s o cls zone w).number =
      .callRaised true (newRecord s o cls zone w).number (newRecord s o cls zone w).state zone := by
  have free := newRecord_free h o cls zone w
  have calls := createCall_calls s o cls zone w
  have hz : (newRecord s o cls zone w).zone = zone := rfl
  generalize newRecord s o cls zone w = c at *
  have image : (s.createCall o cls zone w).calls.map (fun c => (c.number, c.state, c.zone)) =
      (s.calls ++ [c]).map fun c => (c.number, c.state, c.zone) := by
    rw [calls, insertRecord_calls]
    split
    · exact renumber_map _ (fun _ _ => rfl) _
    · rfl
  have appended : (s.calls ++ [c]).find? (fun x => x.number == c.number) = some c := by
    rw [List.find?_append, List.find?_eq_none.mpr fun x hx => by simpa using free x hx]
    simp
  have look := found_of_image image c.number
  rw [appended] at look
  obtain ⟨x, hx, he⟩ := Option.map_eq_some_iff.mp look
  injection he with _ he
  injection he with hs hz'
  rw [raisedBody_of_found (c := x) hx, hs, hz', hz]

theorem raiseCall_creates {s : State} {tag cls zone : Nat} (h : callFrom s (.tag tag) cls = none) (hr : hasRoom s cls = true) :
    raiseCall tag cls zone s = done (s.createCall (.tag tag) cls zone none)
      (.callRaised true (newRecord s (.tag tag) cls zone none).number (newRecord s (.tag tag) cls zone none).state zone) := by
  have reply := createCall_reply (room_of_hasRoom hr).1 (.tag tag) cls zone none
  unfold raiseCall
  rw [h]
  dsimp only
  rw [if_pos hr, createCall_lastNumber, reply]

theorem raiseCall_full {s : State} {tag cls zone : Nat} (h : callFrom s (.tag tag) cls = none) (hr : hasRoom s cls = false) :
    raiseCall tag cls zone s = refuse s .full := by
  unfold raiseCall
  rw [h, hr]
  rfl

/-- R12: the record of a new call from a host tag. -/
theorem newRecord_eq {s : State} {o : Origin} {cls zone : Nat} {z : ZoneDef} (hz : s.zoneDef zone = some z) :
    newRecord s o cls zone none =
      { number := (newRecord s o cls zone none).number, arrival := s.arrivalCount, origin := o, cls := cls
        zone := zone, sec := z.sec, state := if (s.classDef cls).stop = .immediate then .holding else .opened
        raised := s.timeOfDay, answered := none
        firstHold := if (s.classDef cls).stop = .immediate then some s.timeOfDay else none
        distance := if (s.classDef cls).stop = .fixed then arming s zone z.sec else none
        heldTime := 0, level := 0, timer := firstTimer s cls, repeats := 0, carried := false } := by
  unfold newRecord
  rw [hz]
  cases (s.classDef cls).stop <;> rfl

/-- R28: a request on calls whose handling changes a call, by an operation on it. -/
theorem callHandled {kind tag : Byte} {body : List Byte} {handle : State → Handled} {s u x : State} {result : Result}
    {reply : ReplyBody} (h : atTurn kind tag body s)
    (hd : handle (s.holding kind tag body) = ⟨u, some (result, reply)⟩) (sh : Shows (s.holding kind tag body) u)
    (hx : x.boards = s.boards ∧ x.fields = s.fields ∧ x.host = s.host) (hu : u.butShown = x.butShown) :
    ∃ t, serve kind tag body handle s = .next t ∧ t = { u with host := t.host }
      ∧ answeredLast kind tag result reply s t ∧ sameButShown x t := by
  obtain ⟨t, ht, e, ha, hf⟩ := serve_answered h hd sh.host
  exact ⟨t, ht, e, ha, sameButShown_of_shows (s := s) (u := u) hx hu sh e hf⟩

theorem lampFollows_answered {c : Call} {s u t : State} {kind tag : Byte} {body : List Byte}
    (h : lampFollows c (s.holding kind tag body) u) (ht : t = { u with host := t.host }) : lampFollows c s t := by
  intro n h1 h2
  have hs : t.stations = u.stations := by rw [ht]
  rw [hs, lampOf_congr (s := u) (by rw [ht]) (by rw [ht])]
  exact h n h1 h2

/-- Settles O21. -/
theorem raiseCallTaken : Obligations.RaiseCallTaken := by
  unfold Obligations.RaiseCallTaken
  intro tag body s z h hm hlen a1 a2 b1 b2 c1 c2 hz
  have taken : raiseCallNow body (s.holding 48#8 tag body) =
      raiseCall (byteAt body 0) (byteAt body 1) (byteAt body 2) (s.holding 48#8 tag body) := by
    refine (ofLength_fits hlen _ _).trans ((inMode_fits (s := s.holding 48#8 tag body) hm _).trans ?_)
    have defined : ((s.holding 48#8 tag body).zoneDef (byteAt body 2)).isSome = true := Option.isSome_iff_exists.mpr ⟨z, hz⟩
    rw [within_of_le a1 a2, within_of_le b1 b2, within_of_le c1 c2, defined]
    rfl
  have stands : ∀ c, callFrom s (.tag (byteAt body 0)) (byteAt body 1) = some c →
      raiseCallNow body (s.holding 48#8 tag body) = done ((s.holding 48#8 tag body).repeatCall c)
        (.callRaised false c.number (repeated s c).state c.zone) := fun c hc => taken.trans (raiseCall_repeats hc)
  refine ⟨fun c hc hst => ?_, fun c now hc hst => ⟨fun hf hnow => ?_, fun hi s1 s2 hnow => ?_⟩, fun hc hr hmax => ?_, fun hc hr => ?_⟩
  · have hrep : repeated (s.holding 48#8 tag body) c = _ := repeated_standing hst
    have quiet : ¬ ((repeated (s.holding 48#8 tag body) c).state = .holding ∧ c.state ≠ .holding) := by
      rw [hrep]; exact fun e => e.2 e.1
    have hu := repeatCall_butShown quiet
    have hl := repeatCall_lamps (s.holding 48#8 tag body) c
    have handled := stands c hc
    have hsame : (repeated s c).state = c.state := (congrArg Call.state hrep :)
    rw [hsame] at handled
    have sh := (ByOps.repeatCall (s.holding 48#8 tag body) c).shows
    generalize (s.holding 48#8 tag body).repeatCall c = u at hu hl handled sh
    rw [hrep] at hu
    obtain ⟨t, hx, ht, ha, hs⟩ := callHandled (x := { s with
      calls := withRecord s c { c with repeats := min 15 (c.repeats + 1) }, stations := u.stations })
      h handled sh ⟨rfl, rfl, rfl⟩ hu
    have hst : t.stations = u.stations := by rw [ht]
    exact ⟨t, hx, ha, by rw [hst]; exact hs, lampFollows_answered hl ht⟩
  · have hrep : repeated (s.holding 48#8 tag body) c = _ := repeated_fixed hst hf
    have quiet : ¬ ((repeated (s.holding 48#8 tag body) c).state = .holding ∧ c.state ≠ .holding) := by
      rw [hrep]; exact fun e => nomatch e.1
    have hu := repeatCall_butShown quiet
    have hl := repeatCall_lamps (s.holding 48#8 tag body) c
    have handled := stands c hc
    have hsame : (repeated s c).state = .opened := (congrArg Call.state hrep :)
    rw [hsame] at handled
    have sh := (ByOps.repeatCall (s.holding 48#8 tag body) c).shows
    generalize (s.holding 48#8 tag body).repeatCall c = u at hu hl handled sh
    rw [hrep] at hu
    obtain ⟨t, hx, ht, ha, hs⟩ := callHandled (x := { s with calls := withRecord s c now, stations := u.stations })
      h handled sh ⟨rfl, rfl, rfl⟩ (by rw [hnow]; exact hu)
    have hst : t.stations = u.stations := by rw [ht]
    exact ⟨t, hx, ha, by rw [hst]; exact hs, lampFollows_answered hl ht⟩
  · have hrep : repeated (s.holding 48#8 tag body) c = _ := repeated_immediate hst hi
    have holds : (repeated (s.holding 48#8 tag body) c).state = .holding ∧ c.state ≠ .holding := by
      rw [hrep, hst]; exact ⟨rfl, nofun⟩
    have hu := butShown_of_change (repeatCall_butChange (s.holding 48#8 tag body) c)
    have hl := repeatCall_lamps (s.holding 48#8 tag body) c
    have hn := repeatCall_announces (s.holding 48#8 tag body) c
    have hstops := repeatCall_stops (s.holding 48#8 tag body) c
    have hcalls := repeatCall_calls (s.holding 48#8 tag body) c
    have handled := stands c hc
    have hsame : (repeated s c).state = .holding := (congrArg Call.state hrep :)
    rw [hsame] at handled
    rw [if_pos holds] at hstops
    rw [hrep] at hcalls
    have sh := (ByOps.repeatCall (s.holding 48#8 tag body) c).shows
    generalize (s.holding 48#8 tag body).repeatCall c = u at hu hl hn hstops hcalls handled sh
    obtain ⟨t, hx, ht, ha, hs⟩ := callHandled (x := { s with
      calls := withRecord s c now, stations := u.stations, stops := u.stops, loopA := u.loopA, loopB := u.loopB })
      h handled sh ⟨rfl, rfl, rfl⟩ (by rw [hu, hcalls, hnow]; rfl)
    have e1 : t.stations = u.stations := by rw [ht]
    have e2 : t.stops = u.stops := by rw [ht]
    have e3 : t.loopA = u.loopA := by rw [ht]
    have e4 : t.loopB = u.loopB := by rw [ht]
    exact ⟨t, hx, ha, by rw [e1, e2, e3, e4]; exact hs, lampFollows_answered hl ht,
      holdEntered_of_stops (e2.trans hstops), loopsAnnounce_answered hn ht⟩
  · have hroom := (room_of_hasRoom hr).1
    have hrec := newRecord_eq (s := s.holding 48#8 tag body) (o := .tag (byteAt body 0)) (cls := byteAt body 1) hz
    have handled := taken.trans (raiseCall_creates (s := s.holding 48#8 tag body) hc hr)
    have hu := createCall_butShown (s.holding 48#8 tag body) (.tag (byteAt body 0)) (byteAt body 1) (byteAt body 2) none
    have hl := fun hq => createCall_lineView (s := s.holding 48#8 tag body) (o := .tag (byteAt body 0)) (cls := byteAt body 1)
      (zone := byteAt body 2) (w := none) hq
    have hn := createCall_announces (s.holding 48#8 tag body) (.tag (byteAt body 0)) (byteAt body 1) (byteAt body 2) none
    have hst := createCall_stations (s.holding 48#8 tag body) (byteAt body 0) (byteAt body 1) (byteAt body 2) none
    have hstops := createCall_stops (s.holding 48#8 tag body) (.tag (byteAt body 0)) (byteAt body 1) (byteAt body 2) none
    have sh := (ByOps.createCall (s.holding 48#8 tag body) (.tag (byteAt body 0)) (byteAt body 1) (byteAt body 2) none).shows
    have hfree := newRecord_free (s := s.holding 48#8 tag body) hroom (.tag (byteAt body 0)) (byteAt body 1) (byteAt body 2) none
    have hnum := freeNumber_within (s.calls.map (·.number)) 65 s.lastNumber
    rw [show freeNumber (s.calls.map (·.number)) 65 s.lastNumber =
      (newRecord (s.holding 48#8 tag body) (.tag (byteAt body 0)) (byteAt body 1) (byteAt body 2) none).number from rfl] at hnum
    generalize (s.holding 48#8 tag body).createCall (.tag (byteAt body 0)) (byteAt body 1) (byteAt body 2) none = u
      at handled hu hl hn hst hstops sh
    generalize newRecord (s.holding 48#8 tag body) (.tag (byteAt body 0)) (byteAt body 1) (byteAt body 2) none = c
      at handled hu hl hstops hfree hnum hrec
    have hcalls := insertRecord_calls (s.holding 48#8 tag body) c
    have hcount := insertRecord_arrivalCount (s.holding 48#8 tag body) c
    have harr : c.arrival = s.arrivalCount := (congrArg Call.arrival hrec :)
    have hstate : c.state = if (s.classDef (byteAt body 1)).stop = .immediate then .holding else .opened :=
      (congrArg Call.state hrec :)
    have hsec : c.sec = z.sec := (congrArg Call.sec hrec :)
    rw [harr] at hcalls hcount
    generalize ((s.holding 48#8 tag body).insertRecord c).calls = all at hu hcalls
    generalize ((s.holding 48#8 tag body).insertRecord c).arrivalCount = count at hu hcount
    obtain ⟨t, hx, ht, ha, hf⟩ := serve_answered h handled sh.host
    have tcalls : t.calls = all := by
      have : u.calls = all := (congrArg State.calls hu :)
      rw [ht]; exact this
    have e2 : t.stops = u.stops := by rw [ht]
    have e3 : t.loopA = u.loopA := by rw [ht]
    have e4 : t.loopB = u.loopB := by rw [ht]
    rw [hst] at hu
    refine ⟨t, c, all, count, hx, tcalls, fun hlt => ?_, fun heq => ?_, hfree, hnum.1, hnum.2, hrec, ha, fun hi => ?_,
      fun hi z1 z2 => ⟨?_, loopsAnnounce_answered hn ht, ?_⟩⟩
    · rw [if_neg (by unfold maxArrival; omega)] at hcalls hcount
      exact ⟨hcalls, hcount⟩
    · rw [if_pos (show s.arrivalCount = maxArrival from heq)] at hcalls hcount
      exact ⟨hcalls, hcount⟩
    · have hq : c.state ≠ .holding := by rw [hstate, if_neg hi]; nofun
      have line := hl hq
      have l2 : u.stops = s.stops := (congrArg State.stops line :)
      have l3 : u.loopA = s.loopA := (congrArg State.loopA line :)
      have l4 : u.loopB = s.loopB := (congrArg State.loopB line :)
      rw [l2, l3, l4] at hu
      exact sameButShown_of_shows (s := s) (u := u) ⟨rfl, rfl, rfl⟩ hu sh ht hf
    · rw [e2, e3, e4]
      exact sameButShown_of_shows (s := s) (u := u) ⟨rfl, rfl, rfl⟩ hu sh ht hf
    · rw [if_pos (by rw [hstate, if_pos hi]), hsec] at hstops
      exact holdEntered_of_stops (e2.trans hstops)
  · exact serve_refused h (taken.trans (raiseCall_full (s := s.holding 48#8 tag body) hc hr))

end Sys2Proof.Machine
end

section
/-! PROOFS. CallActions: ACT ON CALL (R29), and what answering, carrying and closing a call leave (R14, R15, R22). -/

namespace Sys2Proof.Machine

/-! ## A call answered (R14) -/

theorem answeredNow_eq {s : State} {c : Call} (h : c.answered = none) : answeredNow s c = { c with
    answered := some s.timeOfDay
    timer := if (ladderOf s c.cls).map (·.basis) = some .unanswered then none else c.timer } := by
  unfold answeredNow
  rw [h]
  cases ladderOf s c.cls with
  | none => rfl
  | some l => simp

theorem answerCall_eq {s : State} {c : Call} (h : c.answered = none) : s.answerCall c =
    ((s.modCall c.number fun _ => answeredNow s c).callsChanged (answeredNow s c) false).noticeOf .answer c.number := by
  unfold State.answerCall; rw [h]; rfl

theorem answerCall_answered {s : State} {c : Call} (h : c.answered.isSome = true) : s.answerCall c = s := if_pos h

theorem answerCall_butShown {s : State} {c : Call} (h : c.answered = none) :
    (s.answerCall c).butShown =
      ({ s with calls := withRecord s c (answeredNow s c), stations := (s.answerCall c).stations } : State).butShown := by
  have hl : (s.answerCall c).lineView = s.lineView := by rw [answerCall_eq h]; exact changed_lineView ..
  rw [butShown_of_table (answerCall_butChange s c) hl, answerCall_calls, h]
  rfl

theorem answerCall_lamps {s : State} {c : Call} (h : c.answered = none) : lampFollows c s (s.answerCall c) := by
  refine lampFollows_of_changed (u := s.modCall c.number fun _ => answeredNow s c) (now := answeredNow s c) (full := false) rfl
    (answeredNow_sameRecord s c).2.2.1 ?_ ?_ ?_
  · rw [answerCall_eq h]; simp
  · rw [answerCall_calls, h]; rfl
  · exact (congrArg State.defs (answerCall_butChange s c) :)

/-! ## A call carried (R15) -/

/-- R15: the table with the call carried, told, before stop logic is brought in line. -/
def State.carriedTold (s : State) (c : Call) : State :=
  let s' := s.modCall c.number fun _ => carriedNow s c
  let s' := if c.state = .holding then s'.leaveHold c.sec c.number else s'
  (s'.callsChanged (carriedNow s c) false).noticeOf .carry c.number

theorem carryCall_eq (s : State) (c : Call) : s.carryCall c =
    if c.state = .holding then (s.carriedTold c).causeLeft c.sec else s.carriedTold c := by
  unfold State.carryCall State.carriedTold
  dsimp only
  rw [carried_eq]
  simp only [decide_eq_true_eq]

theorem left_ite_view {s : State} {p : Prop} [Decidable p] (n k : Nat) :
    (if p then s.leaveHold n k else s).announceView = s.announceView := by
  split
  · exact leaveHold_view ..
  · rfl

theorem carriedTold_view (s : State) (c : Call) : (s.carriedTold c).announceView = s.announceView :=
  (noticeOf_view ..).trans ((callsChanged_view ..).trans (left_ite_view ..))

theorem carriedTold_lineView {s : State} {c : Call} (h : c.state ≠ .holding) : (s.carriedTold c).lineView = s.lineView := by
  unfold State.carriedTold
  dsimp only
  rw [if_neg h]
  exact changed_lineView ..

theorem carryCall_announces (s : State) (c : Call) : loopsAnnounce s (s.carryCall c) := by
  rw [carryCall_eq]
  exact loopsAnnounce_ite (loopsAnnounce_congr (carriedTold_view ..).symm rfl (causeLeft_announces ..))
    (loopsAnnounce_of_view (carriedTold_view ..))

theorem carryCall_lineView {s : State} {c : Call} (h : c.state ≠ .holding) : (s.carryCall c).lineView = s.lineView := by
  rw [carryCall_eq, if_neg h]
  exact carriedTold_lineView h

theorem carriedNow_origin (s : State) (c : Call) : (carriedNow s c).origin = c.origin := by
  rw [← carried_eq]; exact (answeredNow_sameRecord s c).2.2.1

theorem carryCall_lamps (s : State) (c : Call) : lampFollows c s (s.carryCall c) := by
  refine lampFollows_of_changed (now := carriedNow s c) (full := false)
    (u := if c.state = .holding then (s.modCall c.number fun _ => carriedNow s c).leaveHold c.sec c.number
      else s.modCall c.number fun _ => carriedNow s c) ?_ (carriedNow_origin ..) ?_ ?_ ?_
  · split
    · exact leaveHold_stations ..
    · rfl
  · rw [carryCall_eq]
    unfold State.carriedTold
    dsimp only
    split <;> simp
  · rw [carryCall_calls]
    split
    · rw [leaveHold_calls]; rfl
    · rfl
  · have hd : (s.carryCall c).defs = s.defs := (congrArg State.defs (carryCall_butChange s c) :)
    rw [hd]
    split
    · rw [leaveHold_defs]; rfl
    · rfl

/-! ## A call closed (R22) -/

/-- R22, R61: stop logic with the call left its hold order. -/
def State.unheld (s : State) (c : Call) : State :=
  if c.state = .holding then (s.leaveHold c.sec c.number).causeLeft c.sec else s

/-- R22: the record appended and the call removed. -/
def State.struck (s : State) (o : Closing) (c : Call) : State :=
  let s := s.appendRecord (closedRecord s c o)
  { s with calls := s.calls.filter fun x => x.number != c.number }

theorem closeCall_eq (s : State) (o : Closing) (c : Call) : s.closeCall o true c =
    (if tableFull s then ((((s.unheld c).struck o c).callsChanged c (tableFull s)).callNotice .close (some o) c).tableNotice
      else (((s.unheld c).struck o c).callsChanged c (tableFull s)).callNotice .close (some o) c) := rfl

theorem unheld_butStops (s : State) (c : Call) : (s.unheld c).butStops = s.butStops := by
  unfold State.unheld; split
  · exact (causeLeft_butStops ..).trans (leaveHold_butStops ..)
  · rfl

theorem unheld_announces (s : State) (c : Call) : loopsAnnounce s (s.unheld c) :=
  loopsAnnounce_ite (loopsAnnounce_congr (leaveHold_view ..).symm rfl (causeLeft_announces ..)) (loopsAnnounce_refl s)

theorem struck_lineView (s : State) (o : Closing) (c : Call) : (s.struck o c).lineView = s.lineView := appendRecord_lineView ..

theorem callNotice_lineView (s : State) (x : CallChange) (o : Option Closing) (c : Call) :
    (s.callNotice x o c).lineView = s.lineView := notify_lineView ..

theorem closeCall_lineView (s : State) (o : Closing) (c : Call) : (s.closeCall o true c).lineView = (s.unheld c).lineView := by
  rw [closeCall_eq]
  exact tableNotice_ite_lineView.trans ((callNotice_lineView ..).trans ((callsChanged_lineView ..).trans (struck_lineView ..)))

theorem closeCall_announces (s : State) (o : Closing) (c : Call) : loopsAnnounce s (s.closeCall o true c) :=
  loopsAnnounce_congr rfl (announceView_of_lineView (closeCall_lineView ..)) (unheld_announces ..)

theorem closeCall_lamps (s : State) (o : Closing) (c : Call) : lampFollows c s (s.closeCall o true c) := by
  refine lampFollows_of_changed (now := c) (full := tableFull s) (u := (s.unheld c).struck o c) ?_ rfl ?_ ?_ ?_
  · have hs : (s.unheld c).stations = s.stations := (congrArg State.stations (unheld_butStops s c) :)
    exact (appendRecord_stations ..).trans hs
  · rw [closeCall_eq]; split <;> simp
  · rw [closeCall_eq]; split <;> simp
  · have hd : (s.unheld c).defs = s.defs := (congrArg State.defs (unheld_butStops s c) :)
    have struck : ((s.unheld c).struck o c).defs = (s.unheld c).defs := appendRecord_defs ..
    rw [closeCall_defs, struck, hd]

/-- The record of a closed call reads only the time of day. -/
theorem closedRecord_congr {s t : State} (h : t.timeOfDay = s.timeOfDay) (c : Call) (o : Closing) :
    closedRecord t c o = closedRecord s c o := by unfold closedRecord; rw [h]

/-- R22: the history queue of a call that is closed. -/
theorem struck_history (s : State) (o : Closing) (c : Call) :
    ((s.unheld c).struck o c).history =
        (if s.history.length < 128 then s.history else s.history.drop 1) ++ [⟨s.nextSeq, closedRecord s c o⟩]
      ∧ ((s.unheld c).struck o c).nextSeq = (if s.nextSeq < 65535 then s.nextSeq + 1 else 0)
      ∧ ((s.unheld c).struck o c).overflowCount =
        (if s.history.length < 128 then s.overflowCount else min 255 (s.overflowCount + 1)) := by
  have hv := unheld_butStops s c
  have hh : (s.unheld c).history = s.history := (congrArg State.history hv :)
  have hn : (s.unheld c).nextSeq = s.nextSeq := (congrArg State.nextSeq hv :)
  have ho : (s.unheld c).overflowCount = s.overflowCount := (congrArg State.overflowCount hv :)
  have ht : (s.unheld c).timeOfDay = s.timeOfDay := (congrArg State.timeOfDay hv :)
  obtain ⟨ah, an⟩ := appendRecord_history (s.unheld c) (closedRecord (s.unheld c) c o)
  have ao := appendRecord_overflow (s.unheld c) (closedRecord (s.unheld c) c o)
  rw [closedRecord_congr ht, hh, hn] at ah
  rw [closedRecord_congr ht, hn, wrap_65535] at an
  rw [closedRecord_congr ht, hh, ho] at ao
  unfold State.struck
  rw [closedRecord_congr ht]
  exact ⟨ah, an, ao⟩

theorem closeCall_butChange (s : State) (o : Closing) (c : Call) :
    (s.closeCall o true c).butChange = ((s.unheld c).struck o c).butChange := by
  have full : ∀ t : State, (if tableFull s then t.tableNotice else t).butChange = t.butChange := by
    intro t; split
    · exact notify_butChange ..
    · rfl
  rw [closeCall_eq]
  exact (full _).trans ((callNotice_butChange ..).trans (callsChanged_butChange ..))

theorem struck_butHistory (s : State) (o : Closing) (c : Call) :
    (s.struck o c).butHistory = ({ s with calls := (s.struck o c).calls } : State).butHistory :=
  (congrArg (fun y : State => ({ y with calls := (s.struck o c).calls } : State)) (appendRecord_butHistory s (closedRecord s c o)) :)

/-- R22: what a call that is closed leaves. -/
theorem closeCall_butShown (s : State) (o : Closing) (c : Call) :
    ∃ stale, (s.closeCall o true c).butShown = ({ s with
      calls := s.calls.filter fun x => x.number != c.number, stations := (s.closeCall o true c).stations
      stops := (s.closeCall o true c).stops, loopA := (s.closeCall o true c).loopA
      loopB := (s.closeCall o true c).loopB, history := ((s.unheld c).struck o c).history
      nextSeq := ((s.unheld c).struck o c).nextSeq, overflowCount := ((s.unheld c).struck o c).overflowCount
      staleTimer := stale } : State).butShown := by
  refine ⟨((s.unheld c).struck o c).staleTimer, ?_⟩
  have h1 := closeCall_butChange s o c
  have h2 := struck_butHistory (s.unheld c) o c
  have h3 := unheld_butStops s c
  have hc := closeCall_calls s o true c
  generalize (s.unheld c).struck o c = v at h1 h2 ⊢
  generalize s.unheld c = w at h2 h3
  generalize s.closeCall o true c = u at h1 hc ⊢
  rw [butShown_of_change h1, hc]
  have e1 := (congrArg (fun y : State => ({ y with
    calls := s.calls.filter fun x => x.number != c.number, stations := u.stations, stops := u.stops, loopA := u.loopA
    loopB := u.loopB, history := v.history, nextSeq := v.nextSeq, overflowCount := v.overflowCount
    staleTimer := v.staleTimer } : State).butShown) h2 :)
  have e2 := (congrArg (fun y : State => ({ y with
    calls := s.calls.filter fun x => x.number != c.number, stations := u.stations, stops := u.stops, loopA := u.loopA
    loopB := u.loopB, history := v.history, nextSeq := v.nextSeq, overflowCount := v.overflowCount
    staleTimer := v.staleTimer } : State).butShown) h3 :)
  exact e1.trans e2

/-- R22: stop logic and the loops stay where the call did not hold. -/
theorem closeCall_quiet {s : State} {c : Call} (h : c.state ≠ .holding) (o : Closing) :
    (s.closeCall o true c).lineView = s.lineView := by
  rw [closeCall_lineView]
  unfold State.unheld
  rw [if_neg h]

/-! ## ACT ON CALL (R29) -/

/-- What R29 says of stop logic where a call leaves its hold order. -/
theorem holdLeft_told {c : Call} {s t : State} (hl : loopsAnnounce s t)
    (hs : t.stops = if c.state = .holding then alter s.stops c.sec (StopLogic.left (manual s c.sec) c.number) else s.stops)
    (hq : c.state ≠ .holding → t.lineView = s.lineView) :
    (c.state = .holding → holdLeft c s t ∧ loopsAnnounce s t)
      ∧ (c.state ≠ .holding → t.stops = s.stops ∧ t.loopA = s.loopA ∧ t.loopB = s.loopB) :=
  ⟨fun h => ⟨holdLeft_of_stops (hs.trans (if_pos h)), hl⟩,
    fun h => ⟨(congrArg State.stops (hq h) :), (congrArg State.loopA (hq h) :), (congrArg State.loopB (hq h) :)⟩⟩

theorem readAction_clear_cancel {code : Nat} {outcome : Closing}
    (h : (code, outcome) ∈ [(2, Closing.cleared), (3, Closing.cancelled)]) :
    (code = 2 ∧ outcome = .cleared) ∨ (code = 3 ∧ outcome = .cancelled) := by simpa using h

/-- Settles O22. -/
theorem actOnCallTaken : Obligations.ActOnCallTaken := by
  unfold Obligations.ActOnCallTaken
  intro tag body s h hm hlen h1 h2
  have acted : ∀ a, readAction (byteAt body 2) = some a → ∀ o, s.callOf (wordAt body 0) = o →
      actOnCallNow body (s.holding 49#8 tag body) = match o with
        | some c => actOn c a (s.holding 49#8 tag body)
        | none => refuse (s.holding 49#8 tag body) .notFound := by
    rintro a ha o rfl
    refine (ofLength_fits hlen _ _).trans ((inMode_fits (s := s.holding 49#8 tag body) hm _).trans ?_)
    rw [within_of_le h1 h2, ha]
    rfl
  refine ⟨fun hc hcode => ?_, fun c hc hcode hans => ?_, fun c hc hcode hans => ?_, fun c hc hcode hcar => ?_,
    fun c hc hcode hcar => ?_, fun c code outcome hmem hc hcode => ?_⟩
  · have some_action : ∃ a, readAction (byteAt body 2) = some a := by
      generalize byteAt body 2 = k at hcode
      interval_cases k <;> exact ⟨_, rfl⟩
    obtain ⟨a, ha⟩ := some_action
    exact serve_refused h (acted a ha _ hc)
  · have answered : actOnCallNow body (s.holding 49#8 tag body) =
        done (s.holding 49#8 tag body) (.callActed c.number c.state) := by
      rw [acted .answer (by rw [hcode]; rfl) _ hc]
      exact congrArg (fun u => done u (.callActed c.number c.state)) (answerCall_answered (s := s.holding 49#8 tag body) hans)
    exact serve_done (t := s) h answered
  · have handled := acted .answer (by rw [hcode]; rfl) _ hc
    obtain ⟨t, hx, ht, ha, hs⟩ := callHandled h handled (ByOps.answerCall _ c).shows
      (x := { s with calls := withRecord s c (answeredNow s c), stations := ((s.holding 49#8 tag body).answerCall c).stations })
      ⟨rfl, rfl, rfl⟩ (answerCall_butShown (s := s.holding 49#8 tag body) hans)
    have e1 : t.stations = ((s.holding 49#8 tag body).answerCall c).stations := by rw [ht]
    rw [answeredNow_eq hans] at hs
    exact ⟨t, hx, ha, by rw [e1]; exact hs, lampFollows_answered (answerCall_lamps hans) ht⟩
  · have refused : actOnCallNow body (s.holding 49#8 tag body) = refuse (s.holding 49#8 tag body) .wrongState := by
      rw [acted .carry (by rw [hcode]; rfl) _ hc]
      have : carriable (s.holding 49#8 tag body) c = false := hcar
      unfold actOn
      dsimp only
      rw [this]
      rfl
    exact serve_refused h refused
  · have handled : actOnCallNow body (s.holding 49#8 tag body) =
        done ((s.holding 49#8 tag body).carryCall c) (.callActed c.number .carried) := by
      rw [acted .carry (by rw [hcode]; rfl) _ hc]
      exact if_pos (show carriable (s.holding 49#8 tag body) c = true from hcar)
    have hu := butShown_of_change (carryCall_butChange (s.holding 49#8 tag body) c)
    have hl := carryCall_lamps (s.holding 49#8 tag body) c
    have told := holdLeft_told (carryCall_announces (s.holding 49#8 tag body) c) (carryCall_stops _ c)
      (fun q => carryCall_lineView q)
    rw [carryCall_calls] at hu
    have sh := (ByOps.carryCall (s.holding 49#8 tag body) c).shows
    generalize (s.holding 49#8 tag body).carryCall c = u at handled hu hl told sh
    obtain ⟨t, hx, ht, ha, hs⟩ := callHandled h handled sh (x := { s with
      calls := withRecord s c (carriedNow s c), stations := u.stations, stops := u.stops, loopA := u.loopA, loopB := u.loopB })
      ⟨rfl, rfl, rfl⟩ hu
    have e1 : t.stations = u.stations := by rw [ht]
    have e2 : t.stops = u.stops := by rw [ht]
    have e3 : t.loopA = u.loopA := by rw [ht]
    have e4 : t.loopB = u.loopB := by rw [ht]
    refine ⟨t, carriedNow s c, hx, ha, rfl, by rw [e1, e2, e3, e4]; exact hs, lampFollows_answered hl ht, fun q => ⟨?_, ?_⟩,
      fun q => ?_⟩
    · unfold holdLeft; rw [e2]; exact (told.1 q).1
    · exact loopsAnnounce_answered (told.1 q).2 ht
    · rw [e2, e3, e4]; exact told.2 q
  · have handled : actOnCallNow body (s.holding 49#8 tag body) =
        done ((s.holding 49#8 tag body).closeCall outcome true c) (.callClosed c.number outcome) := by
      obtain ⟨rfl, rfl⟩ | ⟨rfl, rfl⟩ := readAction_clear_cancel hmem
      · exact acted .clear (by rw [hcode]; rfl) _ hc
      · exact acted .cancel (by rw [hcode]; rfl) _ hc
    obtain ⟨stale, hu⟩ := closeCall_butShown (s.holding 49#8 tag body) outcome c
    obtain ⟨hh, hn, ho⟩ := struck_history (s.holding 49#8 tag body) outcome c
    rw [hh, hn, ho] at hu
    have hl := closeCall_lamps (s.holding 49#8 tag body) outcome c
    have told := holdLeft_told (closeCall_announces (s.holding 49#8 tag body) outcome c)
      ((closeCall_stops _ outcome true c).trans rfl) (fun q => closeCall_quiet q outcome)
    have sh := (ByOps.closeCall (s.holding 49#8 tag body) outcome true c).shows
    generalize (s.holding 49#8 tag body).closeCall outcome true c = u at handled hu hl told sh
    obtain ⟨t, hx, ht, ha, hf⟩ := serve_answered h handled sh.host
    have hv : t.butShown = u.butShown := by rw [ht]; rfl
    have hw := hv.trans hu
    have e1 : t.stations = u.stations := by rw [ht]
    have e2 : t.stops = u.stops := by rw [ht]
    have e3 : t.loopA = u.loopA := by rw [ht]
    have e4 : t.loopB = u.loopB := by rw [ht]
    have e5 : t.history = _ := (congrArg State.history hw :)
    have e6 : t.nextSeq = _ := (congrArg State.nextSeq hw :)
    have e7 : t.overflowCount = _ := (congrArg State.overflowCount hw :)
    have e8 : t.staleTimer = stale := (congrArg State.staleTimer hw :)
    refine ⟨t, hx, ha, e5, e6, e7, ?_, lampFollows_answered hl ht, fun q => ⟨?_, ?_⟩, fun q => ?_⟩
    · refine sameButShown_of_shows (s := s) (u := u) ⟨rfl, rfl, rfl⟩ ?_ sh ht hf
      rw [e1, e2, e3, e4, e5, e6, e7, e8]
      exact hu
    · unfold holdLeft; rw [e2]; exact (told.1 q).1
    · exact loopsAnnounce_answered (told.1 q).2 ht
    · rw [e2, e3, e4]; exact told.2 q

end Sys2Proof.Machine
end

section
/-! PROOFS. EquationPass: what one pass of the equation unit does to each equation (R103–R113). -/

namespace Sys2Proof.Machine

/-! ## The part of a pass that some equations take -/

/-- What the equations `is` of a pass may change: their own states, the flags and relays they target, and the changes
they hand on. -/
structure Passes (D : Nat → Option EquationDef) (is : List Nat) (acc now : State × List Change) : Prop where
  unit : now.1.butEquations = acc.1.butEquations
  equations : ∀ j, j ∉ is → pick now.1.equations j = pick acc.1.equations j
  flags : ∀ f, (∀ i ∈ is, ∀ d, D i = some d → d.target ≠ .flag f) → pick now.1.flags f = pick acc.1.flags f
  relays : ∀ r, (∀ i ∈ is, ∀ d, D i = some d → d.target ≠ .relay r) → pick now.1.relays r = pick acc.1.relays r
  told : ∃ more, now.2 = acc.2 ++ more ∧ (∀ f, pick now.1.flags f ≠ pick acc.1.flags f → .flag f ∈ more)
    ∧ ∀ r, pick now.1.relays r ≠ pick acc.1.relays r → .relay r ∈ more

theorem Passes.refl {D : Nat → Option EquationDef} (acc : State × List Change) : Passes D [] acc acc :=
  ⟨rfl, fun _ _ => rfl, fun _ _ => rfl, fun _ _ => rfl, [], by simp, fun _ h => absurd rfl h, fun _ h => absurd rfl h⟩

theorem Passes.trans {D : Nat → Option EquationDef} {is js : List Nat} {a b c : State × List Change} (h : Passes D is a b)
    (k : Passes D js b c) : Passes D (is ++ js) a c := by
  obtain ⟨m, hm, hf, hr⟩ := h.told
  obtain ⟨n, kn, kf, kr⟩ := k.told
  refine ⟨k.unit.trans h.unit, fun j hj => ?_, fun f hn => ?_, fun r hn => ?_, m ++ n, ?_, fun f hne => ?_, fun r hne => ?_⟩
  · rw [List.mem_append, not_or] at hj
    exact (k.equations j hj.2).trans (h.equations j hj.1)
  · exact (k.flags f fun i hi => hn i (List.mem_append_right _ hi)).trans
      (h.flags f fun i hi => hn i (List.mem_append_left _ hi))
  · exact (k.relays r fun i hi => hn i (List.mem_append_right _ hi)).trans
      (h.relays r fun i hi => hn i (List.mem_append_left _ hi))
  · rw [kn, hm, List.append_assoc]
  · by_cases hb : pick b.1.flags f = pick a.1.flags f
    · exact List.mem_append_right _ (kf f (hb ▸ hne))
    · exact List.mem_append_left _ (hf f hb)
  · by_cases hb : pick b.1.relays r = pick a.1.relays r
    · exact List.mem_append_right _ (kr r (hb ▸ hne))
    · exact List.mem_append_left _ (hr r hb)

/-- The equations that a pass takes more than once count once. -/
theorem Passes.weaken {D : Nat → Option EquationDef} {is js : List Nat} {a b : State × List Change} (h : Passes D is a b)
    (hs : ∀ i ∈ is, i ∈ js) : Passes D js a b :=
  ⟨h.unit, fun j hj => h.equations j fun hi => hj (hs j hi), fun f hn => h.flags f fun i hi => hn i (hs i hi),
    fun r hn => h.relays r fun i hi => hn i (hs i hi), h.told⟩

/-! ## One equation settled (R113) -/

/-- The equation set to a new state in a pass, its target following and the change handed on. -/
def settledTo (acc : State × List Change) (i : Nat) (d : EquationDef) (e : EquationState) : State × List Change :=
  ((settleEquation acc.1 i d e).1, acc.2 ++ (settleEquation acc.1 i d e).2)

theorem applyTarget_equations (s : State) (t : Target) (o : Bool) : (applyTarget s t o).1.equations = s.equations := by
  unfold applyTarget
  cases t with
  | flag f => dsimp only; split <;> rfl
  | relay r => dsimp only; split <;> rfl
  | tune c n => rfl

theorem settleEquation_equations (s : State) (i : Nat) (d : EquationDef) (e : EquationState) :
    (settleEquation s i d e).1.equations = alter s.equations i fun _ => e := by
  rw [settleEquation_eq]
  split
  · rfl
  · exact applyTarget_equations ..

theorem applyTarget_flags (s : State) {t : Target} {f : Nat} (o : Bool) (h : t ≠ .flag f) :
    pick (applyTarget s t o).1.flags f = pick s.flags f := by
  unfold applyTarget
  cases t with
  | flag g =>
    dsimp only
    split
    · rfl
    · exact pick_alter_ne _ _ fun e => h (by rw [e])
  | relay r => dsimp only; split <;> rfl
  | tune c n => rfl

theorem applyTarget_relays (s : State) {t : Target} {r : Nat} (o : Bool) (h : t ≠ .relay r) :
    pick (applyTarget s t o).1.relays r = pick s.relays r := by
  unfold applyTarget
  cases t with
  | flag g => dsimp only; split <;> rfl
  | relay q =>
    dsimp only
    split
    · rfl
    · exact pick_alter_ne _ _ fun e => h (by rw [e])
  | tune c n => rfl

/-- R113: a flag or relay that the target's update changes is handed on. -/
theorem applyTarget_told (s : State) (t : Target) (o : Bool) :
    (∀ f, pick (applyTarget s t o).1.flags f ≠ pick s.flags f → .flag f ∈ (applyTarget s t o).2)
      ∧ ∀ r, pick (applyTarget s t o).1.relays r ≠ pick s.relays r → .relay r ∈ (applyTarget s t o).2 := by
  refine ⟨fun f hne => ?_, fun r hne => ?_⟩
  · by_cases ht : t = .flag f
    · subst ht
      unfold applyTarget at hne ⊢
      dsimp only at hne ⊢
      split
      · next h => rw [if_pos h] at hne; exact absurd rfl hne
      · exact List.mem_singleton_self _
    · exact absurd (applyTarget_flags s o ht) hne
  · by_cases ht : t = .relay r
    · subst ht
      unfold applyTarget at hne ⊢
      dsimp only at hne ⊢
      split
      · next h => rw [if_pos h] at hne; exact absurd rfl hne
      · exact List.mem_singleton_self _
    · exact absurd (applyTarget_relays s o ht) hne

theorem settledTo_passes {D : Nat → Option EquationDef} {i : Nat} {d : EquationDef} (hd : D i = some d)
    (acc : State × List Change) (e : EquationState) : Passes D [i] acc (settledTo acc i d e) := by
  have targets : ∀ {t : Target}, (∀ j ∈ [i], ∀ x, D j = some x → x.target ≠ t) → d.target ≠ t :=
    fun h => h i (List.mem_singleton_self i) d hd
  refine ⟨settleEquation_butEquations .., fun j hj => ?_, fun f hn => ?_, fun r hn => ?_, _, rfl, ?_⟩
  · show pick (settleEquation acc.1 i d e).1.equations j = _
    rw [settleEquation_equations]
    exact pick_alter_ne _ _ fun e => hj (by rw [e]; exact List.mem_singleton_self i)
  · show pick (settleEquation acc.1 i d e).1.flags f = _
    rw [settleEquation_eq]
    split
    · rfl
    · exact applyTarget_flags _ _ (targets hn)
  · show pick (settleEquation acc.1 i d e).1.relays r = _
    rw [settleEquation_eq]
    split
    · rfl
    · exact applyTarget_relays _ _ (targets hn)
  · show (∀ f, pick (settleEquation acc.1 i d e).1.flags f ≠ _ → _) ∧ ∀ r, pick (settleEquation acc.1 i d e).1.relays r ≠ _ → _
    rw [settleEquation_eq]
    split
    · exact ⟨fun _ h => absurd rfl h, fun _ h => absurd rfl h⟩
    · exact applyTarget_told ..

/-- An equation set to the state it is in changes nothing. -/
theorem settledTo_same {acc : State × List Change} {i : Nat} {d : EquationDef} :
    settledTo acc i d (pick acc.1.equations i) = acc := by
  unfold settledTo
  have same : acc.1.withEquation i (pick acc.1.equations i) = acc.1 := by
    unfold State.withEquation
    rw [alter_fixed acc.1.equations (f := fun _ => pick acc.1.equations i) rfl]
  rw [settleEquation_eq, if_pos rfl, same, List.append_nil]

/-! ## One equation's turn in a pass (R106–R112) -/

/-- R112: the equation's expiry, where it has one in this pass. -/
def expiredIn (b : Bool) (d : EquationDef) (e : EquationState) : EquationState :=
  if b && e.timer == some 0 then takeExpiry d.delay e else e

/-- R112: the pass with the equation's expiry taken. -/
def afterExpiry (b : Bool) (acc : State × List Change) (i : Nat) (d : EquationDef) : State × List Change :=
  settledTo acc i d (expiredIn b d (pick acc.1.equations i))

theorem afterExpiry_equation (b : Bool) (acc : State × List Change) {i : Nat} (d : EquationDef) (h1 : 1 ≤ i) (h2 : i ≤ 48) :
    pick (afterExpiry b acc i d).1.equations i = expiredIn b d (pick acc.1.equations i) := by
  show pick (settleEquation acc.1 i d _).1.equations i = _
  rw [settleEquation_equations, pick_alter_within _ _ h1 h2, if_pos rfl]

theorem passOne_undefined {b : Bool} {acc : State × List Change} {i : Nat} (h : acc.1.equationDef i = none) :
    passOne b acc i = acc := by
  unfold passOne; rw [h]

theorem passOne_defined {b : Bool} {acc : State × List Change} {i : Nat} {d : EquationDef}
    (h : acc.1.equationDef i = some d) (h1 : 1 ≤ i) (h2 : i ≤ 48) : passOne b acc i =
      if acc.2.any d.reads then settledTo (afterExpiry b acc i d) i d
        (takeRaw d.delay (expiredIn b d (pick acc.1.equations i)) (rawValue (afterExpiry b acc i d).1 d.terms))
      else afterExpiry b acc i d := by
  have expired : (if b && (pick acc.1.equations i).timer == some 0 then
      ((settleEquation acc.1 i d (takeExpiry d.delay (pick acc.1.equations i))).1,
        acc.2 ++ (settleEquation acc.1 i d (takeExpiry d.delay (pick acc.1.equations i))).2) else acc) =
      afterExpiry b acc i d := by
    unfold afterExpiry expiredIn
    split
    · rfl
    · exact settledTo_same.symm
  unfold passOne
  rw [h]
  dsimp only
  rw [expired, ← afterExpiry_equation b acc d h1 h2]
  rfl

theorem passOne_passes (b : Bool) (acc : State × List Change) {i : Nat} (h1 : 1 ≤ i) (h2 : i ≤ 48) :
    Passes acc.1.equationDef [i] acc (passOne b acc i) := by
  cases hd : acc.1.equationDef i with
  | none =>
    rw [passOne_undefined hd]
    exact (Passes.refl acc).weaken fun _ h => absurd h List.not_mem_nil
  | some d =>
    rw [passOne_defined hd h1 h2]
    have expired := settledTo_passes (i := i) hd acc (expiredIn b d (pick acc.1.equations i))
    split
    · exact (expired.trans (settledTo_passes (i := i) hd (afterExpiry b acc i d) _)).weaken fun j hj => by simpa using hj
    · exact expired

/-- R106: a run of equations of a pass. -/
theorem pass_passes (b : Bool) (D : Nat → Option EquationDef) (is : List Nat) (hin : ∀ i ∈ is, 1 ≤ i ∧ i ≤ 48)
    (acc : State × List Change) (hD : acc.1.equationDef = D) : Passes D is acc (is.foldl (passOne b) acc) := by
  induction is generalizing acc with
  | nil => exact .refl acc
  | cons i is ih =>
    obtain ⟨h1, h2⟩ := hin i (List.mem_cons_self ..)
    have one := passOne_passes b acc h1 h2
    rw [hD] at one
    have defs : (passOne b acc i).1.defs = acc.1.defs := (congrArg State.defs one.unit :)
    exact one.trans (ih (fun j hj => hin j (List.mem_cons_of_mem _ hj)) _ (by
      rw [← hD]; unfold State.equationDef; rw [defs]))

/-- R106: the equations before and after one in a pass. -/
theorem numbers_split {n i : Nat} (h1 : 1 ≤ i) (h2 : i ≤ n) :
    ∃ before after, numbers n = before ++ i :: after ∧ (∀ j ∈ before, 1 ≤ j ∧ j < i) ∧ (∀ j ∈ after, i < j ∧ j ≤ n)
      ∧ ∀ j, 1 ≤ j → j < i → j ∈ before := by
  refine ⟨numbers (i - 1), (List.range (n - i)).map fun k => k + i + 1, ?_, fun j hj => ?_, fun j hj => ?_, fun j j1 j2 => ?_⟩
  · unfold numbers
    refine List.ext_getElem (by simp; omega) fun k hk1 hk2 => ?_
    simp only [List.length_map, List.length_range] at hk1
    by_cases hlt : k < i - 1
    · rw [List.getElem_append_left (by simpa using hlt)]; simp
    · rw [List.getElem_append_right (by simp; omega)]
      simp only [List.getElem_map, List.getElem_range, List.length_map, List.length_range, List.getElem_cons]
      split
      · omega
      · omega
  · rw [mem_numbers] at hj; omega
  · obtain ⟨k, hk, rfl⟩ := List.mem_map.mp hj
    rw [List.mem_range] at hk; omega
  · rw [mem_numbers]; omega

end Sys2Proof.Machine
end

section
/-! PROOFS. EquationOrder: a pass leaves each equation with the raw value that its terms have in the state it leaves (R106,
R108, R112). -/

namespace Sys2Proof.Machine

/-! ## What an equation reads (R103, R108) -/

theorem evalTerm_congr {s t : State} {x : Term} (h : ∀ op y, x = .operand op y → operandValue s y = operandValue t y)
    (lists : List OpenList) : evalTerm s lists x = evalTerm t lists x := by
  unfold evalTerm
  cases lists with
  | nil => rfl
  | cons top rest =>
    cases x with
    | operand op y => simp only [h op y rfl]
    | group op => rfl
    | elseChain => rfl
    | endGroup => rfl

theorem rawValue_congr {s t : State} {ts : List Term}
    (h : ∀ op y, .operand op y ∈ ts → operandValue s y = operandValue t y) : rawValue s ts = rawValue t ts := by
  have lists : ∀ (ts : List Term) (l : List OpenList), (∀ op y, .operand op y ∈ ts → operandValue s y = operandValue t y) →
      ts.foldl (evalTerm s) l = ts.foldl (evalTerm t) l := by
    intro ts
    induction ts with
    | nil => exact fun _ _ => rfl
    | cons x xs ih =>
      intro l hx
      rw [List.foldl_cons, List.foldl_cons, evalTerm_congr (t := t) fun op y e => hx op y (e ▸ List.mem_cons_self ..)]
      exact ih _ fun op y hy => hx op y (List.mem_cons_of_mem _ hy)
  unfold rawValue
  rw [lists ts _ h]

/-- An operand that is no flag and no relay reads nothing that the equation unit changes. -/
theorem operandValue_unit {s t : State} (h : t.butEquations = s.butEquations) {x : Operand} (hf : ∀ f, x ≠ .flag f)
    (hr : ∀ r, x ≠ .relay r) : operandValue t x = operandValue s x := by
  have unit : ∀ y : State, operandValue y x = operandValue y.butEquations x := by
    intro y
    cases x with
    | flag f => exact absurd rfl (hf f)
    | relay r => exact absurd rfl (hr r)
    | input k => rfl
    | sectionAspect n a => cases a <;> rfl
    | zone n a => rfl
    | cls n a => rfl
    | stationOffline n => rfl
    | boardDark n => rfl
    | shift a => cases a <;> rfl
    | blinkSlow => rfl
    | blinkFast => rfl
    | tableFull => rfl
  rw [unit t, unit s, h]

theorem reads_flag_iff {d : EquationDef} {f : Nat} : d.reads (.flag f) = true ↔ ∃ op, .operand op (.flag f) ∈ d.terms := by
  unfold EquationDef.reads
  rw [Bool.or_eq_true, List.any_eq_true]
  constructor
  · rintro (h | ⟨x, hx, hr⟩)
    · exact absurd h (by simp)
    · cases x with
      | operand op y =>
        have : y = .flag f := by simpa [Change.touches] using hr
        exact ⟨op, this ▸ hx⟩
      | group op => cases hr
      | elseChain => cases hr
      | endGroup => cases hr
  · rintro ⟨op, h⟩
    exact .inr ⟨_, h, by simp [Change.touches]⟩

theorem reads_relay_iff {d : EquationDef} {r : Nat} : d.reads (.relay r) = true ↔ ∃ op, .operand op (.relay r) ∈ d.terms := by
  unfold EquationDef.reads
  rw [Bool.or_eq_true, List.any_eq_true]
  constructor
  · rintro (h | ⟨x, hx, hr⟩)
    · exact absurd h (by simp)
    · cases x with
      | operand op y =>
        have : y = .relay r := by simpa [Change.touches] using hr
        exact ⟨op, this ▸ hx⟩
      | group op => cases hr
      | elseChain => cases hr
      | endGroup => cases hr
  · rintro ⟨op, h⟩
    exact .inr ⟨_, h, by simp [Change.touches]⟩

/-- R106: in definitions that agree, no flag or relay that an equation reads is targeted by it or by a higher one. -/
theorem read_before {s : State} (hc : configCheck s.defs = none) {i j : Nat} {d x : EquationDef} (h1 : 1 ≤ i) (hij : i ≤ j)
    (h2 : j ≤ 48) (hd : s.equationDef i = some d) (hx : s.equationDef j = some x) :
    (∀ op f, .operand op (.flag f) ∈ d.terms → x.target ≠ .flag f)
      ∧ ∀ op r, .operand op (.relay r) ∈ d.terms → x.target ≠ .relay r := by
  have ok := equationFails_of_agree hc h1 (Nat.le_trans hij h2)
  have hd' : pick s.defs.equations i = some d := hd
  have hx' : pick s.defs.equations j = some x := hx
  unfold equationFails at ok
  simp only [hd', Bool.or_eq_false_iff, List.any_eq_false] at ok
  obtain ⟨-, ok⟩ := ok
  refine ⟨fun op f hop ht => ok _ hop ?_, fun op r hop ht => ok _ hop ?_⟩
  · refine List.any_eq_true.mpr ⟨j, mem_numbers.mpr ⟨Nat.le_trans h1 hij, h2⟩, ?_⟩
    simp [within, hx', ht, hij, h2]
  · refine List.any_eq_true.mpr ⟨j, mem_numbers.mpr ⟨Nat.le_trans h1 hij, h2⟩, ?_⟩
    simp [within, hx', ht, hij, h2]

/-! ## One equation in a pass -/

/-- R106–R112: an equation's turn in a pass, as the changes handed on before it and its raw value have it. -/
structure TurnOf (b : Bool) (cs : List Change) (s t : State) (i : Nat) (d : EquationDef) (changes : List Change) : Prop where
  equation : ∃ v, pick t.equations i =
      (if changes.any d.reads then takeRaw d.delay (expiredIn b d (pick s.equations i)) v
        else expiredIn b d (pick s.equations i))
    ∧ (configCheck s.defs = none → v = rawValue t d.terms)
  told : ∃ more, changes = cs ++ more
  flags : configCheck s.defs = none → ∀ f, d.reads (.flag f) = true → pick t.flags f ≠ pick s.flags f → .flag f ∈ changes
  relays : configCheck s.defs = none → ∀ r, d.reads (.relay r) = true → pick t.relays r ≠ pick s.relays r → .relay r ∈ changes

/-- R108: the value that an equation's terms have at its turn they have in the state that the pass leaves. -/
theorem rawValue_after {s : State} {i : Nat} {d : EquationDef} {after : List Nat} {acc now : State × List Change}
    (hc : configCheck s.defs = none) (h1 : 1 ≤ i) (h2 : i ≤ 48) (hd : s.equationDef i = some d)
    (hafter : ∀ j ∈ after, i < j ∧ j ≤ 48) (h : Passes s.equationDef (i :: after) acc now) :
    rawValue acc.1 d.terms = rawValue now.1 d.terms := by
  have higher : ∀ j ∈ i :: after, i ≤ j ∧ j ≤ 48 := fun j hj => by
    rcases List.mem_cons.mp hj with rfl | hj
    · exact ⟨Nat.le_refl _, h2⟩
    · exact ⟨Nat.le_of_lt (hafter j hj).1, (hafter j hj).2⟩
  refine rawValue_congr fun op y hy => ?_
  by_cases hf : ∃ f, y = .flag f
  · obtain ⟨f, rfl⟩ := hf
    exact (h.flags f fun j hj x hx => (read_before hc h1 (higher j hj).1 (higher j hj).2 hd hx).1 op f hy).symm
  · by_cases hr : ∃ r, y = .relay r
    · obtain ⟨r, rfl⟩ := hr
      exact (h.relays r fun j hj x hx => (read_before hc h1 (higher j hj).1 (higher j hj).2 hd hx).2 op r hy).symm
    · exact (operandValue_unit h.unit (fun f e => hf ⟨f, e⟩) fun r e => hr ⟨r, e⟩).symm

/-- R106–R112: each defined equation's turn in a pass. -/
theorem equationPass_turn (b : Bool) (cs : List Change) (s : State) {i : Nat} {d : EquationDef} (h1 : 1 ≤ i) (h2 : i ≤ 48)
    (hd : s.equationDef i = some d) : ∃ before after, numbers 48 = before ++ i :: after
      ∧ TurnOf b cs s (equationPass b cs s) i d (before.foldl (passOne b) (s, cs)).2
      ∧ (∀ j ∈ before, 1 ≤ j ∧ j < i) := by
  obtain ⟨before, after, hs, hb, ha, -⟩ := numbers_split h1 h2
  refine ⟨before, after, hs, ?_, hb⟩
  have inb : ∀ j ∈ before, 1 ≤ j ∧ j ≤ 48 := fun j hj => ⟨(hb j hj).1, by have := (hb j hj).2; omega⟩
  have ina : ∀ j ∈ after, 1 ≤ j ∧ j ≤ 48 := fun j hj => ⟨by have := (ha j hj).1; omega, (ha j hj).2⟩
  have whole : equationPass b cs s = (after.foldl (passOne b) (passOne b (before.foldl (passOne b) (s, cs)) i)).1 := by
    unfold equationPass
    rw [hs, List.foldl_append, List.foldl_cons]
  have lower := pass_passes b s.equationDef before inb (s, cs) rfl
  rw [whole]
  generalize before.foldl (passOne b) (s, cs) = acc at lower
  have hdefs : acc.1.defs = s.defs := (congrArg State.defs lower.unit :)
  have same : acc.1.equationDef = s.equationDef := by funext j; unfold State.equationDef; rw [hdefs]
  have hd' : acc.1.equationDef i = some d := by rw [same]; exact hd
  have turn := passOne_passes b acc h1 h2
  rw [same] at turn
  have defs2 : (passOne b acc i).1.defs = s.defs := by
    have : (passOne b acc i).1.defs = acc.1.defs := (congrArg State.defs turn.unit :)
    exact this.trans hdefs
  have higher := pass_passes b s.equationDef after ina (passOne b acc i) (by
    funext j; unfold State.equationDef; rw [defs2])
  have rest := turn.trans higher
  have notIn : i ∉ after := fun h => Nat.lt_irrefl i (ha i h).1
  have notBefore : i ∉ before := fun h => Nat.lt_irrefl i (hb i h).2
  have own := higher.equations i notIn
  have was : pick acc.1.equations i = pick s.equations i := lower.equations i notBefore
  obtain ⟨more, hmore, tf, tr⟩ := lower.told
  generalize after.foldl (passOne b) (passOne b acc i) = last at *
  have expired := settledTo_passes (i := i) (D := s.equationDef) hd acc (expiredIn b d (pick acc.1.equations i))
  refine ⟨⟨rawValue (afterExpiry b acc i d).1 d.terms, ?_, fun hc => ?_⟩, ⟨more, hmore⟩, fun hc f hf hne => ?_,
    fun hc r hr hne => ?_⟩
  · rw [own, passOne_defined hd' h1 h2, was]
    split
    · show pick (settleEquation _ i d _).1.equations i = _
      rw [settleEquation_equations, pick_alter_within _ _ h1 h2, if_pos rfl]
    · rw [afterExpiry_equation b acc d h1 h2, was]
  · have one : rawValue acc.1 d.terms = rawValue (afterExpiry b acc i d).1 d.terms :=
      rawValue_after (after := []) hc h1 h2 hd (fun _ h => absurd h List.not_mem_nil) expired
    rw [← one]
    exact rawValue_after hc h1 h2 hd ha rest
  · obtain ⟨op, hop⟩ := reads_flag_iff.mp hf
    have later := rest.flags f fun j hj x hx => by
      rcases List.mem_cons.mp hj with rfl | hj
      · exact (read_before hc h1 (Nat.le_refl _) h2 hd hx).1 op f hop
      · exact (read_before hc h1 (Nat.le_of_lt (ha j hj).1) (ha j hj).2 hd hx).1 op f hop
    rw [later] at hne
    rw [hmore]
    exact List.mem_append_right _ (tf f hne)
  · obtain ⟨op, hop⟩ := reads_relay_iff.mp hr
    have later := rest.relays r fun j hj x hx => by
      rcases List.mem_cons.mp hj with rfl | hj
      · exact (read_before hc h1 (Nat.le_refl _) h2 hd hx).2 op r hop
      · exact (read_before hc h1 (Nat.le_of_lt (ha j hj).1) (ha j hj).2 hd hx).2 op r hop
    rw [later] at hne
    rw [hmore]
    exact List.mem_append_right _ (tr r hne)

/-- R106: an undefined equation stays as it is. -/
theorem equationPass_undefined (b : Bool) (cs : List Change) (s : State) {i : Nat} (h1 : 1 ≤ i) (h2 : i ≤ 48)
    (hd : s.equationDef i = none) : pick (equationPass b cs s).equations i = pick s.equations i := by
  obtain ⟨before, after, hs, hb, ha, -⟩ := numbers_split h1 h2
  have inb : ∀ j ∈ before, 1 ≤ j ∧ j ≤ 48 := fun j hj => ⟨(hb j hj).1, by have := (hb j hj).2; omega⟩
  have ina : ∀ j ∈ after, 1 ≤ j ∧ j ≤ 48 := fun j hj => ⟨by have := (ha j hj).1; omega, (ha j hj).2⟩
  have lower := pass_passes b s.equationDef before inb (s, cs) rfl
  unfold equationPass
  rw [hs, List.foldl_append, List.foldl_cons]
  generalize before.foldl (passOne b) (s, cs) = acc at lower
  have hdefs : acc.1.defs = s.defs := (congrArg State.defs lower.unit :)
  rw [passOne_undefined (show acc.1.equationDef i = none by unfold State.equationDef; rw [hdefs]; exact hd)]
  have higher := pass_passes b acc.1.equationDef after ina acc rfl
  exact (higher.equations i fun h => Nat.lt_irrefl i (ha i h).1).trans
    (lower.equations i fun h => Nat.lt_irrefl i (hb i h).2)

/-- R113: a flag that no equation targets stays. -/
theorem equationPass_flag (b : Bool) (cs : List Change) (s : State) {f : Nat} (h : flagOwned s f = false) :
    pick (equationPass b cs s).flags f = pick s.flags f := by
  have hin : ∀ i ∈ numbers 48, 1 ≤ i ∧ i ≤ 48 := fun i hi => mem_numbers.mp hi
  unfold equationPass
  generalize numbers 48 = is at hin ⊢
  refine (pass_passes b s.equationDef is hin (s, cs) rfl).flags f fun i hi d hd => ?_
  obtain ⟨h1, h2⟩ := hin i hi
  exact equationDef_of_owned h h1 h2 hd

end Sys2Proof.Machine
end

section
/-! PROOFS. TermLists: how a term list gives a raw value (R103, R104). -/

namespace Sys2Proof.Machine

/-! ## Balanced lists -/

/-- A term of a balanced list does not reach below the lists it may reach. -/
theorem evalTerm_append (s : State) (t : Term) {lists : List OpenList} (rest : List OpenList) (h : lists ≠ [])
    (he : t = .endGroup → 2 ≤ lists.length) : evalTerm s (lists ++ rest) t = evalTerm s lists t ++ rest := by
  match lists with
  | [] => exact absurd rfl h
  | [x] =>
    cases t with
    | operand op y => rfl
    | group op => rfl
    | elseChain => rfl
    | endGroup => exact absurd (he rfl) (by simp)
  | x :: y :: l => cases t <;> rfl

theorem evalTerm_length (s : State) (t : Term) {lists : List OpenList} {d e : Nat} {ts : List Term}
    (hl : lists.length = d + 1) (hg : groupsAfter (t :: ts) d = some e) :
    ∃ d', (evalTerm s lists t).length = d' + 1 ∧ groupsAfter ts d' = some e ∧ (t = .endGroup → 2 ≤ lists.length) := by
  match lists, hl with
  | x :: l, hl =>
    cases t with
    | operand op y => exact ⟨d, hl, hg, nofun⟩
    | group op => exact ⟨d + 1, by simpa [evalTerm] using hl, hg, nofun⟩
    | elseChain => exact ⟨d, hl, hg, nofun⟩
    | endGroup =>
      unfold groupsAfter at hg
      split at hg
      · cases hg
      · next hd =>
        match l, hl with
        | [], hl => exact absurd (by simpa using hl.symm) hd
        | y :: l, hl => exact ⟨d - 1, by simp [evalTerm] at hl ⊢; omega, hg, fun _ => by simp⟩

/-- R104: a balanced list is evaluated above what is open before it. -/
theorem eval_frame (s : State) (ts : List Term) (rest : List OpenList) : ∀ (d e : Nat) (lists : List OpenList),
    lists.length = d + 1 → groupsAfter ts d = some e →
      ts.foldl (evalTerm s) (lists ++ rest) = ts.foldl (evalTerm s) lists ++ rest
        ∧ (ts.foldl (evalTerm s) lists).length = e + 1 := by
  induction ts with
  | nil =>
    intro d e lists hl hg
    cases hg
    exact ⟨rfl, hl⟩
  | cons t ts ih =>
    intro d e lists hl hg
    obtain ⟨d', hl', hg', he⟩ := evalTerm_length s t hl hg
    rw [List.foldl_cons, List.foldl_cons, evalTerm_append s t rest (fun h => by rw [h] at hl; cases hl) he]
    exact ih d' e _ hl' hg'

/-- The lists open, the outermost with another start: an earlier chain's value and another operation. -/
def restarted (v : Bool) (op : TermOp) : List OpenList → List OpenList
  | [] => []
  | [x] => [{ x with anyTrue := v || x.anyTrue, op := op }]
  | x :: y :: l => x :: restarted v op (y :: l)

theorem evalTerm_restarted (s : State) (v : Bool) (op : TermOp) (t : Term) (lists : List OpenList)
    (he : t = .endGroup → 2 ≤ lists.length) :
    evalTerm s (restarted v op lists) t = restarted v op (evalTerm s lists t) := by
  match lists with
  | [] => rfl
  | [x] =>
    cases t with
    | operand op' y => rfl
    | group op' => rfl
    | elseChain => simp [evalTerm, restarted, OpenList.value, Bool.or_assoc]
    | endGroup => exact absurd (he rfl) (by simp)
  | [x, y] => cases t <;> rfl
  | x :: y :: z :: l => cases t <;> rfl

theorem eval_restarted (s : State) (v : Bool) (op : TermOp) (ts : List Term) : ∀ (d e : Nat) (lists : List OpenList),
    lists.length = d + 1 → groupsAfter ts d = some e →
      ts.foldl (evalTerm s) (restarted v op lists) = restarted v op (ts.foldl (evalTerm s) lists) := by
  induction ts with
  | nil => exact fun _ _ _ _ _ => rfl
  | cons t ts ih =>
    intro d e lists hl hg
    obtain ⟨d', hl', hg', he⟩ := evalTerm_length s t hl hg
    rw [List.foldl_cons, List.foldl_cons, evalTerm_restarted s v op t lists he]
    exact ih d' e _ hl' hg'

/-- The list that an evaluation starts with. -/
def startList : OpenList := ⟨false, none, .and⟩

theorem rawValue_eq (s : State) (ts : List Term) {l : OpenList} (h : ts.foldl (evalTerm s) [startList] = [l]) :
    rawValue s ts = l.value := by
  unfold rawValue startList at *
  rw [h]; rfl

/-- R104: a balanced list leaves one list open. -/
theorem balanced_one (s : State) {ts : List Term} (h : balanced ts) : ∃ l, ts.foldl (evalTerm s) [startList] = [l] :=
  List.length_eq_one_iff.mp (eval_frame s ts [] 0 0 [startList] rfl h).2

/-- R103, R104: a balanced list evaluated anew in the place of another list. -/
theorem balanced_restarted (s : State) {ts : List Term} (h : balanced ts) (v : Bool) (op : TermOp) (rest : List OpenList) :
    ∃ l : OpenList, ts.foldl (evalTerm s) (⟨v, none, op⟩ :: rest) = l :: rest ∧ l.value = (v || rawValue s ts) ∧ l.op = op := by
  obtain ⟨l, hl⟩ := balanced_one s h
  have start : [(⟨v, none, op⟩ : OpenList)] = restarted v op [startList] := by simp [restarted, startList]
  have framed := (eval_frame s ts rest 0 0 [⟨v, none, op⟩] rfl h).1
  rw [start, eval_restarted s v op ts 0 0 [startList] rfl h, hl, ← start] at framed
  exact ⟨_, framed, by rw [rawValue_eq s ts hl]; simp [OpenList.value, Bool.or_assoc], rfl⟩

/-! ## One chain (R103) -/

/-- R103: in a list of one chain the outermost list keeps its earlier value, and its chain is begun once a term of it has
been taken. -/
theorem chain_begun (s : State) (ts : List Term) : ∀ (d : Nat) (lists : List OpenList) (base : OpenList),
    lists.length = d → groupsAfter ts d = some 0 → oneChain ts d →
      ∃ l, ts.foldl (evalTerm s) (lists ++ [base]) = [l] ∧ l.anyTrue = base.anyTrue
        ∧ (base.chain.isSome = true ∨ 0 < d ∨ ts ≠ [] → l.chain.isSome = true) := by
  induction ts with
  | nil =>
    intro d lists base hl hg _
    cases hg
    rw [List.length_eq_zero_iff.mp hl]
    exact ⟨base, rfl, rfl, fun h => by simpa using h⟩
  | cons t ts ih =>
    intro d lists base hl hg ho
    rw [List.foldl_cons]
    cases t with
    | operand op y =>
      match lists, hl with
      | [], hl =>
        obtain ⟨l, h1, h2, h3⟩ := ih d [] { base with chain := some (op.combine base.chain (operandValue s y)) } hl hg ho
        exact ⟨l, h1, h2, fun _ => h3 (.inl rfl)⟩
      | x :: xs, hl =>
        obtain ⟨l, h1, h2, h3⟩ := ih d ({ x with chain := some (op.combine x.chain (operandValue s y)) } :: xs) base hl hg ho
        exact ⟨l, h1, h2, fun _ => h3 (.inr (.inl (by simp at hl; omega)))⟩
    | group op =>
      have pushed : evalTerm s (lists ++ [base]) (.group op) = (⟨false, none, op⟩ :: lists) ++ [base] := by
        cases lists <;> rfl
      rw [pushed]
      obtain ⟨l, h1, h2, h3⟩ := ih (d + 1) (⟨false, none, op⟩ :: lists) base (by simp [hl]) hg ho
      exact ⟨l, h1, h2, fun _ => h3 (.inr (.inl (Nat.succ_pos d)))⟩
    | elseChain =>
      obtain ⟨hd, ho⟩ := ho
      match lists, hl with
      | [], hl => exact absurd hl.symm hd
      | x :: xs, hl =>
        obtain ⟨l, h1, h2, h3⟩ := ih d ({ x with anyTrue := x.value, chain := none } :: xs) base hl hg ho
        exact ⟨l, h1, h2, fun _ => h3 (.inr (.inl (Nat.pos_of_ne_zero hd)))⟩
    | endGroup =>
      unfold groupsAfter at hg
      split at hg
      · cases hg
      · next hd =>
        match lists, hl with
        | [], hl => exact absurd hl.symm hd
        | [x], hl =>
          have one : d - 1 = 0 := by simp at hl; omega
          rw [one] at hg
          have ho' : oneChain ts 0 := by rw [← one]; exact ho
          obtain ⟨l, h1, h2, h3⟩ := ih 0 [] { base with chain := some (x.op.combine base.chain x.value) } rfl hg ho'
          exact ⟨l, h1, h2, fun _ => h3 (.inl rfl)⟩
        | x :: y :: xs, hl =>
          obtain ⟨l, h1, h2, h3⟩ := ih (d - 1) ({ y with chain := some (x.op.combine y.chain x.value) } :: xs) base
            (by simp at hl ⊢; omega) hg ho
          exact ⟨l, h1, h2, fun _ => h3 (.inr (.inl (by simp at hl; omega)))⟩

/-! ## The raw value of a list, term by term -/

theorem rawValue_single (s : State) (op : TermOp) (x : Operand) :
    rawValue s [.operand op x] = (op.negates != operandValue s x) := by
  unfold rawValue
  simp only [List.foldl_cons, List.foldl_nil, evalTerm, List.head?_cons, OpenList.value, TermOp.combine, Option.getD_some]
  cases op <;> cases operandValue s x <;> rfl

/-- R103: a later term combines its operand into the chain. -/
theorem rawValue_snoc (s : State) {ts : List Term} (op : TermOp) (x : Operand) (hb : balanced ts) (ho : oneChain ts 0)
    (hne : ts ≠ []) : rawValue s (ts ++ [.operand op x]) = op.combine (some (rawValue s ts)) (operandValue s x) := by
  obtain ⟨l, hl, ha, hc⟩ := chain_begun s ts 0 [] startList rfl hb ho
  obtain ⟨c, hc⟩ := Option.isSome_iff_exists.mp (hc (.inr (.inr hne)))
  have whole : (ts ++ [Term.operand op x]).foldl (evalTerm s) [startList] =
      [{ l with chain := some (op.combine l.chain (operandValue s x)) }] := by
    rw [List.foldl_append]
    show ([Term.operand op x].foldl (evalTerm s) (ts.foldl (evalTerm s) [startList])) = _
    rw [show ts.foldl (evalTerm s) [startList] = [l] from hl]
    rfl
  rw [rawValue_eq s _ whole, rawValue_eq s ts hl]
  unfold OpenList.value
  rw [ha, hc]
  rfl

/-- R103: a list is true where one of the chains that ELSE divides it into is. -/
theorem rawValue_else (s : State) {a b : List Term} (ha : balanced a) (hb : balanced b) :
    rawValue s (a ++ .elseChain :: b) = (rawValue s a || rawValue s b) := by
  obtain ⟨l, hl⟩ := balanced_one s ha
  obtain ⟨m, hm, hv, -⟩ := balanced_restarted s hb l.value l.op []
  have whole : (a ++ Term.elseChain :: b).foldl (evalTerm s) [startList] = [m] := by
    rw [List.foldl_append, hl, List.foldl_cons]
    exact hm
  rw [rawValue_eq s _ whole, hv, rawValue_eq s a hl]

/-- R104: a group stands in its list as an operand of the group's value would. -/
theorem rawValue_group (s : State) (before : List Term) (op : TermOp) {ts : List Term} {x : Operand} (after : List Term)
    (hb : balanced ts) (hv : rawValue s ts = operandValue s x) :
    rawValue s (before ++ .group op :: (ts ++ .endGroup :: after)) = rawValue s (before ++ .operand op x :: after) := by
  have step : ∀ lists : List OpenList, (Term.group op :: (ts ++ .endGroup :: after)).foldl (evalTerm s) lists =
      (Term.operand op x :: after).foldl (evalTerm s) lists := by
    intro lists
    rw [List.foldl_cons, List.foldl_append, List.foldl_cons, List.foldl_cons]
    cases lists with
    | nil =>
      have none : ∀ ts : List Term, ts.foldl (evalTerm s) [] = [] := fun ts => by
        induction ts with
        | nil => rfl
        | cons t ts ih => exact ih
      rw [show evalTerm s [] (.group op) = [] from rfl, none ts]
      rfl
    | cons top rest =>
      obtain ⟨l, hl, hval, hop⟩ := balanced_restarted s hb false op (top :: rest)
      rw [show evalTerm s (top :: rest) (.group op) = ⟨false, none, op⟩ :: top :: rest from rfl, hl]
      have closed : evalTerm s (l :: top :: rest) .endGroup =
          { top with chain := some (l.op.combine top.chain l.value) } :: rest := rfl
      rw [closed, hop, hval, hv]
      rfl
  unfold rawValue
  rw [List.foldl_append, List.foldl_append, step]

end Sys2Proof.Machine
end

section
/-! PROOFS. EquationRequests: SET FLAG, and the expiry of delay timers (R103–R114). -/

namespace Sys2Proof.Machine

/-! ## SET FLAG (R114) -/

theorem handOn_run {s : State} (h : s.mode = .run) (cs : List Change) : s.handOn cs = equationPass false cs s := if_pos h

/-- R113: a flag that no equation targets stays, whatever changes. -/
theorem handOn_flag {s : State} {f : Nat} (cs : List Change) (h : flagOwned s f = false) :
    pick (s.handOn cs).flags f = pick s.flags f := by
  unfold State.handOn; split
  · exact equationPass_flag _ _ _ h
  · rfl

/-- R113: a flag that no equation targets, set, leaves the outputs with their equations. -/
theorem outputsFollow_flagSet {s : State} {f : Nat} (value : Bool) (ho : flagOwned s f = false) (h : outputsFollow s) :
    outputsFollow { s with flags := alter s.flags f fun _ => value } := by
  obtain ⟨h1, h2, h3⟩ := h
  refine ⟨fun i e k i1 i2 he ht k1 k2 => ?_, h2, h3⟩
  show pick (alter s.flags f fun _ => value) k = _
  rw [pick_alter_within _ _ k1 k2, if_neg]
  · exact h1 i e k i1 i2 he ht k1 k2
  · rintro rfl; exact equationDef_of_owned ho i1 i2 he ht

theorem flagOwned_iff {s : State} {f : Nat} :
    flagOwned s f = true ↔ ∃ i e, 1 ≤ i ∧ i ≤ 48 ∧ s.equationDef i = some e ∧ e.target = .flag f := by
  unfold flagOwned
  rw [List.any_eq_true]
  constructor
  · rintro ⟨i, hi, h⟩
    obtain ⟨h1, h2⟩ := mem_numbers.mp hi
    split at h
    · next e he => exact ⟨i, e, h1, h2, he, by simpa using h⟩
    · cases h
  · rintro ⟨i, e, h1, h2, he, ht⟩
    refine ⟨i, mem_numbers.mpr ⟨h1, h2⟩, ?_⟩
    rw [he]
    simpa using ht

theorem setFlag_butEquations (s : State) (f : Nat) (value : Bool) : (s.setFlag f value).butEquations = s.butEquations := by
  unfold State.setFlag; split
  · rfl
  · exact handOn_butEquations ..

/-- R114: a flag that no equation targets takes the value. -/
theorem setFlag_value {s : State} {f : Nat} (value : Bool) (ho : flagOwned s f = false) (h1 : 1 ≤ f)
    (h2 : f ≤ 32) : pick (s.setFlag f value).flags f = value := by
  unfold State.setFlag
  split
  · next h => exact h
  · refine (handOn_flag (s := { s with flags := alter s.flags f fun _ => value }) _ ho).trans ?_
    show pick (alter s.flags f fun _ => value) f = value
    rw [pick_alter_within _ _ h1 h2, if_pos rfl]

theorem setFlag_other {s : State} {f g : Nat} (value : Bool) (hg : flagOwned s g = false) (hne : g ≠ f) :
    pick (s.setFlag f value).flags g = pick s.flags g := by
  unfold State.setFlag
  split
  · rfl
  · exact (handOn_flag (s := { s with flags := alter s.flags f fun _ => value }) _ hg).trans (pick_alter_ne _ _ hne)

theorem setFlag_outputs {s : State} {f : Nat} (value : Bool) (ho : flagOwned s f = false) (hd : definitionsAgree s)
    (h : outputsFollow s) : outputsFollow (s.setFlag f value) := by
  unfold State.setFlag
  split
  · exact h
  · exact handOn_outputsFollow _ hd (outputsFollow_flagSet value ho h)

theorem readMark_of {value : Bool} {k : Nat} (h : k = if value then 1 else 0) : readMark k = some value := by
  subst h; cases value <;> rfl

/-- Settles O25. -/
theorem setFlagTaken : Obligations.SetFlagTaken := by
  unfold Obligations.SetFlagTaken
  intro tag body s value h hlen h1 h2 hv
  have taken : setFlagNow body (s.holding 56#8 tag body) = inMode .run (fun s =>
      if flagOwned s (byteAt body 0) then refuse s .badValue
      else done (s.setFlag (byteAt body 0) value) (.flag (byteAt body 0) value)) (s.holding 56#8 tag body) := by
    refine (ofLength_fits hlen _ _).trans ?_
    rw [within_of_le h1 h2, readMark_of hv]
  refine ⟨fun hm => ?_, fun i e hm i1 i2 he ht => ?_, fun hm hno => ?_⟩
  · have away : (s.holding 56#8 tag body).mode ≠ .run := fun e => nomatch hm.symm.trans e
    exact serve_refused h (taken.trans (inMode_misfits away _))
  · have owned : flagOwned (s.holding 56#8 tag body) (byteAt body 0) = true :=
      flagOwned_iff.mpr ⟨i, e, i1, i2, he, ht⟩
    exact serve_refused h (taken.trans ((inMode_fits (s := s.holding 56#8 tag body) hm _).trans (if_pos owned)))
  · have free : ∀ f, (∀ i e, 1 ≤ i → i ≤ 48 → s.equationDef i = some e → e.target ≠ .flag f) → flagOwned s f = false :=
      fun f hf => by
        rw [Bool.eq_false_iff, Ne, flagOwned_iff]
        rintro ⟨i, e, i1, i2, he, ht⟩
        exact hf i e i1 i2 he ht
    have owned : ¬ flagOwned (s.holding 56#8 tag body) (byteAt body 0) = true := by
      rw [Bool.not_eq_true]; exact free _ hno
    have handled := taken.trans ((inMode_fits (s := s.holding 56#8 tag body) hm _).trans (if_neg owned))
    have whole := eq_of_butEquations (setFlag_butEquations (s.holding 56#8 tag body) (byteAt body 0) value)
    have set := setFlag_value (s := s.holding 56#8 tag body) value (free _ hno) h1 h2
    have others := fun f hne hf => setFlag_other (s := s.holding 56#8 tag body) (f := byteAt body 0) (g := f) value (free f hf) hne
    have outputs := setFlag_outputs (s := s.holding 56#8 tag body) value (free _ hno)
    have same : pick s.flags (byteAt body 0) = value →
        (s.holding 56#8 tag body).setFlag (byteAt body 0) value = s.holding 56#8 tag body := fun e => if_pos e
    generalize (s.holding 56#8 tag body).setFlag (byteAt body 0) value = u at handled whole set others outputs same
    refine ⟨{ s with equations := u.equations, flags := u.flags, relays := u.relays, tunes := u.tunes
                     host := s.host.answered 56#8 tag body Result.done (.flag (byteAt body 0) value) }, ?_, rfl, set,
      fun f _ _ hne hf => others f hne hf, fun hd hof => ?_, fun e => ?_⟩
    · refine serve_done (t := { s with equations := u.equations, flags := u.flags, relays := u.relays, tunes := u.tunes }) h
        (handled.trans ?_)
      rw [whole]
      rfl
    · have follow := outputs hd hof
      rw [whole] at follow
      exact follow
    · rw [same e]
      exact ⟨rfl, rfl, rfl, rfl⟩

/-! ## The expiry of delay timers (R112) -/

/-- R112: an equation that a pass without earlier changes leaves as it is does nothing in it. -/
theorem passOne_unchanged {b : Bool} {acc : State × List Change} {i : Nat} (h1 : 1 ≤ i) (h2 : i ≤ 48) (hc : acc.2 = [])
    (h : pick (passOne b acc i).1.equations i = pick acc.1.equations i) : passOne b acc i = acc := by
  cases hd : acc.1.equationDef i with
  | none => exact passOne_undefined hd
  | some d =>
    have turn := passOne_defined (b := b) hd h1 h2
    rw [hc] at turn
    rw [show ([] : List Change).any d.reads = false from rfl, if_neg Bool.false_ne_true] at turn
    rw [turn, afterExpiry_equation b acc d h1 h2] at h
    rw [turn]
    unfold afterExpiry
    rw [h]
    exact settledTo_same

/-- R112: so do equations that it leaves as they are. -/
theorem pass_unchanged (b : Bool) (is : List Nat) : ∀ (acc : State × List Change), (∀ i ∈ is, 1 ≤ i ∧ i ≤ 48) → is.Nodup →
    acc.2 = [] → (∀ i ∈ is, pick (is.foldl (passOne b) acc).1.equations i = pick acc.1.equations i) →
      is.foldl (passOne b) acc = acc := by
  induction is with
  | nil => exact fun _ _ _ _ _ => rfl
  | cons i is ih =>
    intro acc hin hn hc h
    obtain ⟨hi, hrest⟩ := List.nodup_cons.mp hn
    obtain ⟨h1, h2⟩ := hin i (List.mem_cons_self ..)
    have inr : ∀ j ∈ is, 1 ≤ j ∧ j ≤ 48 := fun j hj => hin j (List.mem_cons_of_mem _ hj)
    have later := (pass_passes b _ is inr (passOne b acc i) rfl).equations i hi
    have one := passOne_unchanged (b := b) h1 h2 hc (by rw [← later]; exact h i (List.mem_cons_self ..))
    rw [List.foldl_cons, one] at h ⊢
    exact ih acc inr hrest hc fun j hj => h j (List.mem_cons_of_mem _ hj)

/-- What a part of a pass leaves of its equations the rest of the pass leaves too. -/
theorem equationPass_before {b : Bool} {cs : List Change} {s : State} {i : Nat} {before after : List Nat}
    (hs : numbers 48 = before ++ i :: after) {k : Nat} (hk : k ∈ before) :
    pick (equationPass b cs s).equations k = pick (before.foldl (passOne b) (s, cs)).1.equations k := by
  have hn := numbers_nodup 48
  have hin : ∀ j ∈ i :: after, 1 ≤ j ∧ j ≤ 48 := fun j hj =>
    mem_numbers.mp (hs ▸ List.mem_append_right _ hj)
  rw [hs, List.nodup_append] at hn
  obtain ⟨-, -, disjoint⟩ := hn
  unfold equationPass
  rw [hs, List.foldl_append]
  generalize before.foldl (passOne b) (s, cs) = acc
  exact (pass_passes b _ (i :: after) hin acc rfl).equations k fun h => disjoint k hk k h rfl

/-- R112: where no lower equation changes, a pass without changes from outside hands none to an equation. -/
theorem told_nothing {b : Bool} {s : State} {i : Nat} {before after : List Nat} (hs : numbers 48 = before ++ i :: after)
    (h : ∀ k ∈ before, pick (equationPass b [] s).equations k = pick s.equations k) :
    (before.foldl (passOne b) (s, [])).2 = [] := by
  have hn := numbers_nodup 48
  have hin : ∀ j ∈ before, 1 ≤ j ∧ j ≤ 48 := fun j hj => mem_numbers.mp (hs ▸ List.mem_append_left _ hj)
  have unchanged := fun k hk => (equationPass_before (b := b) (cs := []) (s := s) hs hk).symm.trans (h k hk)
  rw [hs, List.nodup_append] at hn
  rw [pass_unchanged b before (s, []) hin hn.1 rfl unchanged]

@[simp] theorem takeRaw_takes (d : DelayKind) (e : EquationState) (v : Bool) : (takeRaw d e v).raw = v := by
  unfold takeRaw
  split
  · next h => exact h.symm
  · cases d with
    | none => rfl
    | onDelay t => cases v <;> rfl
    | offDelay t => cases v <;> rfl
    | pulse t => dsimp only; split <;> rfl

@[simp] theorem takeExpiry_raw (d : DelayKind) (e : EquationState) : (takeExpiry d e).raw = e.raw := by cases d <;> rfl

theorem expiredIn_true (d : EquationDef) (e : EquationState) :
    expiredIn true d e = if e.timer = some 0 then takeExpiry d.delay e else e := by
  unfold expiredIn; simp

/-- R112: what an equation may do in a pass that takes the expiries. -/
theorem turn_taken {s t : State} {i : Nat} {x : EquationDef} {changes : List Change} {e : EquationState}
    (h : TurnOf true [] s t i x changes)
    (he : e = if (pick s.equations i).timer = some 0 then takeExpiry x.delay (pick s.equations i) else pick s.equations i)
    (hq : (∀ k, 1 ≤ k → k < i → pick t.equations k = pick s.equations k) → changes = []) :
    pick t.equations i = takeRaw x.delay e (pick t.equations i).raw
      ∧ ((∀ k, 1 ≤ k → k < i → pick t.equations k = pick s.equations k) → pick t.equations i = e)
      ∧ (configCheck s.defs = none →
        ((pick t.equations i).raw = (pick s.equations i).raw ∨ (pick t.equations i).raw = rawValue t x.terms)
        ∧ ((∃ f, 1 ≤ f ∧ f ≤ 32 ∧ x.reads (.flag f) = true ∧ pick t.flags f ≠ pick s.flags f)
            ∨ (∃ r, 1 ≤ r ∧ r ≤ 8 ∧ x.reads (.relay r) = true ∧ pick t.relays r ≠ pick s.relays r) →
          (pick t.equations i).raw = rawValue t x.terms)) := by
  obtain ⟨v, hv, hraw⟩ := h.equation
  rw [expiredIn_true, ← he] at hv
  have kept : e.raw = (pick s.equations i).raw := by
    rw [he]; split
    · exact takeExpiry_raw ..
    · rfl
  by_cases hm : changes.any x.reads = true
  · rw [if_pos hm] at hv
    have raw : (pick t.equations i).raw = v := by rw [hv]; exact takeRaw_takes ..
    refine ⟨by rw [raw]; exact hv, fun hk => ?_, fun hc => ⟨.inr (raw.trans (hraw hc)), fun _ => raw.trans (hraw hc)⟩⟩
    rw [hq hk] at hm
    cases hm
  · rw [if_neg hm] at hv
    refine ⟨by rw [hv]; exact (takeRaw_raw ..).symm, fun _ => hv, fun hc => ⟨.inl (by rw [hv]; exact kept), fun hr => ?_⟩⟩
    have marks : ∀ c, x.reads c = true → c ∈ changes → False := fun c hr hc =>
      hm (List.any_eq_true.mpr ⟨c, hc, hr⟩)
    rcases hr with ⟨f, -, -, hr, hne⟩ | ⟨r, -, -, hr, hne⟩
    · exact (marks _ hr (h.flags hc f hr hne)).elim
    · exact (marks _ hr (h.relays hc r hr hne)).elim

theorem delayDue_iff {s : State} {i : Nat} :
    delayDue s i = true ↔ ∃ d, s.equationDef i = some d ∧ (pick s.equations i).timer = some 0 := by
  unfold delayDue
  rw [Bool.and_eq_true, Option.isSome_iff_exists, beq_iff_eq]
  exact exists_and_right.symm

/-- R112: an equation below the first expired one stays as it is. -/
theorem equationPass_below {s : State} {i : Nat}
    (hl : ∀ j, 1 ≤ j → j < i → s.equationDef j = none ∨ (pick s.equations j).timer ≠ some 0) :
    ∀ j, 1 ≤ j → j < i → j ≤ 48 → pick (equationPass true [] s).equations j = pick s.equations j := by
  intro j
  induction j using Nat.strong_induction_on with
  | _ j ih =>
    intro j1 ji j2
    cases hd : s.equationDef j with
    | none => exact equationPass_undefined _ _ _ j1 j2 hd
    | some x =>
      obtain ⟨before, after, hs, turn, hb⟩ := equationPass_turn true [] s j1 j2 hd
      have timer := (hl j j1 ji).resolve_left fun e => by rw [hd] at e; cases e
      obtain ⟨-, same, -⟩ := turn_taken turn (if_neg timer).symm fun _ =>
        told_nothing hs fun k hk => ih k (hb k hk).2 (hb k hk).1 (Nat.lt_trans (hb k hk).2 ji) (by have := (hb k hk).2; omega)
      exact same fun k k1 kj => ih k kj k1 (Nat.lt_trans kj ji) (by omega)

/-- Settles O37. -/
theorem equationDelayTaken : Obligations.EquationDelayTaken := by
  unfold Obligations.EquationDelayTaken
  intro s
  refine ⟨fun i d h1 h2 hd ht hl => ?_, fun hn => ?_, rawValue_single s, fun ts op x c v hb ho hne hc hv => ?_,
    fun a b => rawValue_else s, fun before op ts x after => rawValue_group s before op after⟩
  · have due : (numbers 48).any (delayDue s) = true :=
      List.any_eq_true.mpr ⟨i, mem_numbers.mpr ⟨h1, h2⟩, delayDue_iff.mpr ⟨d, hd, ht⟩⟩
    have taken : s.takeDelays = equationPass true [] s := if_pos due
    have below := fun j j1 ji => equationPass_below hl j j1 ji (by omega)
    refine ⟨_, congrArg Host.Outcome.next taken, eq_of_butEquations (equationPass_butEquations ..), below, ?_, fun _ hc hof => ?_,
      fun j j1 j2 => ⟨equationPass_undefined _ _ _ j1 j2, fun x e hx he => ?_⟩⟩
    · obtain ⟨before, after, hs, turn, hb⟩ := equationPass_turn true [] s h1 h2 hd
      obtain ⟨-, own, -⟩ := turn_taken turn (if_pos ht).symm fun hk =>
        told_nothing hs fun k hk' => hk k (hb k hk').1 (hb k hk').2
      rw [own below]
      cases d.delay <;> rfl
    · exact outputsFollow_iff.mpr (equationPass_computed hc (outputsFollow_iff.mp hof))
    · obtain ⟨before, after, hs, turn, hb⟩ := equationPass_turn true [] s j1 j2 hx
      obtain ⟨raw, same, judged⟩ := turn_taken turn he fun hk =>
        told_nothing hs fun k hk' => hk k (hb k hk').1 (hb k hk').2
      exact ⟨raw, same, fun _ hc => judged hc⟩
  · have idle : (numbers 48).any (delayDue s) = false := by
      rw [Bool.eq_false_iff, Ne, List.any_eq_true]
      rintro ⟨j, hj, hdue⟩
      obtain ⟨d, hd, ht⟩ := delayDue_iff.mp hdue
      rcases hn j (mem_numbers.mp hj).1 (mem_numbers.mp hj).2 with h | h
      · rw [hd] at h; cases h
      · exact h ht
    exact congrArg Host.Outcome.next (takeDelays_of_none idle)
  · rw [rawValue_snoc s op x hb ho hne, ← hc, ← hv]
    rfl

end Sys2Proof.Machine
end

section
/-! PROOFS. StartingRun: the starting steps of RUN, ENTER RUN and the reset (R71, R77, R118, R166, R189, R193). -/

namespace Sys2Proof.Machine

/-! ## What operands do not read (R103) -/

/-- The state without what no operand reads: the boards, but for their states, the timers and the host link. -/
def State.readPart (s : State) : State :=
  { s with boards := Vector.replicate 8 startBoard, fields := Vector.replicate 8 (Vector.replicate 12 startField)
           refreshTimer := none, startNote := .loaded, host := startHost }

theorem operandValue_readPart {s t : State} (h : t.readPart = s.readPart)
    (hb : ∀ b, (pick t.boards b).state = (pick s.boards b).state) (x : Operand) : operandValue t x = operandValue s x := by
  by_cases hx : ∃ b, x = .boardDark b
  · obtain ⟨b, rfl⟩ := hx
    have hd : t.defs = s.defs := (congrArg State.defs h :)
    unfold operandValue State.boardDepth
    dsimp only
    rw [hd, hb]
  · have part : ∀ y : State, operandValue y x = operandValue y.readPart x := by
      intro y
      cases x with
      | boardDark b => exact absurd ⟨b, rfl⟩ hx
      | sectionAspect n a => cases a <;> rfl
      | shift a => cases a <;> rfl
      | flag f => rfl
      | relay r => rfl
      | input k => rfl
      | zone n a => rfl
      | cls n a => rfl
      | stationOffline n => rfl
      | blinkSlow => rfl
      | blinkFast => rfl
      | tableFull => rfl
    rw [part t, part s, h]

theorem rawValue_readPart {s t : State} (h : t.readPart = s.readPart)
    (hb : ∀ b, (pick t.boards b).state = (pick s.boards b).state) (ts : List Term) : rawValue t ts = rawValue s ts :=
  rawValue_congr fun _ x _ => operandValue_readPart h hb x

/-! ## The starting steps of RUN (R71, R77, R118, R166) -/

/-- R118: the full pass on the blocks at their starting values. -/
def State.fullPass (s : State) : State := s.startBlocks.handOn [.all]

/-- R166: the boards refreshed after it. -/
theorem startRun_eq (s : State) :
    s.startRun = { s.fullPass with refreshTimer := refreshLoad s.fullPass }.refreshBoards fun _ => true := rfl

theorem fullPass_eq (s : State) : s.fullPass = { s.startBlocks with
    equations := s.fullPass.equations, flags := s.fullPass.flags, relays := s.fullPass.relays, tunes := s.fullPass.tunes } :=
  eq_of_butEquations (handOn_butEquations ..)

theorem startRun_fields (s : State) : s.startRun = { s.startBlocks with
    equations := s.startRun.equations, flags := s.startRun.flags, relays := s.startRun.relays, tunes := s.startRun.tunes
    boards := s.startRun.boards, fields := s.startRun.fields, refreshTimer := refreshLoad s } := by
  have whole := eq_of_butBoards (refreshBoards_butBoards { s.fullPass with refreshTimer := refreshLoad s.fullPass } fun _ => true)
  have pass := fullPass_eq s
  rw [← startRun_eq] at whole
  have load : refreshLoad s.fullPass = refreshLoad s := by rw [pass]; rfl
  rw [load] at whole
  generalize s.startRun = u at whole ⊢
  generalize s.fullPass = v at whole pass
  have he : u.equations = v.equations := by rw [whole]
  have hf : u.flags = v.flags := by rw [whole]
  have hr : u.relays = v.relays := by rw [whole]
  have ht : u.tunes = v.tunes := by rw [whole]
  rw [he, hf, hr, ht]
  exact whole.trans (congrArg (fun y : State => { y with
    boards := u.boards, fields := u.fields, refreshTimer := refreshLoad s }) pass)

theorem startRun_unit (s : State) : sameUnit s.fullPass s.startRun := by
  have whole := refreshBoards_butBoards { s.fullPass with refreshTimer := refreshLoad s.fullPass } fun _ => true
  rw [← startRun_eq] at whole
  generalize s.startRun = u at whole ⊢
  generalize s.fullPass = v at whole ⊢
  exact ⟨(congrArg State.equations whole :), (congrArg State.flags whole :), (congrArg State.relays whole :),
    (congrArg State.tunes whole :)⟩

theorem startRun_readPart (s : State) : s.startRun.readPart = s.fullPass.readPart := by
  have whole := refreshBoards_butBoards { s.fullPass with refreshTimer := refreshLoad s.fullPass } fun _ => true
  rw [← startRun_eq] at whole
  generalize s.startRun = u at whole ⊢
  generalize s.fullPass = v at whole ⊢
  exact (congrArg State.readPart whole :)

theorem fullPass_defs (s : State) : s.fullPass.defs = s.defs := by rw [fullPass_eq]; rfl

theorem fullPass_boards (s : State) : s.fullPass.boards = Vector.replicate 8 startBoard := by rw [fullPass_eq]; rfl

theorem fullPass_fields (s : State) : s.fullPass.fields = s.fields := by rw [fullPass_eq]; rfl

theorem startRun_defs (s : State) : s.startRun.defs = s.defs := by rw [startRun_fields]; rfl

/-- R166: the boards with the starting steps taken. -/
theorem startRun_board (s : State) {b : Nat} (h1 : 1 ≤ b) (h2 : b ≤ 8) : pick s.startRun.boards b =
    if (s.boardDepth b).isSome = true then { startBoard with queue := [clearFrame], clearing := true } else startBoard := by
  have refreshed := refreshBoards_board { s.fullPass with refreshTimer := refreshLoad s.fullPass } (fun _ => true) h1 h2
  rw [← startRun_eq] at refreshed
  rw [refreshed]
  have defs := fullPass_defs s
  have boards := fullPass_boards s
  generalize s.fullPass = v at defs boards ⊢
  have depth : v.boardDepth b = s.boardDepth b := by unfold State.boardDepth; rw [defs]
  show (if (v.boardDepth b).isSome = true ∧ true = true then ({ pick v.boards b with
    queue := [clearFrame], clearing := true, owed := false } : Board) else pick v.boards b) = _
  rw [boards, depth, pick_replicate _ h1 h2]
  simp only [and_true]
  rfl

/-- R166: … and their fields. -/
theorem startRun_field (s : State) {b f : Nat} (h1 : 1 ≤ b) (h2 : b ≤ 8) (f1 : 1 ≤ f) (f2 : f ≤ 12) :
    pick (pick s.startRun.fields b) f = { pick (pick s.fields b) f with
      marked := (pick (pick s.fields b) f).marked || ((s.boardDepth b).isSome && (s.fieldDef b f).isSome) } := by
  have refreshed := refreshBoards_field { s.fullPass with refreshTimer := refreshLoad s.fullPass } (fun _ => true) h1 h2 f1 f2
  rw [← startRun_eq] at refreshed
  rw [refreshed]
  have defs := fullPass_defs s
  have fields := fullPass_fields s
  generalize s.fullPass = v at defs fields ⊢
  have depth : v.boardDepth b = s.boardDepth b := by unfold State.boardDepth; rw [defs]
  have field : v.fieldDef b f = s.fieldDef b f := by unfold State.fieldDef; rw [defs]
  show (if ((v.boardDepth b).isSome = true ∧ true = true) ∧ (v.fieldDef b f).isSome = true then
    ({ pick (pick v.fields b) f with marked := true } : FieldState) else pick (pick v.fields b) f) = _
  rw [fields, depth, field]
  cases (s.boardDepth b).isSome <;> cases (s.fieldDef b f).isSome <;> simp

theorem startRun_boardState (s : State) (b : Nat) : (pick s.startRun.boards b).state = (pick s.fullPass.boards b).state := by
  by_cases h : 1 ≤ b ∧ b ≤ 8
  · rw [startRun_board s h.1 h.2, fullPass_boards, pick_replicate _ h.1 h.2]
    split <;> rfl
  · rw [pick_outside _ (by omega), pick_outside _ (by omega)]

/-- R118: the full pass takes every equation's raw value. -/
theorem startRun_equation {s : State} {i : Nat} {e : EquationDef} (hc : configCheck s.defs = none) (h1 : 1 ≤ i) (h2 : i ≤ 48)
    (he : s.equationDef i = some e) :
    pick s.startRun.equations i = takeRaw e.delay (pick s.equations i) (rawValue s.startRun e.terms) := by
  obtain ⟨before, after, -, turn, -⟩ := equationPass_turn false [.all] s.startBlocks h1 h2 he
  have pass : equationPass false [.all] s.startBlocks = s.fullPass := (handOn_run (s := s.startBlocks) rfl _).symm
  rw [pass] at turn
  obtain ⟨v, hv, hraw⟩ := turn.equation
  obtain ⟨more, hm⟩ := turn.told
  have reads : (before.foldl (passOne false) (s.startBlocks, [.all])).2.any e.reads = true := by
    rw [hm]
    exact List.any_eq_true.mpr ⟨.all, List.mem_append_left _ (List.mem_singleton_self _), rfl⟩
  rw [rawValue_readPart (startRun_readPart s) (startRun_boardState s), (startRun_unit s).1, hv, if_pos reads, ← hraw hc]
  rfl

theorem startRun_undefined {s : State} {i : Nat} (h1 : 1 ≤ i) (h2 : i ≤ 48) (he : s.equationDef i = none) :
    pick s.startRun.equations i = pick s.equations i := by
  rw [(startRun_unit s).1]
  unfold State.fullPass
  rw [handOn_run (s := s.startBlocks) rfl]
  exact equationPass_undefined false [.all] s.startBlocks h1 h2 he

/-- R113–R116: and the outputs follow. -/
theorem startRun_outputs {s : State} (hc : configCheck s.defs = none) (h : outputsFollow s) : outputsFollow s.startRun := by
  have blocks : outputsFollow s.startBlocks := outputsFollow_congr (s := s) rfl ⟨rfl, rfl, rfl, rfl⟩ h
  have passed : outputsFollow s.fullPass := handOn_outputsFollow _ (fun _ => hc) blocks
  refine outputsFollow_congr ?_ (startRun_unit s) passed
  rw [startRun_defs, fullPass_defs]

theorem startRun_host (s : State) : s.startRun.host = s.host := by rw [startRun_fields]; rfl

/-! ## ENTER RUN (R77, R189) -/

/-- Settles O13. -/
theorem enterRunTaken : Obligations.EnterRunTaken := by
  unfold Obligations.EnterRunTaken
  intro tag s h hm
  have taken : ∀ c, configCheck s.defs = c → enterRunNow [] (s.holding 18#8 tag []) = match c with
      | none => done (s.holding 18#8 tag []).startRun .empty
      | some (reason, index) => ⟨s.holding 18#8 tag [], some (.badConfig, .badConfig reason index)⟩ := by
    rintro c rfl
    exact (ofLength_fits rfl _ _).trans (inMode_fits (s := s.holding 18#8 tag []) hm _)
  refine ⟨fun hc => ?_, fun r k hc => serve_done (t := s) h (taken _ hc)⟩
  have handled := taken _ hc
  have fields := startRun_fields (s.holding 18#8 tag [])
  have host := startRun_host (s.holding 18#8 tag [])
  have board := fun b h1 h2 => startRun_board (s.holding 18#8 tag []) (b := b) h1 h2
  have field := fun b f h1 h2 f1 f2 => startRun_field (s.holding 18#8 tag []) (b := b) (f := f) h1 h2 f1 f2
  have equation := fun i e h1 h2 he => startRun_equation (s := s.holding 18#8 tag []) (i := i) (e := e) hc h1 h2 he
  have outputs := fun hof => startRun_outputs (s := s.holding 18#8 tag []) hc (outputsFollow_congr (s := s) rfl ⟨rfl, rfl, rfl, rfl⟩ hof)
  generalize (s.holding 18#8 tag []).startRun = u at handled fields host board field equation outputs
  obtain ⟨t, hx, ht, ha, -⟩ := serve_answered h handled (by rw [host]; exact .refl _)
  have part : t.readPart = u.readPart := by rw [ht]; rfl
  have stops : t.stops = alterAll s.stops fun _ x => { startStop with unattributed := x.unattributed } := by
    rw [ht, fields]; rfl
  have stations : t.stations = alterAll s.stations fun n x => if (s.stationDef n).isSome then startStation else x := by
    rw [ht, fields]; rfl
  have e1 : t.equations = u.equations := by rw [ht]
  have e2 : t.flags = u.flags := by rw [ht]
  have e3 : t.relays = u.relays := by rw [ht]
  have e4 : t.tunes = u.tunes := by rw [ht]
  have e5 : t.boards = u.boards := by rw [ht]
  have e6 : t.fields = u.fields := by rw [ht]
  refine ⟨t, hx, ha, ?_, fun n h1 h2 => ?_, fun n h1 h2 hd => ?_, fun b h1 h2 hd => ?_, fun b f h1 h2 f1 f2 => ?_,
    fun i e h1 h2 he => ?_, fun hof => ?_⟩
  · rw [e1, e2, e3, e4, e5, e6, stops, stations]
    refine ht.trans ?_
    generalize t.host = k
    rw [fields]
    rfl
  · rw [stops, pick_alterAll _ _ h1 h2]
  · rw [stations, pick_alterAll _ _ h1 h2, if_pos hd]
  · rw [e5, board b h1 h2]; exact if_pos hd
  · rw [e6]; exact field b f h1 h2 f1 f2
  · rw [e1, rawValue_readPart part fun b => by rw [e5]]
    exact equation i e h1 h2 he
  · exact outputsFollow_congr (s := u) (by rw [ht]) ⟨e1, e2, e3, e4⟩ (outputs hof)

/-! ## Reset (R193) -/

theorem baudOf_eq (a b : Bool) :
    baudOf (a, b) = if a then (if b then 115200 else 57600) else (if b then 38400 else 19200) := by
  cases a <;> cases b <;> rfl

theorem alterAll_replicate {α : Type} [Inhabited α] {n : Nat} {x : α} {f : Nat → α → α} (h : ∀ i, f i x = x) :
    alterAll (Vector.replicate n x) f = Vector.replicate n x := by
  refine bank_ext fun i h1 h2 => ?_
  rw [pick_alterAll _ _ h1 h2, pick_replicate _ h1 h2, h]

/-- R193: the blocks at their starting values stay so as RUN begins. -/
theorem startBlocks_cleared (s : State) (straps : Bool × Bool) (d : Definitions) :
    ({ s.cleared straps with defs := d } : State).startBlocks = { s.cleared straps with defs := d, mode := .run } := by
  have stops : alterAll (Vector.replicate 4 startStop) (fun _ x => { startStop with unattributed := x.unattributed }) =
      Vector.replicate 4 startStop := alterAll_replicate fun _ => rfl
  have stations : alterAll (Vector.replicate 96 startStation)
      (fun n x => if (({ s.cleared straps with defs := d } : State).stationDef n).isSome then startStation else x) =
      Vector.replicate 96 startStation := alterAll_replicate fun _ => ite_self _
  unfold State.startBlocks
  rw [show ({ s.cleared straps with defs := d } : State).stops = Vector.replicate 4 startStop from rfl, stops,
    show ({ s.cleared straps with defs := d } : State).stations = Vector.replicate 96 startStation from rfl, stations]
  rfl

/-- R193: the state a reset begins with, its levels and its store kept. -/
theorem cleared_eq (s : State) (a b : Bool) : s.cleared (a, b) = { State.reset with
    store := s.store, straps := (a, b), freeCount := s.freeCount, pending := s.pending
    inputs := alterAll s.inputs (fun _ x => ⟨x.raw, x.raw, false⟩)
    host := { startHost with
      baud := if a then (if b then 115200 else 57600) else (if b then 38400 else 19200) } } := by
  rw [← baudOf_eq]; rfl

theorem resetNow_empty {s : State} (straps : Bool × Bool) (h : s.store = none) : s.resetNow straps = s.cleared straps := by
  unfold State.resetNow; rw [h]

theorem resetNow_rejected {s : State} (straps : Bool × Bool) {d : Definitions} {r : ConfigReason} {k : Nat}
    (h : s.store = some d) (hc : configCheck d = some (r, k)) :
    s.resetNow straps = { s.cleared straps with defs := d, startNote := .rejected r k } := by
  unfold State.resetNow; rw [h]; dsimp only; rw [hc]

theorem resetNow_loaded {s : State} (straps : Bool × Bool) {d : Definitions} (h : s.store = some d)
    (hc : configCheck d = none) :
    s.resetNow straps = { ({ s.cleared straps with defs := d } : State).startRun with startNote := .loaded } := by
  unfold State.resetNow; rw [h]; dsimp only; rw [hc]

theorem exec_reset (a b : Bool) (s : State) : exec (.reset a b) s = .next (s.resetNow (a, b)) := rfl

/-- Settles O11. -/
theorem resetTaken : Obligations.ResetTaken := by
  unfold Obligations.ResetTaken
  intro s base a b hb
  rw [← cleared_eq] at hb
  subst hb
  refine ⟨fun hs => congrArg Host.Outcome.next (resetNow_empty _ hs),
    fun d r k hs hc => congrArg Host.Outcome.next (resetNow_rejected _ hs hc),
    fun d hs hc => ?_, fun tag h hab => ?_, fun tag body h hne => ?_⟩
  · have loaded := resetNow_loaded (a, b) hs hc
    generalize hx : ({ s.cleared (a, b) with defs := d } : State) = x at loaded
    have defs : x.defs = d := by rw [← hx]
    have check : configCheck x.defs = none := by rw [defs]; exact hc
    have idle : equationsIdle x := by rw [← hx]; exact ⟨rfl, rfl, rfl, rfl⟩
    have fresh : x.fields = Vector.replicate 8 (Vector.replicate 12 startField) := by rw [← hx]; rfl
    have units : x.equations = Vector.replicate 48 startEquation := idle.1
    have runs := startRun_fields x
    have board := fun n h1 h2 => startRun_board x (b := n) h1 h2
    have field := fun n f h1 h2 f1 f2 => startRun_field x (b := n) (f := f) h1 h2 f1 f2
    have equation := fun i e h1 h2 he => startRun_equation (s := x) (i := i) (e := e) check h1 h2 he
    have undefined := fun i h1 h2 he => startRun_undefined (s := x) (i := i) h1 h2 he
    have outputs := startRun_outputs check (outputsFollow_of_idle idle)
    have hd := startRun_defs x
    generalize x.startRun = u at loaded runs board field equation undefined outputs hd
    have depth : ∀ n, ({ u with startNote := .loaded } : State).boardDepth n = x.boardDepth n := fun n => by
      unfold State.boardDepth; dsimp only; rw [hd]
    have defined : ∀ n f, ({ u with startNote := .loaded } : State).fieldDef n f = x.fieldDef n f := fun n f => by
      unfold State.fieldDef; dsimp only; rw [hd]
    have unit : ∀ i, ({ u with startNote := .loaded } : State).equationDef i = x.equationDef i := fun i => by
      unfold State.equationDef; dsimp only; rw [hd]
    refine ⟨_, (exec_reset a b s).trans (congrArg Host.Outcome.next loaded), ?_, fun n h1 h2 => ?_, fun n f h1 h2 f1 f2 => ?_, fun i h1 h2 => ⟨fun e he => ?_, fun he => ?_⟩,
      outputsFollow_congr (s := u) rfl ⟨rfl, rfl, rfl, rfl⟩ outputs⟩
    · have load : refreshLoad ({ u with startNote := .loaded } : State) = refreshLoad x := by
        unfold refreshLoad; dsimp only; rw [hd]
      rw [load]
      generalize refreshLoad x = k at runs
      refine (congrArg (fun y : State => { y with startNote := .loaded }) runs).trans ?_
      rw [← hx, startBlocks_cleared]
    · rw [depth]; exact board n h1 h2
    · rw [depth, defined]
      refine (field n f h1 h2 f1 f2).trans ?_
      rw [fresh, pick_replicate _ h1 h2, pick_replicate _ f1 f2]
      exact congrArg _ (Bool.false_or _)
    · rw [rawValue_readPart (t := { u with startNote := .loaded }) (s := u) rfl fun _ => rfl]
      refine (equation i e h1 h2 ((unit i).symm.trans he)).trans ?_
      rw [units, pick_replicate _ h1 h2]
    · refine (undefined i h1 h2 ((unit i).symm.trans he)).trans ?_
      rw [units, pick_replicate _ h1 h2]
  · refine ⟨(s.holding 21#8 tag []).resetReadingPins, ?_, ?_⟩
    · refine (serve_of_turn h).trans (congrArg _ ?_)
      exact (serveNow_eq ..).trans rfl
    · rw [exec_reset, hab]; rfl
  · have misfits : body.length ≠ 0 := fun hl => hne (List.length_eq_zero_iff.mp hl)
    exact serve_badFormat h misfits

end Sys2Proof.Machine
end

section
/-! PROOFS. TextAndFlush: what enters a board queue, SET TEXT and FLUSH BOARD (R164, R165, R169, R178, R180). -/

namespace Sys2Proof.Machine

/-! ## Into the board queue (R164, R165, R178) -/

/-- R164: in a queue with one frame of a field, that frame alone takes the content. -/
theorem map_supersede_split {before after : List BoardFrame} {x : BoardFrame} {f : Nat} (c : Content)
    (h : ((before ++ x :: after).map (·.field)).Nodup) (hx : x.field = f) :
    (before ++ x :: after).map (fun y => if y.field = f then supersede y c else y) = before ++ supersede x c :: after := by
  rw [List.map_append, List.map_cons, List.nodup_append] at h
  obtain ⟨-, ha, hd⟩ := h
  have kept : ∀ ys : List BoardFrame, (∀ y ∈ ys, y.field ≠ f) →
      ys.map (fun y => if y.field = f then supersede y c else y) = ys := fun ys hys =>
    (List.map_congr_left fun y hy => if_neg (hys y hy)).trans (List.map_id' ys)
  rw [List.map_append, List.map_cons, if_pos hx,
    kept before fun y hy e => hd _ (List.mem_map_of_mem hy) _ (List.mem_cons_self ..) (e.trans hx.symm),
    kept after fun y hy e => (List.nodup_cons.mp ha).1 (List.mem_map.mpr ⟨y, hy, e.trans hx.symm⟩)]

/-- R165: a frame is dropped at a full queue without a frame of the field. -/
def dropsOne (depth f : Nat) (q : List BoardFrame) : Bool :=
  !(q.any fun x => x.field == f) && decide (depth ≤ q.length)

theorem enqueue_enters {depth : Nat} {fr : BoardFrame} {c : Content} {x : Board} (hc : fr.content = some c)
    (hs : queueSound x.queue) (hd : 1 ≤ depth ∨ fr.priority ≤ 3) :
    entersQueue depth fr x.queue (enqueue depth fr c x).queue (dropsOne depth fr.field x.queue)
      ∧ (enqueue depth fr c x).owed = (x.owed || dropsOne depth fr.field x.queue) := by
  obtain ⟨hn, hp⟩ := hs
  unfold enqueue dropsOne
  by_cases hany : (x.queue.any fun q => q.field == fr.field) = true
  · rw [if_pos hany, hany]
    refine ⟨⟨fun before y after hq hy => ⟨rfl, ?_⟩, fun none => ?_⟩, (Bool.or_false _).symm⟩
    · dsimp only
      rw [hq] at hn ⊢
      rw [map_supersede_split c hn hy, hc]
      rfl
    · obtain ⟨y, hy, e⟩ := List.any_eq_true.mp hany
      exact absurd (beq_iff_eq.mp e) (none y hy)
  · rw [if_neg hany, Bool.not_eq_true] at *
    have absent : ∀ before y after, x.queue = before ++ y :: after → y.field ≠ fr.field := fun before y after hq e => by
      have := List.any_eq_false.mp hany y (by rw [hq]; simp)
      exact this (beq_iff_eq.mpr e)
    rw [hany]
    by_cases room : x.queue.length < depth
    · rw [if_pos room, decide_eq_false (by omega)]
      exact ⟨⟨fun before y after hq e => absurd e (absent _ _ _ hq), fun _ => ⟨fun _ => ⟨rfl, rfl⟩, fun h => by omega⟩⟩,
        (Bool.or_false _).symm⟩
    · rw [if_neg room, decide_eq_true (by omega)]
      by_cases low : lowestPriority x.queue < fr.priority
      · rw [if_pos low]
        refine ⟨⟨fun before y after hq e => absurd e (absent _ _ _ hq),
          fun _ => ⟨fun h => absurd h room, fun _ => ⟨rfl, fun all => ?_, fun before y after hl _ => ?_⟩⟩⟩,
          (Bool.or_true _).symm⟩
        · have hne : x.queue ≠ [] := fun e => by
            rw [e] at low room
            have low : 3 < fr.priority := low
            exact hd.elim room fun h => by omega
          obtain ⟨y, hy, e⟩ := lowestPriority_attained hne hp
          have := all y hy
          omega
        · dsimp only
          rw [dropNewest_of_newestLowest hl hp]
      · rw [if_neg low]
        refine ⟨⟨fun before y after hq e => absurd e (absent _ _ _ hq),
          fun _ => ⟨fun h => absurd h room, fun _ => ⟨rfl, fun _ => rfl, fun before y after hl hlt => ?_⟩⟩⟩,
          (Bool.or_true _).symm⟩
        have := lowestPriority_of_newestLowest hl hp
        omega

/-! ## The content of one field recomposed (R164, R178) -/

theorem modField_fixed {s : State} {b f : Nat} {g : FieldState → FieldState}
    (h : g (pick (pick s.fields b) f) = pick (pick s.fields b) f) : s.modField b f g = s := by
  show ({ s with fields := alter s.fields b fun row => alter row f g } : State) = s
  rw [alter_fixed _ (alter_fixed _ h)]

theorem modField_modField (s : State) (b f : Nat) (g k : FieldState → FieldState) :
    (s.modField b f g).modField b f k = s.modField b f fun x => k (g x) := by
  show ({ s with fields := alter (alter s.fields b fun row => alter row f g) b fun row => alter row f k } : State) = _
  rw [alter_alter]
  exact congrArg (fun v => { s with fields := alter s.fields b v }) (funext fun row => alter_alter ..)

theorem recomposeField_eq {s : State} {b f depth : Nat} {d : FieldDef} (hb : s.boardDepth b = some depth)
    (hf : s.fieldDef b f = some d) :
    recomposeField s b f = { s with
      fields := (s.modField b f fun x => { x with last := some (contentOf s b f d) }).fields
      boards := if (pick (pick s.fields b) f).last = some (contentOf s b f d) ∨ (pick (pick s.fields b) f).marked = true
        then s.boards
        else alter s.boards b (enqueue depth (fieldFrame f d (contentOf s b f d)) (contentOf s b f d)) } := by
  unfold recomposeField
  rw [hb, hf]
  dsimp only
  generalize contentOf s b f d = c
  by_cases same : (pick (pick s.fields b) f).last = some c
  · rw [if_pos same, if_pos (.inl same), modField_fixed]
    rw [← same]
  · rw [if_neg same]
    by_cases marked : (pick (pick s.fields b) f).marked = true
    · rw [if_pos marked, if_pos (.inr marked)]; rfl
    · rw [if_neg marked, if_neg (fun h => h.elim same marked)]; rfl

/-! ## SET TEXT (R169, R180) -/

/-- R169: what SET TEXT does to a TEXT field. -/
def textContent (d : FieldDef) (t : Text) : Content := ⟨leftAlign d.width t, d.colour, .steady⟩

theorem setText_eq {s : State} {b f depth : Nat} {d : FieldDef} (t : Text) (b1 : 1 ≤ b) (b2 : b ≤ 8) (f1 : 1 ≤ f)
    (f2 : f ≤ 12) (hb : s.boardDepth b = some depth) (hf : s.fieldDef b f = some d) (hk : d.kind = .text) :
    s.setText b f t = { s with
      fields := (s.modField b f fun x => { x with text := t, last := some (textContent d t) }).fields
      boards := if (pick (pick s.fields b) f).last = some (textContent d t) ∨ (pick (pick s.fields b) f).marked = true
        then s.boards
        else alter s.boards b (enqueue depth (fieldFrame f d (textContent d t)) (textContent d t)) } := by
  have content : contentOf (s.modField b f fun x => { x with text := t }) b f d = textContent d t := by
    unfold contentOf textContent
    rw [hk]
    dsimp only
    rw [pick_modField, if_pos ⟨rfl, rfl, b1, b2, f1, f2⟩]
  have here : pick (pick (s.modField b f fun x => { x with text := t }).fields b) f =
      { pick (pick s.fields b) f with text := t } := by
    rw [pick_modField, if_pos ⟨rfl, rfl, b1, b2, f1, f2⟩]
  refine (recomposeField_eq (s := s.modField b f fun x => { x with text := t }) hb hf).trans ?_
  rw [content, here, modField_modField]
  rfl

/-- R180: the characters SET TEXT keeps. -/
def keptText (body : List Byte) : Text :=
  ((body.drop 3).take 32).map (fun x => if 32 ≤ x.toNat ∧ x.toNat ≤ 126 then x else 0x3F#8)

theorem textAt_kept {body : List Byte} (hl : body.length = 3 + byteAt body 2) :
    textAt body 3 (min 32 (byteAt body 2)) = keptText body := by
  have whole : (body.drop 3).take (min 32 (byteAt body 2)) = (body.drop 3).take 32 := by
    rw [List.take_eq_take_iff, List.length_drop]; omega
  unfold textAt clean keptText
  rw [whole]
  refine List.map_congr_left fun x _ => ?_
  unfold cleanByte
  simp only [within_iff]

theorem keptText_length {body : List Byte} (hl : body.length = 3 + byteAt body 2) :
    (keptText body).length = min 32 (byteAt body 2) := by
  unfold keptText
  rw [List.length_map, List.length_take, List.length_drop]
  omega

theorem setTextNow_known {body : List Byte} {s : State} {d : FieldDef} (hm : s.mode = .run) (l3 : 3 ≤ body.length)
    (l232 : byteAt body 2 ≤ 232) (hl : body.length = 3 + byteAt body 2) (b1 : 1 ≤ byteAt body 0) (b2 : byteAt body 0 ≤ 8)
    (f1 : 1 ≤ byteAt body 1) (f2 : byteAt body 1 ≤ 12) (hf : s.fieldDef (byteAt body 0) (byteAt body 1) = some d)
    (hk : d.kind = .text) : setTextNow body s = doneOr (decide (32 < byteAt body 2))
      (s.setText (byteAt body 0) (byteAt body 1) (keptText body))
      (.text (byteAt body 0) (byteAt body 1) (min 32 (byteAt body 2))) := by
  unfold setTextNow
  rw [if_pos (textFits_iff.mpr ⟨l3, hl, l232⟩)]
  dsimp only
  rw [within_of_le b1 b2, within_of_le f1 f2, if_pos (Bool.and_self true), inMode_fits hm]
  rw [hf]
  dsimp only
  rw [hk, textAt_kept hl, keptText_length hl]
  rfl

theorem leftAlign_eq (w : Nat) (t : Text) : leftAlign w t = (t ++ List.replicate w 0x20#8).take w := by
  unfold leftAlign spaces
  rw [List.take_append, List.take_replicate]
  congr 2
  omega

/-- R180. -/
theorem flushBoard_eq (s : State) (b : Nat) : s.flushBoard b = { s with
    boards := alter s.boards b fun x =>
      { x with queue := [clearFrame], clearing := true, owed := false, lastOutcome := some .flushed }
    fields := alter s.fields b fun row => alterAll row fun f x =>
      if (s.fieldDef b f).isSome then { x with marked := true } else x } := by
  unfold State.flushBoard State.refreshBoard
  dsimp only [State.modBoard]
  rw [alter_alter]
  rfl

theorem flushBoardNow_known {body : List Byte} {s : State} (hm : s.mode = .run) (hl : body.length = 1)
    (b1 : 1 ≤ byteAt body 0) (b2 : byteAt body 0 ≤ 8) (hd : (s.boardDepth (byteAt body 0)).isSome = true) :
    flushBoardNow body s = done (s.flushBoard (byteAt body 0)) (.flushed (byteAt body 0)
      (pick s.boards (byteAt body 0)).state (pick s.boards (byteAt body 0)).queue.length) := by
  unfold flushBoardNow
  rw [ofLength_fits hl]
  dsimp only
  rw [if_pos (within_of_le b1 b2), inMode_fits hm]
  rw [if_pos hd]

/-- Settles O26. -/
theorem setTextAndFlushTaken : Obligations.SetTextAndFlushTaken := by
  unfold Obligations.SetTextAndFlushTaken
  refine ⟨fun depth fr c x hc hs hd => ?_, fun tag body s hm b1 b2 hdef => ?_⟩
  · obtain ⟨enters, owed⟩ := enqueue_enters (fr := fr) hc hs (.inl hd)
    exact ⟨_, enters, (enqueue_shown ..).trans (by rw [owed])⟩
  have taken : ∀ d depth, atTurn 57#8 tag body s → 3 ≤ body.length → byteAt body 2 ≤ 232 →
      body.length = 3 + byteAt body 2 → 1 ≤ byteAt body 1 → byteAt body 1 ≤ 12 →
      s.fieldDef (byteAt body 0) (byteAt body 1) = some d → d.kind = .text → s.boardDepth (byteAt body 0) = some depth →
      exec (.setText tag body) s = .next { s.setText (byteAt body 0) (byteAt body 1) (keptText body) with
        host := s.host.answered 57#8 tag body (if 32 < byteAt body 2 then .adjusted else .done)
          (.text (byteAt body 0) (byteAt body 1) (min 32 (byteAt body 2))) } := by
    intro d depth h l3 l232 hl f1 f2 hf hk hdepth
    refine serve_done (t := s.setText (byteAt body 0) (byteAt body 1) (keptText body)) h ((setTextNow_known (s := s.holding 57#8 tag body) hm l3 l232 hl b1 b2 f1 f2 hf hk).trans ?_)
    rw [setText_eq (s := s.holding 57#8 tag body) _ b1 b2 f1 f2 hdepth hf hk, setText_eq (s := s) _ b1 b2 f1 f2 hdepth hf hk]
    unfold doneOr
    simp only [decide_eq_true_eq]
    rfl
  refine ⟨fun d h l3 l232 hl f1 f2 hf hk => ?_, fun d depth c h l3 l232 hl f1 f2 hf hk hdepth hc => ?_, fun h hl => ?_⟩
  · obtain ⟨depth, hdepth⟩ := Option.isSome_iff_exists.mp hdef
    have run := taken d depth h l3 l232 hl f1 f2 hf hk hdepth
    rw [setText_eq (s := s) _ b1 b2 f1 f2 hdepth hf hk] at run
    have here := (pick_modField s (byteAt body 0) (byteAt body 1) (byteAt body 0) (byteAt body 1) fun x =>
      { x with text := keptText body, last := some (textContent d (keptText body)) }).trans
      (if_pos ⟨rfl, rfl, b1, b2, f1, f2⟩)
    refine ⟨_, run, rfl, congrArg FieldState.text here, (congrArg FieldState.marked here :), fun b f h1 h2 h3 h4 hne => ?_, fun b h1 h2 => ?_⟩
    · exact (pick_modField ..).trans (if_neg fun e => hne (Prod.ext e.1 e.2.1))
    · dsimp only
      split
      · split <;> rfl
      · rw [pick_alter]
        by_cases hb : b = byteAt body 0
        · subst hb
          rw [if_pos ⟨rfl, h1, h2⟩, if_pos rfl]
          exact enqueue_shown ..
        · rw [if_neg fun e => hb e.1, if_neg hb]
  · have run := taken d depth h l3 l232 hl f1 f2 hf hk hdepth
    rw [setText_eq (s := s) _ b1 b2 f1 f2 hdepth hf hk] at run
    have content : textContent d (keptText body) = c := by
      rw [hc]
      unfold textContent
      rw [leftAlign_eq]
      rfl
    rw [content] at run
    refine ⟨_, run, ?_, fun hold => congrArg (pick · _) (if_pos hold), fun hne hmark hq => ?_⟩
    · exact congrArg FieldState.last ((pick_modField ..).trans (if_pos ⟨rfl, rfl, b1, b2, f1, f2⟩))
    · obtain ⟨enters, owed⟩ := enqueue_enters (depth := depth) (fr := fieldFrame (byteAt body 1) d c) (c := c) rfl hq (.inr (by
        show d.kind.priority ≤ 3
        rw [hk]; decide))
      have board : pick (if (pick (pick s.fields (byteAt body 0)) (byteAt body 1)).last = some c
          ∨ (pick (pick s.fields (byteAt body 0)) (byteAt body 1)).marked = true then s.boards
        else alter s.boards (byteAt body 0) (enqueue depth (fieldFrame (byteAt body 1) d c) c)) (byteAt body 0) =
          enqueue depth (fieldFrame (byteAt body 1) d c) c (pick s.boards (byteAt body 0)) := by
        rw [if_neg (fun e => e.elim hne (by rw [hmark]; exact Bool.false_ne_true)), pick_alter, if_pos ⟨rfl, b1, b2⟩]
      have frame : fieldFrame (byteAt body 1) d c = ⟨byteAt body 1, 1, some c, 0, false⟩ := by
        unfold fieldFrame; rw [hk]; rfl
      dsimp only
      rw [board, ← frame]
      exact ⟨_, enters, owed⟩
  · have run := serve_done (t := s.flushBoard (byteAt body 0)) h
      ((flushBoardNow_known (s := s.holding 62#8 tag body) hm hl b1 b2 hdef).trans (by
        rw [flushBoard_eq (s.holding 62#8 tag body), flushBoard_eq s]; rfl))
    rw [flushBoard_eq] at run
    exact run

end Sys2Proof.Machine
end

section
/-! PROOFS. Purge: the records of calls that are closed, and ENTER CONFIG (R22, R23, R143, R146, R188). -/

namespace Sys2Proof.Machine

/-! ## Records appended one after the other (R143, R146) -/

/-- The ranges of the history queue's own figures. -/
def historyBounded (s : State) : Prop := s.history.length ≤ 128 ∧ s.nextSeq < 65536 ∧ s.overflowCount ≤ 255

theorem recordsAppended_bounded {es : List HistoryEntry} {s t : State} (h : recordsAppended es s t) : historyBounded t := by
  obtain ⟨hh, hn, ho⟩ := h
  refine ⟨?_, hn ▸ Nat.mod_lt _ (by decide), ho ▸ Nat.min_le_left ..⟩
  rw [hh, List.length_drop, List.length_append, List.length_mapIdx]
  omega

theorem recordsAppended_nil {s : State} (h : historyBounded s) : recordsAppended [] s s := by
  obtain ⟨hh, hn, ho⟩ := h
  refine ⟨?_, (Nat.mod_eq_of_lt hn).symm, ?_⟩
  · rw [List.mapIdx_nil, List.append_nil, List.length_nil, Nat.add_zero, Nat.sub_eq_zero_of_le hh, List.drop_zero]
  · rw [List.length_nil]; omega

theorem recordsAppended_trans {es fs : List HistoryEntry} {s t u : State} (h : recordsAppended es s t)
    (k : recordsAppended fs t u) (hs : historyBounded s) : recordsAppended (es ++ fs) s u := by
  obtain ⟨hh, hn, ho⟩ := h
  obtain ⟨kh, kn, ko⟩ := k
  have hl : t.history.length = s.history.length + es.length - (s.history.length + es.length - 128) := by
    rw [hh, List.length_drop, List.length_append, List.length_mapIdx]
  obtain ⟨hs1, hs2, hs3⟩ := hs
  refine ⟨?_, ?_, ?_⟩
  · have seqs : fs.mapIdx (fun i e => (⟨(t.nextSeq + i) % 65536, e⟩ : HistoryRecord)) =
        fs.mapIdx fun i e => ⟨(s.nextSeq + (i + es.length)) % 65536, e⟩ := by
      refine List.mapIdx_eq_mapIdx_iff.mpr fun i hi => ?_
      rw [hn, Nat.mod_add_mod, Nat.add_assoc, Nat.add_comm es.length]
    have dropped : s.history.length + es.length - 128 +
        (s.history.length + es.length - (s.history.length + es.length - 128) + fs.length - 128) =
        s.history.length + (es ++ fs).length - 128 := by rw [List.length_append]; omega
    rw [kh, hl, seqs, hh, List.mapIdx_append, ← List.append_assoc,
      ← List.drop_append_of_le_length (by rw [List.length_append, List.length_mapIdx]; omega), List.drop_drop, dropped]
  · rw [kn, hn, Nat.mod_add_mod, List.length_append, Nat.add_assoc]
  · rw [ko, ho, hl, List.length_append]
    omega

theorem appendRecord_recorded {s : State} (e : HistoryEntry) (h : historyBounded s) : recordsAppended [e] s (s.appendRecord e) := by
  obtain ⟨hh, hn, ho⟩ := h
  obtain ⟨ah, an⟩ := appendRecord_history s e
  have ao := appendRecord_overflow s e
  have seq : [e].mapIdx (fun i e => (⟨(s.nextSeq + i) % 65536, e⟩ : HistoryRecord)) = [⟨s.nextSeq, e⟩] := by
    rw [List.mapIdx_cons, List.mapIdx_nil, Nat.add_zero, Nat.mod_eq_of_lt hn]
  refine ⟨?_, ?_, ?_⟩
  · rw [ah, seq, List.length_singleton]
    by_cases room : s.history.length < 128
    · rw [if_pos room, Nat.sub_eq_zero_of_le (by omega), List.drop_zero]
    · rw [if_neg room, show s.history.length + 1 - 128 = 1 by omega, List.drop_append_of_le_length (by omega)]
  · rw [an, wrap_65535, List.length_singleton]
    by_cases last : s.nextSeq < 65535
    · rw [if_pos last]; omega
    · rw [if_neg last]; omega
  · rw [ao, List.length_singleton]
    by_cases room : s.history.length < 128
    · rw [if_pos room]; omega
    · rw [if_neg room]; omega

/-- What the history queue's figures are. -/
theorem recordsAppended_congr {es : List HistoryEntry} {s s' t t' : State} (h : recordsAppended es s t)
    (hs : s'.history = s.history ∧ s'.nextSeq = s.nextSeq ∧ s'.overflowCount = s.overflowCount)
    (ht : t'.history = t.history ∧ t'.nextSeq = t.nextSeq ∧ t'.overflowCount = t.overflowCount) :
    recordsAppended es s' t' := by
  obtain ⟨s1, s2, s3⟩ := hs
  obtain ⟨t1, t2, t3⟩ := ht
  unfold recordsAppended
  rw [s1, s2, s3, t1, t2, t3]
  exact h

/-! ## Calls closed one after the other (R22) -/

/-- R22, R61: stop logic with the call left its hold order, in line or, as R71 gives up all holds, not. -/
def State.unheldBy (s : State) (inLine : Bool) (c : Call) : State :=
  if c.state = .holding then
    if inLine then (s.leaveHold c.sec c.number).causeLeft c.sec else s.leaveHold c.sec c.number
  else s

theorem closeCall_told (s : State) (o : Closing) (b : Bool) (c : Call) : s.closeCall o b c =
    if tableFull s then ((((s.unheldBy b c).struck o c).callsChanged c (tableFull s)).callNotice .close (some o) c).tableNotice
    else (((s.unheldBy b c).struck o c).callsChanged c (tableFull s)).callNotice .close (some o) c := by
  cases b <;> rfl

theorem unheldBy_butStops (s : State) (b : Bool) (c : Call) : (s.unheldBy b c).butStops = s.butStops := by
  unfold State.unheldBy
  split
  · split
    · exact (causeLeft_butStops ..).trans (leaveHold_butStops ..)
    · exact leaveHold_butStops ..
  · rfl

theorem closeCall_view (s : State) (o : Closing) (b : Bool) (c : Call) :
    (s.closeCall o b c).butChange = ((s.unheldBy b c).struck o c).butChange := by
  have told : ∀ u : State, (u.callNotice .close (some o) c).butChange = u.butChange := fun u => callNotice_butChange ..
  rw [closeCall_told]
  split
  · exact (notify_butChange ..).trans ((told _).trans (callsChanged_butChange ..))
  · exact (told _).trans (callsChanged_butChange ..)

theorem unheldBy_history (s : State) (b : Bool) (c : Call) : (s.unheldBy b c).history = s.history
    ∧ (s.unheldBy b c).nextSeq = s.nextSeq ∧ (s.unheldBy b c).overflowCount = s.overflowCount :=
  have view := unheldBy_butStops s b c
  ⟨(congrArg State.history view :), (congrArg State.nextSeq view :), (congrArg State.overflowCount view :)⟩

/-- R144: closing a call appends its record. -/
theorem closeCall_recorded {s : State} (o : Closing) (b : Bool) (c : Call) (h : historyBounded s) :
    recordsAppended [closingOf s o c] s (s.closeCall o b c) := by
  have same := unheldBy_history s b c
  have time : (s.unheldBy b c).timeOfDay = s.timeOfDay := (congrArg State.timeOfDay (unheldBy_butStops s b c) :)
  have view := closeCall_view s o b c
  have bounded : historyBounded (s.unheldBy b c) := by
    unfold historyBounded; rw [same.1, same.2.1, same.2.2]; exact h
  have appended := appendRecord_recorded (closedRecord (s.unheldBy b c) c o) bounded
  rw [closedRecord_congr time] at appended
  refine recordsAppended_congr appended ⟨same.1.symm, same.2.1.symm, same.2.2.symm⟩ ?_
  unfold State.struck at view
  rw [closedRecord_congr time] at view
  generalize s.closeCall o b c = u at view ⊢
  generalize (s.unheldBy b c).appendRecord (closedRecord s c o) = v at view ⊢
  exact ⟨(congrArg State.history view :), (congrArg State.nextSeq view :), (congrArg State.overflowCount view :)⟩

/-- The calls of a table by their numbers: R12 gives each its own. -/
theorem callOf_of_distinct {s : State} (h : (s.calls.map (·.number)).Nodup) {c : Call} (hc : c ∈ s.calls) :
    s.callOf c.number = some c := by
  unfold State.callOf
  cases hf : s.calls.find? fun x => x.number == c.number with
  | none => exact absurd (List.find?_eq_none.mp hf c hc) (by simp)
  | some d =>
    have e : d.number = c.number := by simpa using List.find?_some hf
    rw [List.inj_on_of_nodup_map h (List.mem_of_find?_eq_some hf) hc e]

/-- R22, R23: closing the calls one after the other appends their records in this order. -/
theorem closeNumbers_recorded (o : Closing) (b : Bool) (cs : List Call) {s : State} (hs : historyBounded s)
    (hn : (s.calls.map (·.number)).Nodup) (hc : ∀ c ∈ cs, c ∈ s.calls) (hd : (cs.map (·.number)).Nodup) :
    recordsAppended (cs.map (closingOf s o)) s ((cs.map (·.number)).foldl (fun s k => s.closeNumber o b k) s) := by
  induction cs generalizing s with
  | nil => exact recordsAppended_nil hs
  | cons c cs ih =>
    have mem := hc c (List.mem_cons_self ..)
    have closed : s.closeNumber o b c.number = s.closeCall o b c := by
      unfold State.closeNumber
      rw [callOf_of_distinct hn mem]
    have calls : (s.closeCall o b c).calls = s.calls.filter fun x => x.number != c.number := closeCall_calls ..
    have time : (s.closeCall o b c).timeOfDay = s.timeOfDay := (ByOps.closeCall s o b c).timeOfDay
    have first := closeCall_recorded o b c hs
    obtain ⟨hnew, hrest⟩ := List.nodup_cons.mp hd
    have rest := ih (s := s.closeCall o b c) (recordsAppended_bounded first)
      (by rw [calls]; exact hn.sublist (List.filter_sublist.map _))
      (fun d hd => by
        rw [calls, List.mem_filter]
        refine ⟨hc d (List.mem_cons_of_mem _ hd), bne_iff_ne.mpr fun e => hnew ?_⟩
        exact List.mem_map.mpr ⟨d, hd, e⟩) hrest
    have records : cs.map (closingOf (s.closeCall o b c) o) = cs.map (closingOf s o) :=
      List.map_congr_left fun d _ => closedRecord_congr time d o
    rw [List.map_cons, List.map_cons, List.foldl_cons, closed]
    rw [records] at rest
    generalize s.closeCall o b c = u at first rest ⊢
    have whole := recordsAppended_trans first rest hs
    rw [List.singleton_append] at whole
    exact whole

/-! ## Lamps alone (R26) -/

/-- Of the stations at most the lamps differ. -/
def lampsAlone (s t : State) : Prop :=
  ∀ n, 1 ≤ n → n ≤ 96 → pick t.stations n = { pick s.stations n with lamp := (pick t.stations n).lamp }

theorem lampsAlone_of_eq {s t : State} (h : t.stations = s.stations) : lampsAlone s t := fun n _ _ => by rw [h]

theorem lampsAlone_trans {s t u : State} (h : lampsAlone s t) (k : lampsAlone t u) : lampsAlone s u := fun n h1 h2 => by
  rw [k n h1 h2, h n h1 h2]

theorem callsChanged_lamps (s : State) (c : Call) (b : Bool) : lampsAlone s (s.callsChanged c b) := fun n h1 h2 => by
  rw [callsChanged_station _ _ _ h1 h2]
  split <;> rfl

theorem struck_stations (s : State) (o : Closing) (c : Call) : (s.struck o c).stations = s.stations := appendRecord_stations ..

theorem closeCall_lampsAlone (s : State) (o : Closing) (b : Bool) (c : Call) : lampsAlone s (s.closeCall o b c) := by
  have held : (s.unheldBy b c).stations = s.stations := (congrArg State.stations (unheldBy_butStops s b c) :)
  have changed : lampsAlone s (((s.unheldBy b c).struck o c).callsChanged c (tableFull s)) :=
    lampsAlone_trans (lampsAlone_of_eq ((struck_stations (s.unheldBy b c) o c).trans held)) (callsChanged_lamps _ c _)
  rw [closeCall_told]
  split
  · exact lampsAlone_trans changed (lampsAlone_of_eq (by simp))
  · exact lampsAlone_trans changed (lampsAlone_of_eq (by simp))

theorem closeNumber_lampsAlone (s : State) (o : Closing) (b : Bool) (k : Nat) : lampsAlone s (s.closeNumber o b k) := by
  unfold State.closeNumber
  split
  · exact closeCall_lampsAlone s o b _
  · exact lampsAlone_of_eq rfl

/-! ## The purge and the holds given up (R23, R71) -/

theorem purge_recorded {s : State} (hs : historyBounded s) (hn : (s.calls.map (·.number)).Nodup) :
    recordsAppended ((displayOrder s).map (closingOf s .purged)) s s.purge := by
  have order : (displayOrder s).Perm s.calls := List.perm_insertionSort ..
  have closed := closeNumbers_recorded .purged false (displayOrder s) hs hn (fun c hc => mem_displayOrder.mp hc)
    ((order.map _).nodup_iff.mpr hn)
  exact recordsAppended_congr closed ⟨rfl, rfl, rfl⟩ ⟨rfl, rfl, rfl⟩

theorem purge_lampsAlone (s : State) : lampsAlone s s.purge :=
  foldl_holds (lampsAlone s) _ (fun t k ht => lampsAlone_trans ht (closeNumber_lampsAlone t .purged false k)) _ _
    (lampsAlone_of_eq rfl)

theorem closeNumber_lastNumber (s : State) (o : Closing) (b : Bool) (k : Nat) :
    (s.closeNumber o b k).lastNumber = s.lastNumber := by
  unfold State.closeNumber
  split
  · next c _ =>
    have view := closeCall_view s o b c
    have struck := struck_butHistory (s.unheldBy b c) o c
    have held : (s.unheldBy b c).lastNumber = s.lastNumber := (congrArg State.lastNumber (unheldBy_butStops s b c) :)
    generalize (s.unheldBy b c).struck o c = v at view struck
    generalize s.closeCall o b c = u at view ⊢
    have e1 : u.lastNumber = v.lastNumber := (congrArg State.lastNumber view :)
    have e2 : v.lastNumber = (s.unheldBy b c).lastNumber := (congrArg State.lastNumber struck :)
    rw [e1, e2, held]
  · rfl

theorem purge_lastNumber (s : State) : s.purge.lastNumber = s.lastNumber := by
  show (((displayOrder s).map (·.number)).foldl (fun s k => s.closeNumber .purged false k) s).lastNumber = s.lastNumber
  exact foldl_keeps State.lastNumber (fun s k => s.closeNumber .purged false k)
    (fun t k => closeNumber_lastNumber t .purged false k) ((displayOrder s).map (·.number)) s

/-- Of stop logic at most the hold orders differ. -/
def holdsAlone (s t : State) : Prop :=
  ∀ n, 1 ≤ n → n ≤ 4 → pick t.stops n = { pick s.stops n with holdOrder := (pick t.stops n).holdOrder }

theorem closeNumber_holdsAlone (s : State) (o : Closing) (k : Nat) : holdsAlone s (s.closeNumber o false k) := by
  intro n h1 h2
  unfold State.closeNumber
  split
  · rw [closeCall_stops]
    split
    · rw [pick_alter_within _ _ h1 h2]
      split <;> rfl
    · rfl
  · rfl

theorem purge_holdsAlone (s : State) : holdsAlone s s.purge := by
  refine foldl_holds (holdsAlone s) _ (fun t k ht n h1 h2 => ?_) ((displayOrder s).map (·.number)) s fun n _ _ => rfl
  have step := closeNumber_holdsAlone t .purged k n h1 h2
  rw [ht n h1 h2] at step
  exact step

theorem giveUpHolds_butStops (s : State) (n : Nat) : (s.giveUpHolds n).butStops = s.butStops := by
  unfold State.giveUpHolds
  dsimp only
  split
  · exact releaseRequest_butStops ..
  · rfl

theorem givenUp_butStops (s : State) : s.givenUp.butStops = s.purge.butStops :=
  foldl_keeps State.butStops _ giveUpHolds_butStops (numbers 4) s.purge

/-! ## ENTER CONFIG (R188) -/

theorem leaveRun_notified (s : State) : s.host.Notified s.leaveRun.host := by
  have shown := (givenUp_ops s).shows.host
  rw [leaveRun_eq]
  generalize s.givenUp = u at shown ⊢
  exact shown

theorem leaveRun_recorded {s : State} (hs : historyBounded s) (hn : (s.calls.map (·.number)).Nodup) :
    recordsAppended ((displayOrder s).map (closingOf s .purged)) s s.leaveRun := by
  have view := givenUp_butStops s
  have purged := purge_recorded hs hn
  rw [leaveRun_eq]
  generalize s.givenUp = u at view ⊢
  generalize s.purge = v at view purged
  exact recordsAppended_congr purged ⟨rfl, rfl, rfl⟩
    ⟨(congrArg State.history view :), (congrArg State.nextSeq view :), (congrArg State.overflowCount view :)⟩

theorem leaveRun_stops (s : State) {n : Nat} (h1 : 1 ≤ n) (h2 : n ≤ 4) : pick s.leaveRun.stops n =
    { startStop with coast := (pick s.stops n).coast, unattributed := (pick s.stops n).unattributed } := by
  have given := givenUp_stops s h1 h2
  rw [leaveRun_eq]
  generalize s.givenUp = u at given ⊢
  refine given.trans ?_
  rw [purge_holdsAlone s n h1 h2]
  rfl

theorem leaveRun_lastNumber (s : State) : s.leaveRun.lastNumber = s.lastNumber := by
  have view := givenUp_butStops s
  rw [← purge_lastNumber s, leaveRun_eq]
  generalize s.givenUp = u at view ⊢
  generalize s.purge = v at view ⊢
  exact (congrArg State.lastNumber view :)

theorem leaveRun_station (s : State) {n : Nat} (h1 : 1 ≤ n) (h2 : n ≤ 96) (hd : (s.stationDef n).isSome = true) :
    pick s.leaveRun.stations n = { startStation with
      goodReplies := (pick s.stations n).goodReplies, misses := (pick s.stations n).misses
      rejectedEvents := (pick s.stations n).rejectedEvents } := by
  have view := givenUp_butStops s
  have lamps := purge_lampsAlone s n h1 h2
  have defs : s.givenUp.defs = s.defs := (givenUp_ops s).defs
  rw [leaveRun_eq]
  generalize s.givenUp = u at view defs ⊢
  generalize s.purge = v at view lamps
  have stations : u.stations = v.stations := (congrArg State.stations view :)
  have defined : (u.stationDef n).isSome = true := by unfold State.stationDef; rw [defs]; exact hd
  show pick (alterAll u.stations fun n x => if (u.stationDef n).isSome then x.stopPolling else x) n = _
  rw [pick_alterAll _ _ h1 h2, if_pos defined, stations, lamps]
  rfl

theorem leaveRun_board (s : State) {b : Nat} (h1 : 1 ≤ b) (h2 : b ≤ 8) : (pick s.leaveRun.boards b).queue = []
    ∧ (pick s.leaveRun.boards b).state = .unknown
    ∧ (pick s.leaveRun.boards b).delivered = (pick s.boards b).delivered := by
  have shown := (givenUp_ops s).shows.boards b
  rw [leaveRun_eq]
  generalize s.givenUp = u at shown ⊢
  have board : pick u.stopLinks.idleComposer.boards b = { (pick u.boards b).abandon with clearing := false, owed := false } := by
    unfold State.idleComposer State.stopLinks
    dsimp only
    rw [pick_alterAll _ _ h1 h2, pick_alterAll _ _ h1 h2]
  have whole : pick ({ u.stopLinks.idleComposer.idleEquations with mode := .config } : State).boards b =
      { (pick u.boards b).abandon with clearing := false, owed := false } := board
  rw [whole, shown]
  exact ⟨rfl, rfl, rfl⟩

theorem leaveRun_loops (s : State) : s.leaveRun.loopA = s.givenUp.loopA.stopPolling ∧ s.leaveRun.loopB = s.givenUp.loopB.stopPolling := by
  rw [leaveRun_eq]
  generalize s.givenUp = u
  exact ⟨rfl, rfl⟩

theorem leaveRun_announcement (s : State) (l : LoopId) {z : Nat} (h1 : 1 ≤ z) (h2 : z ≤ 24) :
    pick (s.leaveRun.loop l).announcements z = List.replicate 4 0x20#8 := by
  obtain ⟨ha, hb⟩ := leaveRun_loops s
  have blank : ∀ x : LoopState, pick x.stopPolling.announcements z = List.replicate 4 0x20#8 :=
    fun _ => pick_replicate _ h1 h2
  generalize s.leaveRun = u at ha hb ⊢
  cases l
  · exact (congrArg (fun x => pick (LoopState.announcements x) z) ha).trans (blank _)
  · exact (congrArg (fun x => pick (LoopState.announcements x) z) hb).trans (blank _)

theorem leaveRun_kept (s : State) : s.leaveRun.calls = [] ∧ s.leaveRun.arrivalCount = 0 ∧ s.leaveRun.defs = s.defs
    ∧ s.leaveRun.store = s.store ∧ s.leaveRun.trackers = s.trackers ∧ s.leaveRun.previous = s.previous
    ∧ s.leaveRun.timeOfDay = s.timeOfDay ∧ s.leaveRun.inputs = s.inputs := by
  have calls := givenUp_calls s
  have arrivals := givenUp_arrivalCount s
  have view := (givenUp_ops s).view
  rw [leaveRun_eq]
  generalize s.givenUp = u at calls arrivals view ⊢
  exact ⟨calls, arrivals, (congrArg State.defs view :), (congrArg State.store view :), (congrArg State.trackers view :),
    (congrArg State.previous view :), (congrArg State.timeOfDay view :), (congrArg State.inputs view :)⟩

theorem leaveRun_idle (s : State) : equationsIdle s.leaveRun ∧ s.leaveRun.mode = .config ∧ s.leaveRun.link.inFlight = none := by
  rw [leaveRun_eq]
  generalize s.givenUp = u
  exact ⟨⟨rfl, rfl, rfl, rfl⟩, rfl, rfl⟩

/-- Settles O14. -/
theorem enterConfigTaken : Obligations.EnterConfigTaken := by
  unfold Obligations.EnterConfigTaken
  intro tag s h hm hn
  have handled : enterConfigNow [] (s.holding 17#8 tag []) = done (s.holding 17#8 tag []).leaveRun .empty :=
    (ofLength_fits rfl _ _).trans ((inMode_fits (s := s.holding 17#8 tag []) hm _).trans (if_pos hn))
  have notified := leaveRun_notified (s.holding 17#8 tag [])
  have recorded := leaveRun_recorded (s := s.holding 17#8 tag [])
  have stops := fun n h1 h2 => leaveRun_stops (s.holding 17#8 tag []) (n := n) h1 h2
  have number := leaveRun_lastNumber (s.holding 17#8 tag [])
  have station := fun n h1 h2 hd => leaveRun_station (s.holding 17#8 tag []) (n := n) h1 h2 hd
  have board := fun b h1 h2 => leaveRun_board (s.holding 17#8 tag []) (b := b) h1 h2
  have loops := leaveRun_loops (s.holding 17#8 tag [])
  have announced := fun l z h1 h2 => leaveRun_announcement (s.holding 17#8 tag []) l (z := z) h1 h2
  obtain ⟨k1, k2, k3, k4, k5, k6, k7, k8⟩ := leaveRun_kept (s.holding 17#8 tag [])
  obtain ⟨idle, mode, flight⟩ := leaveRun_idle (s.holding 17#8 tag [])
  generalize (s.holding 17#8 tag []).givenUp = v at loops
  generalize (s.holding 17#8 tag []).leaveRun = u at *
  obtain ⟨la, lb⟩ := loops
  obtain ⟨t, hx, ht, ha, hf⟩ := serve_answered h handled notified
  have loopA : t.loopA = v.loopA.stopPolling := by rw [ht]; exact la
  have loopB : t.loopB = v.loopB.stopPolling := by rw [ht]; exact lb
  refine ⟨t, hx, ha, fun r1 r2 r3 r4 => ?_, ?_⟩
  · have appended := recorded ⟨r1, r2, r3⟩ r4
    exact recordsAppended_congr appended ⟨rfl, rfl, rfl⟩ (by rw [ht]; exact ⟨rfl, rfl, rfl⟩)
  · rw [loopA, loopB]
    have reports : t.host.reports = s.host.reports := (congrArg HostLink.reports hf :)
    have loop : ∀ l, t.loop l = u.loop l := fun l => by rw [ht]; rfl
    refine ⟨by rw [ht]; exact mode, by rw [ht]; exact k1, by rw [ht]; exact k2, by rw [ht]; exact number,
      fun n h1 h2 => by rw [ht]; exact stops n h1 h2, rfl, rfl, rfl, rfl, rfl, rfl,
      fun l z h1 h2 => by rw [loop]; exact announced l z h1 h2,
      fun n h1 h2 hd => by rw [ht]; exact station n h1 h2 hd, by rw [ht]; exact flight,
      fun b h1 h2 => by rw [ht]; exact board b h1 h2, by rw [ht]; exact idle, by rw [ht]; exact k3, by rw [ht]; exact k4,
      by rw [ht]; exact k5, by rw [ht]; exact k6, by rw [ht]; exact k7, by rw [ht]; exact k8, reports⟩

end Sys2Proof.Machine
end

section
/-! PROOFS. HostFrames: what the host link receives of a frame's bytes (R183, R185, R186). -/

namespace Sys2Proof.Machine

/-! ## The bytes of a frame (R185) -/

theorem escape_cons (b : Byte) (bs : List Byte) :
    escape (b :: bs) = (if isMark b then [literalMark, b] else [b]) ++ escape bs := by
  unfold escape
  rw [List.flatMap_cons]

/-- The bytes that stand for themselves. -/
theorem not_isMark {b : Byte} (h : isMark b = false) :
    b ≠ startMark ∧ b ≠ endMark ∧ b ≠ literalMark ∧ b ≠ pauseByte ∧ b ≠ resumeByte := by
  refine ⟨?_, ?_, ?_, ?_, ?_⟩ <;> (rintro rfl; exact absurd h (by decide))

theorem checked_append {content check : List Byte} (h : check.length = 2) :
    checked (content ++ check) = if check = checkBytes content then some content else none := by
  have length : (content ++ check).length - 2 = content.length := by rw [List.length_append, h]; omega
  unfold checked
  dsimp only
  rw [length, List.drop_left, List.take_left, decide_eq_true (show 2 ≤ (content ++ check).length by
    rw [List.length_append, h]; omega), Bool.true_and]
  simp only [decide_eq_true_eq]

theorem checked_checkBytes (content : List Byte) : checked (content ++ checkBytes content) = some content :=
  (checked_append rfl).trans (if_pos rfl)

theorem checked_length {content x : List Byte} (h : checked content = some x) : content.length = x.length + 2 := by
  unfold checked at h
  dsimp only at h
  split at h
  · next hc =>
    cases h
    have two := (Bool.and_eq_true_iff.mp hc).1
    rw [List.length_take]
    have := of_decide_eq_true two
    omega
  · cases h

/-! ## What the host link hears inside a frame (R185) -/

theorem hear_inside {h k : HostLink} {b : Byte} {content : List Byte} {escaped bad : Bool}
    (hr : hostReceive h.receiver b = (.inside content escaped bad, .nothing)) (hl : content.length ≤ 245)
    (hk : k = { h with receiver := .inside content escaped bad }) : h.hear b = k := by
  unfold HostLink.hear
  rw [hr]
  subst hk
  unfold HostLink.bounded Config.contentCapacity
  exact if_neg (by omega)

theorem hear_past {h : HostLink} {b : Byte} {content : List Byte} {escaped bad : Bool}
    (hr : hostReceive h.receiver b = (.inside content escaped bad, .nothing)) (hl : 245 < content.length) :
    h.hear b = ({ h with receiver := .outside } : HostLink).countBad := by
  unfold HostLink.hear
  rw [hr]
  unfold HostLink.bounded Config.contentCapacity
  exact if_pos hl

theorem hostReceive_plain {content : List Byte} {bad : Bool} {b : Byte} (h : isMark b = false) :
    hostReceive (.inside content false bad) b = (.inside (content ++ [b]) false bad, .nothing) := by
  obtain ⟨h1, h2, h3, h4, h5⟩ := not_isMark h
  unfold hostReceive
  dsimp only
  rw [if_neg h1, if_neg h2, if_neg h3, if_neg h4, if_neg h5]

/-- R185: an escaped byte inside a frame is taken as it stands. -/
theorem line_escape_one {h : HostLink} {content : List Byte} {bad : Bool} (b : Byte) (hr : h.receiver = .inside content false bad)
    (hl : content.length + 1 ≤ 245) :
    h.line (if isMark b then [literalMark, b] else [b]) = { h with receiver := .inside (content ++ [b]) false bad } := by
  have length : (content ++ [b]).length ≤ 245 := by rw [List.length_append, List.length_singleton]; exact hl
  cases hm : isMark b with
  | true =>
    show (h.hear literalMark).hear b = _
    rw [hear_inside (h := h) (b := literalMark) (content := content) (escaped := true) (bad := bad)
      (by rw [hr]; rfl) (by omega) rfl]
    refine hear_inside ?_ length rfl
    show ((.inside (content ++ [b]) false (bad || !isMark b), .nothing) : Receiver × Heard) = _
    rw [hm, Bool.not_true, Bool.or_false]
  | false =>
    exact hear_inside (by rw [hr]; exact hostReceive_plain hm) length rfl

theorem line_append (h : HostLink) (xs ys : List Byte) : h.line (xs ++ ys) = (h.line xs).line ys := List.foldl_append

theorem line_escape {h : HostLink} {content : List Byte} {bad : Bool} (bs : List Byte)
    (hr : h.receiver = .inside content false bad) (hl : content.length + bs.length ≤ 245) :
    h.line (escape bs) = { h with receiver := .inside (content ++ bs) false bad } := by
  induction bs generalizing h content with
  | nil => rw [List.append_nil, ← hr]; rfl
  | cons b bs ih =>
    rw [List.length_cons] at hl
    rw [escape_cons, line_append, line_escape_one b hr (by omega),
      ih (h := { h with receiver := .inside (content ++ [b]) false bad }) rfl
        (by rw [List.length_append, List.length_singleton]; omega), List.append_assoc]
    rfl

/-- R185: the bytes of a frame up to its end mark. -/
theorem line_begun {h : HostLink} (bs : List Byte) (hr : h.receiver = .outside) (hl : bs.length ≤ 245) :
    h.line ([startMark] ++ escape bs) = { h with receiver := .inside bs false false } := by
  have began : h.hear startMark = { h with receiver := .inside [] false false } := by
    unfold HostLink.hear
    rw [hr]
    rfl
  rw [line_append]
  show (h.hear startMark).line (escape bs) = _
  rw [began]
  exact line_escape (h := { h with receiver := .inside [] false false }) bs rfl (by rw [List.length_nil]; omega)

/-- R185: the end mark. -/
theorem hear_end {h : HostLink} {content : List Byte} {bad : Bool} (hr : h.receiver = .inside content false bad) :
    h.hear endMark = match hostRequest content bad with
      | some q => ({ h with receiver := .outside } : HostLink).receive q
      | none => ({ h with receiver := .outside } : HostLink).countBad := by
  unfold HostLink.hear
  rw [hr]
  rfl

/-- R185: a frame whose bytes carry no request. -/
theorem line_framed {h : HostLink} (bs : List Byte) (hr : h.receiver = .outside) (hl : bs.length ≤ 245) :
    h.line ([startMark] ++ escape bs ++ [endMark]) = match hostRequest bs false with
      | some q => h.receive q
      | none => h.countBad := by
  have same : ({ ({ h with receiver := .inside bs false false } : HostLink) with receiver := .outside } : HostLink) = h := by
    rw [← hr]
  rw [line_append, line_begun bs hr hl]
  have ended := hear_end (h := { h with receiver := .inside bs false false }) rfl
  rw [same] at ended
  exact ended

/-! ## The request that a frame carries (R186) -/

theorem hostRequest_framed {tag kind : Byte} {body : List Byte} (hl : body.length ≤ 240) :
    hostRequest ((tag :: kind :: BitVec.ofNat 8 body.length :: body) ++
      checkBytes (tag :: kind :: BitVec.ofNat 8 body.length :: body)) false = some ⟨tag, kind, body⟩ := by
  have len : (BitVec.ofNat 8 body.length).toNat = body.length := by rw [BitVec.toNat_ofNat]; omega
  unfold hostRequest
  rw [checked_checkBytes]
  have fits : body.length = (BitVec.ofNat 8 body.length).toNat ∧ (BitVec.ofNat 8 body.length).toNat ≤ Config.bodyCapacity :=
    ⟨len.symm, by rw [len]; exact hl⟩
  exact if_pos fits

theorem hostRequest_bad (content : List Byte) : hostRequest content true = none := rfl

theorem hostRequest_short {content : List Byte} (h : content.length < 5) : hostRequest content false = none := by
  unfold hostRequest
  cases hc : checked content with
  | none => rfl
  | some x =>
    have length := checked_length hc
    match x, length with
    | [], _ => rfl
    | [_], _ => rfl
    | [_, _], _ => rfl
    | _ :: _ :: _ :: rest, length => simp only [List.length_cons] at length; omega

theorem hostRequest_wrongCheck {x check : List Byte} (hl : check.length = 2) (hne : check ≠ checkBytes x) :
    hostRequest (x ++ check) false = none := by
  unfold hostRequest
  rw [checked_append hl, if_neg hne]
  rfl

theorem hostRequest_wrongLength {tag kind len : Byte} {body : List Byte} (h : body.length ≠ len.toNat ∨ 240 < len.toNat) :
    hostRequest ((tag :: kind :: len :: body) ++ checkBytes (tag :: kind :: len :: body)) false = none := by
  unfold hostRequest
  rw [checked_checkBytes]
  have misfits : ¬(body.length = len.toNat ∧ len.toNat ≤ Config.bodyCapacity) :=
    fun ⟨h1, h2⟩ => h.elim (absurd h1) fun h => absurd h (Nat.not_lt.mpr h2)
  exact if_neg misfits

/-- R186: what enters the request queue. -/
theorem receive_room {h : HostLink} (q : Request) (hl : h.requests.length < 8) : h.receive q = { h with
    requests := h.requests ++ [q], selfPaused := h.selfPaused || decide (h.requests.length = 5)
    lastMark := if h.selfPaused = false ∧ h.requests.length = 5 then some .pause else h.lastMark } := by
  have sixth : ((h.requests ++ [q]).length == Config.selfPauseAt) = decide (h.requests.length = 5) := by
    rw [List.length_append, List.length_singleton]
    exact decide_eq_decide.mpr ⟨fun e => Nat.succ_injective e, fun e => by rw [e]; rfl⟩
  unfold HostLink.receive
  rw [if_pos (show h.requests.length < Config.requestCapacity from hl)]
  dsimp only
  rw [sixth]
  cases h.selfPaused <;> simp

theorem receive_full {h : HostLink} (q : Request) (hl : 8 ≤ h.requests.length) :
    h.receive q = { h with lostRequests := min 65535 (h.lostRequests + 1) } := if_neg (Nat.not_lt.mpr hl)

theorem exec_hostFrame {line : List Byte} {s : State} (hs : settled s = true) :
    exec (.hostFrameReceived line) s = .next (s.modHost fun h => h.line line) := by
  show Host.Outcome.next (s.takeDue.modHost fun h => h.line line) = _
  rw [settled_takeDue hs]

theorem frameBytes_eq (content : List Byte) :
    frameBytes content = [startMark] ++ escape (content ++ checkBytes content) ++ [endMark] := rfl

/-- Settles O29. -/
theorem hostFrameCarriesRequest : Obligations.HostFrameCarriesRequest := by
  unfold Obligations.HostFrameCarriesRequest
  intro tag kind body s hs hr hl
  have carried : s.host.line (frameBytes (tag :: kind :: BitVec.ofNat 8 body.length :: body)) =
      s.host.receive ⟨tag, kind, body⟩ := by
    rw [frameBytes_eq, line_framed _ hr (by
      rw [List.length_append]; simp only [List.length_cons]; show _ + 2 ≤ 245; omega), hostRequest_framed hl]
  have received : exec (.hostFrameReceived (frameBytes (tag :: kind :: BitVec.ofNat 8 body.length :: body))) s =
      .next { s with host := s.host.receive ⟨tag, kind, body⟩ } := by
    rw [exec_hostFrame hs, ← carried]
    rfl
  refine ⟨fun room => received.trans ?_, fun full => received.trans ?_⟩
  · rw [receive_room _ room]
  · rw [receive_full _ full]

/-! ## Damaged frames (R185) -/

theorem countBad_eq (h : HostLink) : h.countBad = { h with badFrames := min 65535 (h.badFrames + 1) } := rfl

theorem lineBreak_inside {h : HostLink} {content : List Byte} {escaped bad : Bool}
    (hr : h.receiver = .inside content escaped bad) : h.lineBreak = ({ h with receiver := .outside } : HostLink).countBad := by
  unfold HostLink.lineBreak
  rw [hr]

theorem lineBreak_outside {h : HostLink} (hr : h.receiver = .outside) : h.lineBreak = h := by
  unfold HostLink.lineBreak
  rw [hr]

theorem hear_start_inside {h : HostLink} {content : List Byte} {bad : Bool} (hr : h.receiver = .inside content false bad) :
    h.hear startMark = ({ h with receiver := .inside [] false false } : HostLink).countBad := by
  unfold HostLink.hear
  rw [hr]
  rfl

/-- R185: a literal-next mark before a byte that needs none spoils the frame. -/
theorem line_spoiled {h : HostLink} {content : List Byte} (b : Byte) (hr : h.receiver = .inside content false false)
    (hl : content.length + 1 ≤ 245) (hm : isMark b = false) :
    h.line [literalMark, b] = { h with receiver := .inside (content ++ [b]) false true } := by
  show (h.hear literalMark).hear b = _
  rw [hear_inside (h := h) (b := literalMark) (content := content) (escaped := true) (bad := false)
    (by rw [hr]; rfl) (by omega) rfl]
  refine hear_inside ?_ (by rw [List.length_append, List.length_singleton]; exact hl) rfl
  show ((.inside (content ++ [b]) false (false || !isMark b), .nothing) : Receiver × Heard) = _
  rw [hm]
  rfl

/-- R185: the byte that makes a content too long. -/
theorem line_past {h : HostLink} {content : List Byte} (b : Byte) (hr : h.receiver = .inside content false false)
    (hl : content.length = 245) :
    h.line (if isMark b then [literalMark, b] else [b]) = ({ h with receiver := .outside } : HostLink).countBad := by
  have length : 245 < (content ++ [b]).length := by rw [List.length_append, List.length_singleton]; omega
  cases hm : isMark b with
  | true =>
    show (h.hear literalMark).hear b = _
    rw [hear_inside (h := h) (b := literalMark) (content := content) (escaped := true) (bad := false)
      (by rw [hr]; rfl) (by omega) rfl]
    exact hear_past (h := { h with receiver := .inside content true false }) rfl length
  | false =>
    exact hear_past (by rw [hr]; exact hostReceive_plain hm) length

theorem isMark_eq_false {b : Byte} (h : b.toNat < 0xF0 ∨ 0xF4 < b.toNat) : isMark b = false := by
  unfold isMark
  rw [Bool.and_eq_false_iff, decide_eq_false_iff_not, decide_eq_false_iff_not]
  omega

/-- Settles O30. -/
theorem damagedHostFramesCounted : Obligations.DamagedHostFramesCounted := by
  unfold Obligations.DamagedHostFramesCounted
  intro content s counted hs hr hcount
  have closed : ∀ content escaped bad, ({ ({ s.host with receiver := .inside content escaped bad } : HostLink) with
      receiver := .outside } : HostLink) = s.host := fun _ _ _ => by rw [← hr]
  have broken : ∀ line, exec (.hostLineBreak line) s = .next { s with host := (s.host.line line).lineBreak } := fun line => by
    show Host.Outcome.next (s.takeDue.modHost fun h => (h.line line).lineBreak) = _
    rw [settled_takeDue hs]
    rfl
  have restarted : ∀ line, exec (.hostStartMarkInsideFrame line) s =
      .next { s with host := (s.host.line line).hear startMark } := fun line => by
    show Host.Outcome.next (s.takeDue.modHost fun h => h.line (line ++ [startMark])) = _
    rw [settled_takeDue hs]
    exact congrArg (fun h => Host.Outcome.next { s with host := h }) (line_append ..)
  have past : ∀ line, exec (.hostContentPast245 line) s = .next { s with host := s.host.line line } := fun line => by
    show Host.Outcome.next (s.takeDue.modHost fun h => h.line line) = _
    rw [settled_takeDue hs]
    rfl
  have framed : ∀ line, s.host.line line = s.host.countBad → exec (.hostFrameReceived line) s = .next counted :=
    fun line h => by
      rw [exec_hostFrame hs, hcount]
      exact congrArg (fun h => Host.Outcome.next { s with host := h }) h
  refine ⟨?_, fun hl => ⟨?_, ?_, fun damage => framed _ ?_⟩, fun before b after hc hl hb => framed _ ?_, fun hl => ?_⟩
  · rw [broken]
    exact congrArg (fun h => Host.Outcome.next { s with host := h }) (lineBreak_outside hr)
  · rw [broken, line_begun content hr hl, lineBreak_inside (content := content) (escaped := false) (bad := false) rfl, closed,
      hcount]
    rfl
  · rw [restarted, line_begun content hr hl, hear_start_inside (content := content) (bad := false) rfl]
    rfl
  · rw [line_framed content hr hl]
    have none : hostRequest content false = none := by
      obtain short | ⟨x, check, rfl, h2, hne⟩ | ⟨tag, kind, len, body, x, rfl, rfl, hne⟩ := damage
      · exact hostRequest_short short
      · exact hostRequest_wrongCheck h2 hne
      · exact hostRequest_wrongLength hne
    rw [none]
  · rw [hc, List.length_append, List.length_cons] at hl
    rw [line_append, line_append, line_append, line_begun before hr (by omega),
      line_spoiled (content := before) b rfl (by omega) (isMark_eq_false hb),
      line_escape (content := before ++ [b]) (bad := true) after rfl
        (by rw [List.length_append, List.length_singleton]; omega)]
    refine (hear_end (h := { s.host with receiver := .inside (before ++ [b] ++ after) false true }) (content := before ++ [b] ++ after) (bad := true) rfl).trans ?_
    rw [hostRequest_bad]
    exact congrArg HostLink.countBad (closed [] false false)
  · obtain ⟨before, b, rfl⟩ : ∃ before b, content = before ++ [b] :=
      ⟨content.dropLast, content.getLast (by rintro rfl; cases hl), (List.dropLast_append_getLast _).symm⟩
    rw [List.length_append, List.length_singleton] at hl
    have split : escape (before ++ [b]) = escape before ++ (if isMark b then [literalMark, b] else [b]) := by
      unfold escape
      rw [List.flatMap_append, List.flatMap_singleton]
    rw [past, split, ← List.append_assoc, line_append, line_begun before hr (by omega),
      line_past (content := before) b rfl (by omega), closed, hcount]
    rfl

end Sys2Proof.Machine
end

section
/-! PROOFS. Composition: DEFINE BOARD, DEFINE FIELD, and what a field of each kind shows (R154, R156–R161). -/

namespace Sys2Proof.Machine

/-! ## Numbers and lines of words (R157, R158) -/

theorem digit_toNat (n : Nat) : (digit n).toNat = 48 + n % 10 := by
  unfold digit
  rw [BitVec.toNat_ofNat]
  omega

theorem spelled_snoc (t : Text) (b : Byte) : spelled (t ++ [b]) = spelled t * 10 + (b.toNat - 48) := by
  unfold spelled
  rw [List.foldl_append]
  rfl

/-- R157: the digits of a number stand before what follows, the highest first. -/
theorem digits_spell (fuel : Nat) : ∀ (n : Nat) (acc : Text), n < 10 ^ (fuel + 1) → ∃ ds, digits (fuel + 1) n acc = ds ++ acc
    ∧ spelled ds = n ∧ (∀ x ∈ ds, 48 ≤ x.toNat ∧ x.toNat ≤ 57) ∧ (n ≠ 0 → ds.head? ≠ some 0x30#8) ∧ ds ≠ [] := by
  have ranged : ∀ n, 48 ≤ (digit n).toNat ∧ (digit n).toNat ≤ 57 := fun n => by rw [digit_toNat]; omega
  induction fuel with
  | zero =>
    intro n acc hn
    refine ⟨[digit n], if_pos (by omega), ?_, fun x hx => ?_, fun hne h => ?_, nofun⟩
    · show 0 * 10 + ((digit n).toNat - 48) = n
      rw [digit_toNat]; omega
    · rw [List.mem_singleton.mp hx]; exact ranged n
    · have zero := congrArg BitVec.toNat (Option.some.inj h)
      rw [digit_toNat] at zero
      have zero : 48 + n % 10 = 48 := zero
      omega
  | succ fuel ih =>
    intro n acc hn
    by_cases small : n / 10 = 0
    · refine ⟨[digit n], if_pos small, ?_, fun x hx => ?_, fun hne h => ?_, nofun⟩
      · show 0 * 10 + ((digit n).toNat - 48) = n
        rw [digit_toNat]; omega
      · rw [List.mem_singleton.mp hx]; exact ranged n
      · have zero := congrArg BitVec.toNat (Option.some.inj h)
        rw [digit_toNat] at zero
        have zero : 48 + n % 10 = 48 := zero
        omega
    · obtain ⟨ds, hds, hs, hr, hh, hne⟩ := ih (n / 10) (digit n :: acc) (by rw [Nat.pow_succ] at hn; omega)
      refine ⟨ds ++ [digit n], ?_, ?_, fun x hx => ?_, fun _ h => ?_, by simp⟩
      · rw [List.append_assoc]
        exact (if_neg small).trans hds
      · rw [spelled_snoc, hs, digit_toNat]; omega
      · obtain hx | hx := List.mem_append.mp hx
        · exact hr x hx
        · rw [List.mem_singleton.mp hx]; exact ranged n
      · rw [List.head?_append_of_ne_nil _ hne] at h
        exact hh small h

theorem decimal_spells {n : Nat} (hn : n < 10000000000) : spelled (decimal n) = n
    ∧ (∀ x ∈ decimal n, 48 ≤ x.toNat ∧ x.toNat ≤ 57) ∧ (n ≠ 0 → (decimal n).head? ≠ some 0x30#8) ∧ decimal n ≠ [] := by
  obtain ⟨ds, hds, h⟩ := digits_spell 9 n [] (by simpa using hn)
  have whole : decimal n = ds := by rw [← List.append_nil ds]; exact hds
  rw [whole]
  exact h

theorem trimEnd_spec (name : Text) :
    ∃ k, name = trimEnd name ++ List.replicate k 0x20#8 ∧ (trimEnd name).getLast? ≠ some 0x20#8 := by
  refine ⟨(name.reverse.takeWhile fun b => b == 0x20#8).length, ?_, fun h => ?_⟩
  · have blank : name.reverse.takeWhile (fun b => b == 0x20#8) =
        List.replicate (name.reverse.takeWhile fun b => b == 0x20#8).length 0x20#8 :=
      List.eq_replicate_of_mem fun b hb => beq_iff_eq.mp (List.mem_takeWhile_imp (p := fun b => b == 0x20#8) hb)
    have whole := congrArg List.reverse (List.takeWhile_append_dropWhile (p := fun b => b == 0x20#8) (l := name.reverse))
    rw [List.reverse_append, List.reverse_reverse, blank, List.reverse_replicate] at whole
    exact whole.symm
  · unfold trimEnd at h
    rw [List.getLast?_reverse] at h
    have kept := List.head?_dropWhile_not (fun b : Byte => b == 0x20#8) name.reverse
    rw [h] at kept
    exact absurd kept (by decide)

theorem leftAlign_lineIn (w : Nat) (t : Text) : leftAlign w t = lineIn w t := leftAlign_eq w t

theorem lineIn_length (w : Nat) (t : Text) : (lineIn w t).length = w := by
  unfold lineIn
  rw [List.length_take, List.length_append, List.length_replicate]
  omega

theorem rightAlign_numberIn (w : Nat) (t : Text) : rightAlign w t = numberIn w t := by
  unfold rightAlign numberIn spaces
  by_cases h : t.length ≤ w
  · rw [if_pos h, if_neg (by omega)]
  · rw [if_neg h, if_pos (by omega)]

theorem numberIn_length (w : Nat) (t : Text) : (numberIn w t).length = w := by
  unfold numberIn
  split
  · rw [List.length_append, List.length_replicate]; omega
  · rw [List.length_replicate]

theorem twoDigits_twoPlaces {n : Nat} (h : n < 100) : twoDigits n = twoPlaces n := by
  unfold twoDigits twoPlaces digit
  rw [Nat.mod_eq_of_lt (show n / 10 < 10 by omega)]

/-! ## What a field shows (R156–R161) -/

theorem countText_eq (s : State) (fig : Figure) (w : Nat) : countText s fig w =
    (((shownFigures s).bind fun p => figureText p fig).map (numberIn w)).getD (List.replicate w 0x2D#8) := by
  unfold countText dashes
  cases (shownFigures s).bind fun p => figureText p fig with
  | none => rfl
  | some t => exact rightAlign_numberIn w t

theorem clockText_eq (s : State) (w : Nat) (h : s.timeOfDay < 86400) : clockText s w = if s.clockSet then
    numberIn w (twoPlaces (s.timeOfDay / 3600) ++ [0x3A#8] ++ twoPlaces (s.timeOfDay / 60 % 60))
    else List.replicate w 0x2D#8 := by
  unfold clockText
  rw [twoDigits_twoPlaces (by omega), twoDigits_twoPlaces (by omega), rightAlign_numberIn]
  rfl

theorem clockText_length (s : State) (w : Nat) : (clockText s w).length = w := by
  unfold clockText
  split
  · rw [rightAlign_numberIn, numberIn_length]
  · exact List.length_replicate

theorem countText_length (s : State) (fig : Figure) (w : Nat) : (countText s fig w).length = w := by
  rw [countText_eq]
  cases (shownFigures s).bind fun p => figureText p fig with
  | none => exact List.length_replicate
  | some t => exact numberIn_length w t

/-- R158: a COUNT field writes its figure. -/
theorem figureText_written (p : PreviousShift) (fig : Figure) : figureWritten p fig (figureText p fig) := by
  cases fig with
  | delta =>
    refine ⟨fun h => ?_, fun h => ?_, fun h => ?_⟩
    · show some (deltaText p.delta) = _
      unfold deltaText
      rw [if_neg (by omega), if_pos h]
      rfl
    · show some (deltaText p.delta) = _
      unfold deltaText
      rw [if_neg (by omega), if_neg (by omega)]
      rfl
    · show some (deltaText p.delta) = _
      unfold deltaText
      rw [if_pos h]
      rfl
  | workTime =>
    show some (decimal (p.worked / 600 / 60) ++ chars [':'] ++ twoDigits (p.worked / 600 % 60)) = _
    rw [twoDigits_twoPlaces (by omega), Nat.div_div_eq_div_mul]
    rfl
  | _ => rfl

theorem callColours_shown (s : State) (c : Call) (t : Text) : shownAs s c ⟨t, (callColours s c).1, (callColours s c).2⟩ := by
  unfold callColours
  refine ⟨fun h => ?_, fun h => ?_⟩
  · rw [if_pos h]; exact ⟨rfl, rfl⟩
  · rw [if_neg h]
    cases c.answered with
    | none => exact ⟨rfl, rfl⟩
    | some k => exact ⟨rfl, rfl⟩

/-- R156: a content fills the width. -/
theorem contentOf_length (s : State) (b f : Nat) (d : FieldDef) : (contentOf s b f d).text.length = d.width := by
  have line : ∀ t, (leftAlign d.width t).length = d.width := fun t => by rw [leftAlign_lineIn, lineIn_length]
  unfold contentOf
  cases d.kind with
  | zone z =>
    show (zoneContent s z d).text.length = d.width
    unfold zoneContent
    cases callsInScope s (.zone z) with
    | nil => exact line _
    | cons c rest => exact line _
  | list scope rank =>
    show (listContent s scope rank d).text.length = d.width
    unfold listContent
    cases (callsInScope s scope)[rank - 1]? with
    | none => exact List.length_replicate
    | some c => exact line _
  | count fig => exact countText_length ..
  | shift => exact line _
  | clock => exact clockText_length ..
  | text => exact line _

theorem contentOf_zone {s : State} {d : FieldDef} {z : Nat} {zone : ZoneDef} (b f : Nat) (hk : d.kind = .zone z)
    (hz : s.zoneDef z = some zone) :
    (callsInScope s (.zone z) = [] → contentOf s b f d =
      ⟨lineIn d.width (trimEnd zone.name ++ [0x20#8, 0x52#8, 0x55#8, 0x4E#8]), d.colour, .steady⟩)
    ∧ ∀ c rest, callsInScope s (.zone z) = c :: rest → shownAs s c (contentOf s b f d)
      ∧ (contentOf s b f d).text = lineIn d.width (trimEnd zone.name ++ [0x20#8] ++ trimEnd (s.classDef c.cls).name
        ++ if c.level = 0 then [] else 0x2B#8 :: decimal c.level) := by
  unfold contentOf
  rw [hk]
  dsimp only
  unfold zoneContent
  rw [hz]
  dsimp only
  refine ⟨fun h => ?_, fun c rest h => ?_⟩
  · rw [h]
    dsimp only
    rw [leftAlign_lineIn]
    rfl
  · rw [h]
    dsimp only
    rw [leftAlign_lineIn]
    exact ⟨callColours_shown s c _, rfl⟩

theorem originText_shows (s : State) (c : Call) :
    (∀ n x, c.origin = .station n → s.stationDef n = some x → originText s c.origin = lineIn 6 x.name)
    ∧ ∀ n, c.origin = .tag n → originText s c.origin = lineIn 6 (0x4C#8 :: decimal n) := by
  refine ⟨fun n x ho hx => ?_, fun n ho => ?_⟩
  · rw [ho]
    unfold originText
    dsimp only
    rw [hx]
    exact leftAlign_lineIn ..
  · rw [ho]
    exact leftAlign_lineIn ..

theorem contentOf_list {s : State} {d : FieldDef} {scope : Scope} {k : Nat} (b f : Nat) (hk : d.kind = .list scope k)
    (h1 : 1 ≤ k) :
    ((callsInScope s scope).length < k → contentOf s b f d = ⟨List.replicate d.width 0x20#8, d.colour, .steady⟩)
    ∧ ∀ c, (callsInScope s scope)[k - 1]? = some c → shownAs s c (contentOf s b f d)
      ∧ (contentOf s b f d).text = lineIn d.width (originText s c.origin ++ [0x20#8] ++ lineIn 8 (s.classDef c.cls).name
        ++ [0x20#8] ++ numberIn 3 (decimal (ageMinutes s c))) := by
  unfold contentOf
  rw [hk]
  dsimp only
  unfold listContent
  refine ⟨fun h => ?_, fun c h => ?_⟩
  · rw [List.getElem?_eq_none (by omega)]
    rfl
  · rw [h]
    dsimp only
    rw [leftAlign_lineIn, leftAlign_lineIn, rightAlign_numberIn]
    exact ⟨callColours_shown s c _, rfl⟩

theorem contentOf_count {s : State} {d : FieldDef} {figure : Figure} (b f : Nat) (hk : d.kind = .count figure) :
    contentOf s b f d = ⟨(((shownFigures s).bind fun p => figureText p figure).map (numberIn d.width)).getD
      (List.replicate d.width 0x2D#8), d.colour, .steady⟩ := by
  unfold contentOf
  rw [hk, ← countText_eq]

theorem shiftLine_words (s : State) : (s.shiftState = .none → shiftLine s = bytesOf "NO SHIFT")
    ∧ (s.shiftState = .overtime → shiftLine s = bytesOf "OVERTIME")
    ∧ ∀ sh left, s.shift = some sh → sh.remaining = some left →
      (s.shiftState = .work → shiftLine s = bytesOf "WORK " ++ decimal ((left + 599) / 600))
      ∧ (s.shiftState = .pause → shiftLine s = bytesOf "BREAK " ++ decimal ((left + 599) / 600)) := by
  unfold shiftLine
  refine ⟨fun h => ?_, fun h => ?_, fun sh left h hl => ⟨fun hs => ?_, fun hs => ?_⟩⟩
  · rw [h]; rfl
  · rw [h]; rfl
  · rw [hs, h]
    dsimp only [Option.bind]
    rw [hl]
    rfl
  · rw [hs, h]
    dsimp only [Option.bind]
    rw [hl]
    rfl

/-! ## DEFINE BOARD and DEFINE FIELD (R154, R156) -/

theorem readMark_one {k : Nat} (h : k = 1) : readMark k = some true := by subst h; rfl

theorem readMark_zero {k : Nat} (h : k = 0) : readMark k = some false := by subst h; rfl

theorem clamp_ne_iff (k : Nat) : (clamp 4 16 k != k) = !decide (4 ≤ k ∧ k ≤ 16) := by
  rw [clamp_eq 4 16 k (by decide), bne_eq, Bool.not_inj_iff, Bool.eq_iff_iff, beq_iff_eq, decide_eq_true_eq]
  omega

theorem doneOr_eq (adjusted : Bool) (s : State) (body : ReplyBody) :
    doneOr adjusted s body = ⟨s, some (if adjusted then .adjusted else .done, body)⟩ := rfl

/-- Settles O8. -/
theorem defineBoardAndFieldTaken : Obligations.DefineBoardAndFieldTaken := by
  unfold Obligations.DefineBoardAndFieldTaken
  refine ⟨fun tag body s hm b1 b2 => ⟨fun h hl h1 => ?_, fun h hl h0 => ?_, fun d h hl f1 f2 h1 hb hd => ?_⟩,
    fun n => decimal_spells, trimEnd_spec, fun s b f d => ⟨contentOf_length s b f d, fun z zone hk hz => contentOf_zone b f hk hz,
      fun scope k hk h1 => ?_, fun figure p hk hp => ?_, fun figure hk hn hp => ?_, fun hk ht => ?_, fun hk => ?_, fun hk => ?_⟩⟩
  · refine serve_done (t := s.defineBoard (byteAt body 0) (max 4 (min 16 (byteAt body 2)))) h
      ((fits_config hl (s := s.holding 31#8 tag body) hm).trans ((if_pos (within_of_le b1 b2)).trans ?_))
    rw [readMark_one h1]
    dsimp only
    rw [clamp_ne_iff, clamp_eq 4 16 _ (by decide), doneOr_eq]
    by_cases fits : 4 ≤ byteAt body 2 ∧ byteAt body 2 ≤ 16
    · rw [if_pos fits, decide_eq_true fits]; rfl
    · rw [if_neg fits, decide_eq_false fits]; rfl
  · refine serve_done (t := s.undefineBoard (byteAt body 0)) h
      ((fits_config hl (s := s.holding 31#8 tag body) hm).trans ((if_pos (within_of_le b1 b2)).trans ?_))
    rw [readMark_zero h0]
    rfl
  · refine serve_done (t := s.defineField (byteAt body 0) (byteAt body 1) (some d)) h
      ((fits_config hl (s := s.holding 32#8 tag body) hm).trans ?_)
    have known : ¬((s.holding 32#8 tag body).boardDepth (byteAt body 0)).isNone = true := fun none => by
      have some : ((s.holding 32#8 tag body).boardDepth (byteAt body 0)).isSome = true := hb
      rw [Option.isNone_iff_eq_none] at none
      rw [none] at some
      cases some
    dsimp only
    rw [within_of_le b1 b2, within_of_le f1 f2, readMark_one h1, hd]
    exact if_neg known
  · obtain ⟨blank, shows⟩ := contentOf_list b f hk h1
    refine ⟨blank, fun c hc => ⟨(shows c hc).1, originText s c.origin, ageMinutes s c, (originText_shows s c).1,
      (originText_shows s c).2, fun h => ?_, fun h => ?_, (shows c hc).2⟩⟩
    · unfold ageMinutes; rw [if_pos h]
    · unfold ageMinutes; rw [if_neg (by omega)]
  · refine ⟨figureText p figure, figureText_written p figure, ?_⟩
    have shown : shownFigures s = some p := by
      unfold shownFigures
      obtain ⟨hn, hp⟩ | ⟨hn, hp⟩ := hp
      · rw [if_pos hn]; exact hp
      · rw [if_neg hn]; exact hp
    rw [contentOf_count b f hk, shown]
    rfl
  · have shown : shownFigures s = none := by unfold shownFigures; rw [if_pos hn]; exact hp
    rw [contentOf_count b f hk, shown]
    rfl
  · unfold contentOf
    rw [hk, ← clockText_eq s d.width ht]
  · obtain ⟨none, overtime, running⟩ := shiftLine_words s
    refine ⟨shiftLine s, ?_, none, overtime, running⟩
    unfold contentOf
    rw [hk, ← leftAlign_lineIn]
  · unfold contentOf
    rw [hk, ← leftAlign_lineIn]

end Sys2Proof.Machine
end

section
/-! PROOFS. Edges: the debounced edge of an input (R38–R43, R46, R48, R49). -/

namespace Sys2Proof.Machine

/-! ## The sync edge of a section (R38–R41, R55, R57) -/

/-- R38–R41: the tracker after a sync edge. -/
def Tracker.synced (d : SectionDef) (x : Tracker) : Tracker :=
  if x.phase = 0 then { x with debt := 0, saturated := false, lastSync := some (.aligned, 0) }
  else if d.pitch / 2 ≤ x.phase then x.jumped d
  else { x with debt := 0, saturated := false, phase := 0, lastSync := some (.backward, x.phase) }

/-- R41: the coast count after a sync edge. -/
def syncCoast (d : SectionDef) (x : Tracker) (coast : Nat) : Nat :=
  if x.phase = 0 then coast else if d.pitch / 2 ≤ x.phase then min 65535 (coast + (d.pitch - x.phase)) else coast

/-- R55, R57: the stop distance after a sync edge. -/
def syncDistance (d : SectionDef) (x : Tracker) (distance : Option Nat) : Option Nat :=
  if x.phase = 0 then distance
  else if d.pitch / 2 ≤ x.phase then distance.map (· - (d.pitch - x.phase))
  else distance.map fun y => min (y + x.phase) (d.pitch + d.runOn - 1)

/-- R37, R132: the shift after a sync edge of section n. -/
def syncShift (s : State) (n : Nat) (d : SectionDef) : Option Shift :=
  if (pick s.trackers n).phase = 0 then s.shift
  else if d.pitch / 2 ≤ (pick s.trackers n).phase then bodyCount s n .pitch else s.shift

theorem syncEdge_backward {s : State} {n : Nat} {d : SectionDef} (h : ¬d.pitch / 2 ≤ (pick s.trackers n).phase)
    (hpos : (pick s.trackers n).phase ≠ 0) :
    s.syncEdge n d = ((s.dropDebt n).modTracker n fun t =>
        { t with phase := 0, lastSync := some (.backward, (pick s.trackers n).phase) }).backwardJump n (pick s.trackers n).phase d := by
  unfold State.syncEdge
  dsimp only
  rw [dropDebt_phase, if_neg hpos, if_neg h]

theorem map_unchanged {cs : List Call} {p : Call → Prop} [DecidablePred p] (f : Call → Call) (h : ∀ c, p c → f c = c) :
    cs.map (fun c => if p c then f c else c) = cs := by
  have same : (fun c => if p c then f c else c) = id := funext fun c => by
    split
    · next hp => exact h c hp
    · rfl
  rw [same, List.map_id]

/-- R38–R41: a sync edge, but for what it shows. -/
theorem syncEdge_butShown (s : State) (n : Nat) (d : SectionDef) :
    (s.syncEdge n d).butShown = ({ s with
      trackers := alter s.trackers n (Tracker.synced d)
      stops := alter s.stops n fun y => { y with coast := syncCoast d (pick s.trackers n) y.coast }
      calls := s.calls.map fun c =>
        if c.sec = n then { c with distance := syncDistance d (pick s.trackers n) c.distance } else c
      shift := syncShift s n d } : State).butShown := by
  by_cases aligned : (pick s.trackers n).phase = 0
  · have tracker : alter s.trackers n (Tracker.synced d) =
        alter s.trackers n fun t => { t with debt := 0, saturated := false, lastSync := some (.aligned, 0) } :=
      alter_congr_at _ (if_pos aligned)
    have stop : alter s.stops n (fun y => { y with coast := syncCoast d (pick s.trackers n) y.coast }) = s.stops :=
      alter_fixed _ (by unfold syncCoast; rw [if_pos aligned])
    have calls : s.calls.map (fun c =>
        if c.sec = n then { c with distance := syncDistance d (pick s.trackers n) c.distance } else c) = s.calls :=
      map_unchanged _ fun c _ => by unfold syncDistance; rw [if_pos aligned]
    have shift : syncShift s n d = s.shift := if_pos aligned
    rw [tracker, stop, calls, shift, syncEdge_aligned aligned, dropDebt_eq]
    unfold State.modTracker
    dsimp only
    rw [alter_alter]
    rfl
  · by_cases forward : d.pitch / 2 ≤ (pick s.trackers n).phase
    · have tracker : alter s.trackers n (Tracker.synced d) = alter s.trackers n (Tracker.jumped d) :=
        alter_congr_at _ ((if_neg aligned).trans (if_pos forward))
      have coast : (fun y : StopLogic => { y with coast := syncCoast d (pick s.trackers n) y.coast }) =
          fun y => { y with coast := min 65535 (y.coast + (d.pitch - (pick s.trackers n).phase)) } := funext fun y => by
        unfold syncCoast; rw [if_neg aligned, if_pos forward]
      have calls : (fun c : Call =>
          if c.sec = n then { c with distance := syncDistance d (pick s.trackers n) c.distance } else c) =
          countDown n (d.pitch - (pick s.trackers n).phase) := funext fun c => by
        unfold syncDistance countDown; rw [if_neg aligned, if_pos forward]
      have shift : syncShift s n d = bodyCount s n .pitch := (if_neg aligned).trans (if_pos forward)
      rw [tracker, coast, calls, shift]
      exact syncEdge_forward_butShown forward (Nat.pos_of_ne_zero aligned)
    · have tracker : alter s.trackers n (Tracker.synced d) = alter s.trackers n fun t =>
          { t with debt := 0, saturated := false, phase := 0, lastSync := some (.backward, (pick s.trackers n).phase) } :=
        alter_congr_at _ ((if_neg aligned).trans (if_neg forward))
      have stop : alter s.stops n (fun y => { y with coast := syncCoast d (pick s.trackers n) y.coast }) = s.stops :=
        alter_fixed _ (by unfold syncCoast; rw [if_neg aligned, if_neg forward])
      have calls : (fun c : Call =>
          if c.sec = n then { c with distance := syncDistance d (pick s.trackers n) c.distance } else c) =
          fun c => if c.sec = n then { c with
            distance := c.distance.map fun x => min (x + (pick s.trackers n).phase) (d.pitch + d.runOn - 1) }
          else c := funext fun c => by
        unfold syncDistance; rw [if_neg aligned, if_neg forward]
      have shift : syncShift s n d = s.shift := (if_neg aligned).trans (if_neg forward)
      rw [tracker, stop, calls, shift, syncEdge_backward forward aligned, dropDebt_eq]
      unfold State.modTracker State.backwardJump
      dsimp only
      rw [alter_alter]
      rfl

/-! ## The notices of a sync edge (R36, R49) -/

/-- Between the two states at most m frames have entered the outbound queue, none an INPUT notice. -/
def toldAtMost (m : Nat) (s t : State) : Prop :=
  ∃ before, t.host.outbound = s.host.outbound ++ before ∧ before.length ≤ m
    ∧ ∀ f ∈ before, ∀ time j l, f ≠ .notice time (.input j l)

theorem toldAtMost_refl (s : State) : toldAtMost 0 s s := ⟨[], (List.append_nil _).symm, Nat.le_refl _, fun _ h => absurd h List.not_mem_nil⟩

theorem toldAtMost_of_host {m : Nat} {s t u : State} (h : toldAtMost m s t) (k : u.host = t.host) : toldAtMost m s u := by
  unfold toldAtMost; rw [k]; exact h

theorem toldAtMost_trans {m k : Nat} {s t u : State} (h : toldAtMost m s t) (g : toldAtMost k t u) : toldAtMost (m + k) s u := by
  obtain ⟨xs, hx, lx, nx⟩ := h
  obtain ⟨ys, hy, ly, ny⟩ := g
  refine ⟨xs ++ ys, by rw [hy, hx, List.append_assoc], by rw [List.length_append]; omega, fun f hf => ?_⟩
  obtain hf | hf := List.mem_append.mp hf
  · exact nx f hf
  · exact ny f hf

theorem notify_outbound (s : State) (n : Notice) : (s.notify n).host.outbound = s.host.outbound
    ∨ (s.notify n).host.outbound = s.host.outbound ++ [.notice s.timeOfDay n] := by
  cases hq : pick s.host.reports n.kind.place with
  | false => rw [notify_quiet hq]; exact .inl rfl
  | true =>
    by_cases room : s.host.outbound.length < 24
    · rw [notify_room hq room]; exact .inr rfl
    · rw [notify_lost hq (by omega)]; exact .inl rfl

theorem notify_told {s : State} {n : Notice} (h : n.kind ≠ .input) : toldAtMost 1 s (s.notify n) := by
  obtain told | told := notify_outbound s n
  · exact ⟨[], told.trans (List.append_nil _).symm, Nat.zero_le _, fun _ h => absurd h List.not_mem_nil⟩
  · refine ⟨_, told, Nat.le_refl _, fun f hf time j l e => h ?_⟩
    rw [List.mem_singleton.mp hf] at e
    cases e
    rfl

theorem dropDebt_told (s : State) (n : Nat) : toldAtMost 1 s (s.dropDebt n) := by
  unfold State.dropDebt
  dsimp only
  split
  · exact notify_told (s := s.modTracker n fun t => { t with debt := 0, saturated := false })
      (show NoticeKind.sec ≠ NoticeKind.input by decide)
  · exact ⟨[], (List.append_nil _).symm, Nat.zero_le _, fun _ h => absurd h List.not_mem_nil⟩

theorem syncEdge_host (s : State) (n : Nat) (d : SectionDef) : (s.syncEdge n d).host = (s.dropDebt n).host := by
  unfold State.syncEdge
  dsimp only
  split
  · rfl
  · split
    · exact pitchRises_host ..
    · rfl

theorem syncEdge_told (s : State) (n : Nat) (d : SectionDef) : toldAtMost 1 s (s.syncEdge n d) :=
  toldAtMost_of_host (dropDebt_told s n) (syncEdge_host s n d)

/-! ## The sections that an input serves (R38, R42) -/

/-- The definition of section n, where the input k serves it so. -/
def servedBy (k : Nat) (input : SectionDef → Nat) (s : State) (n : Nat) : Option SectionDef :=
  (liveSection s n).bind fun d => if input d = k then some d else none

theorem servedBy_congr {s t : State} (hm : t.mode = s.mode) (hd : t.defs = s.defs) (k : Nat) (input : SectionDef → Nat)
    (n : Nat) : servedBy k input t n = servedBy k input s n := by
  unfold servedBy liveSection State.sectionDef
  rw [hm, hd]

theorem syncUser_eq (k : Nat) (s : State) (n : Nat) :
    State.syncUser k s n = (servedBy k SectionDef.syncInput s n).elim s (s.syncEdge n) := by
  unfold State.syncUser servedBy
  cases liveSection s n with
  | none => rfl
  | some d =>
    dsimp only [Option.bind]
    by_cases h : d.syncInput = k
    · rw [if_pos h, if_pos h]; rfl
    · rw [if_neg h, if_neg h]; rfl

theorem passUser_eq (k : Nat) (s : State) (n : Nat) :
    State.passUser k s n = (servedBy k SectionDef.passInput s n).elim s fun _ => s.passEdge n := by
  unfold State.passUser servedBy
  cases liveSection s n with
  | none => rfl
  | some d =>
    dsimp only [Option.bind]
    by_cases h : d.passInput = k
    · rw [if_pos h, if_pos h]; rfl
    · rw [if_neg h, if_neg h]; rfl

/-- Section n counts the actual by its pitches, and a sync edge of input k completes one. -/
def pitchSynced (k : Nat) (s : State) (n : Nat) : Prop :=
  s.defs.counting = n ∧ s.defs.source = .pitch ∧ s.shiftState ≠ .none
    ∧ ∃ d, servedBy k SectionDef.syncInput s n = some d ∧ (pick s.trackers n).phase ≠ 0
      ∧ d.pitch / 2 ≤ (pick s.trackers n).phase

/-- The shift with one body more. -/
def bodyMore (x : Option Shift) : Option Shift := x.map fun sh => { sh with actual := min 9999 (sh.actual + 1) }

/-- R38–R41: the sections js have taken the sync edges of input k. -/
structure SyncDone (k : Nat) (js : List Nat) (s t : State) : Prop where
  view : t.butShown =
    ({ s with trackers := t.trackers, stops := t.stops, calls := t.calls, shift := t.shift } : State).butShown
  tracker : ∀ n, 1 ≤ n → n ≤ 4 → pick t.trackers n =
    if n ∈ js then (servedBy k SectionDef.syncInput s n).elim (pick s.trackers n) fun d => (pick s.trackers n).synced d
    else pick s.trackers n
  stop : ∀ n, 1 ≤ n → n ≤ 4 → pick t.stops n =
    if n ∈ js then (servedBy k SectionDef.syncInput s n).elim (pick s.stops n) fun d =>
      { pick s.stops n with coast := syncCoast d (pick s.trackers n) (pick s.stops n).coast }
    else pick s.stops n
  calls : t.calls = s.calls.map fun c =>
    if c.sec ∈ js then (servedBy k SectionDef.syncInput s c.sec).elim c fun d =>
      { c with distance := syncDistance d (pick s.trackers c.sec) c.distance }
    else c
  counted : ∀ n ∈ js, pitchSynced k s n → t.shift = bodyMore s.shift
  uncounted : (∀ n ∈ js, ¬pitchSynced k s n) → t.shift = s.shift
  shows : Shows s t
  told : toldAtMost js.length s t

namespace SyncDone

theorem nil (k : Nat) (s : State) : SyncDone k [] s s where
  view := rfl
  tracker _ _ _ := (if_neg List.not_mem_nil).symm
  stop _ _ _ := (if_neg List.not_mem_nil).symm
  calls := by simp
  counted _ h := absurd h List.not_mem_nil
  uncounted _ := rfl
  shows := .refl s
  told := toldAtMost_refl s

variable {k : Nat} {js : List Nat} {s t : State}

theorem mode (h : SyncDone k js s t) : t.mode = s.mode := (congrArg State.mode h.view :)
theorem defs (h : SyncDone k js s t) : t.defs = s.defs := (congrArg State.defs h.view :)
theorem shiftState (h : SyncDone k js s t) : t.shiftState = s.shiftState := (congrArg State.shiftState h.view :)

/-- A section that input k does not serve. -/
theorem skip {n : Nat} (h : SyncDone k js s t) (hs : servedBy k SectionDef.syncInput s n = none) :
    SyncDone k (js ++ [n]) s t where
  view := h.view
  tracker m h1 h2 := by
    rw [h.tracker m h1 h2]
    by_cases hm : m = n
    · subst hm; rw [hs]; simp
    · simp [hm]
  stop m h1 h2 := by
    rw [h.stop m h1 h2]
    by_cases hm : m = n
    · subst hm; rw [hs]; simp
    · simp [hm]
  calls := by
    rw [h.calls]
    refine List.map_congr_left fun c _ => ?_
    by_cases hm : c.sec = n
    · rw [hm, hs]; simp
    · simp [hm]
  counted m hm hp := by
    obtain hm | hm := List.mem_append.mp hm
    · exact h.counted m hm hp
    · obtain ⟨-, -, -, d, hd, -⟩ := hp
      rw [List.mem_singleton.mp hm, hs] at hd
      cases hd
  uncounted hn := h.uncounted fun m hm => hn m (List.mem_append_left _ hm)
  shows := h.shows
  told := by
    obtain ⟨before, hb, hl, hi⟩ := h.told
    exact ⟨before, hb, by rw [List.length_append, List.length_singleton]; omega, hi⟩

theorem syncShift_eq {n : Nat} {d : SectionDef} (hd : servedBy k SectionDef.syncInput s n = some d)
    (hp : pick t.trackers n = pick s.trackers n) (hdefs : t.defs = s.defs) (hstate : t.shiftState = s.shiftState) :
    (pitchSynced k s n → syncShift t n d = bodyMore t.shift) ∧ (¬pitchSynced k s n → syncShift t n d = t.shift) := by
  unfold syncShift bodyCount
  rw [hp, hdefs, hstate]
  refine ⟨fun ⟨h1, h2, h3, e, he, h4, h5⟩ => ?_, fun hn => ?_⟩
  · rw [hd] at he
    cases he
    rw [if_neg h4, if_pos h5, if_pos ⟨h1, h2, h3⟩]
    rfl
  · split
    · rfl
    · split
      · next h4 h5 => exact if_neg fun ⟨h1, h2, h3⟩ => hn ⟨h1, h2, h3, d, hd, h4, h5⟩
      · rfl

/-- R38: the sync edge of one section more. -/
theorem edge {n : Nat} {d : SectionDef} (h : SyncDone k js s t) (hn : n ∉ js) (h1 : 1 ≤ n) (h2 : n ≤ 4)
    (hd : servedBy k SectionDef.syncInput s n = some d) : SyncDone k (js ++ [n]) s (t.syncEdge n d) := by
  have same : pick t.trackers n = pick s.trackers n := (h.tracker n h1 h2).trans (if_neg hn)
  have stopSame : pick t.stops n = pick s.stops n := (h.stop n h1 h2).trans (if_neg hn)
  have edge := syncEdge_butShown t n d
  have shown := syncEdge_shows t n d
  have told := syncEdge_told t n d
  obtain ⟨rises, stays⟩ := syncShift_eq hd same h.defs h.shiftState
  rw [same] at edge
  generalize t.syncEdge n d = u at edge shown told ⊢
  have trackers : u.trackers = alter t.trackers n (Tracker.synced d) := (congrArg State.trackers edge :)
  have stops : u.stops = alter t.stops n fun y => { y with coast := syncCoast d (pick s.trackers n) y.coast } :=
    (congrArg State.stops edge :)
  have calls : u.calls = t.calls.map fun c =>
      if c.sec = n then { c with distance := syncDistance d (pick s.trackers n) c.distance } else c :=
    (congrArg State.calls edge :)
  have shift : u.shift = syncShift t n d := (congrArg State.shift edge :)
  refine ⟨?_, fun m m1 m2 => ?_, fun m m1 m2 => ?_, ?_, fun m hm hp => ?_, fun hno => ?_, h.shows.trans shown, ?_⟩
  · have frame := (congrArg (fun y : State => ({ y with trackers := u.trackers, stops := u.stops, calls := u.calls, shift := u.shift } : State).butShown) h.view :)
    have own := (congrArg (fun y : State => ({ y with trackers := u.trackers, stops := u.stops, calls := u.calls, shift := u.shift } : State).butShown) edge :)
    exact own.trans frame
  · rw [trackers, pick_alter_within _ _ m1 m2]
    by_cases hm : m = n
    · subst hm
      rw [if_pos rfl, same, if_pos (by simp), hd]
      rfl
    · rw [if_neg hm, h.tracker m m1 m2]
      simp [hm]
  · rw [stops, pick_alter_within _ _ m1 m2]
    by_cases hm : m = n
    · subst hm
      rw [if_pos rfl, stopSame, if_pos (by simp), hd]
      rfl
    · rw [if_neg hm, h.stop m m1 m2]
      simp [hm]
  · rw [calls, h.calls, List.map_map]
    refine List.map_congr_left fun c _ => ?_
    by_cases hm : c.sec = n
    · have out : c.sec ∉ js := hm ▸ hn
      simp only [Function.comp, if_neg out, if_pos hm]
      rw [if_pos (by simp [hm]), hm, hd]
      rfl
    · by_cases hj : c.sec ∈ js
      · have kept : ((servedBy k SectionDef.syncInput s c.sec).elim c fun d =>
            { c with distance := syncDistance d (pick s.trackers c.sec) c.distance }).sec = c.sec := by
          cases servedBy k SectionDef.syncInput s c.sec <;> rfl
        simp only [Function.comp, if_pos hj, kept, if_neg hm]
        rw [if_pos (by simp [hj])]
      · simp only [Function.comp, if_neg hj, if_neg hm]
        rw [if_neg (by simp [hj, hm])]
  · rw [shift]
    obtain hm | hm := List.mem_append.mp hm
    · have other : ¬pitchSynced k s n := fun hq => hn (hq.1 ▸ hp.1 ▸ hm)
      rw [stays other, h.counted m hm hp]
    · rw [List.mem_singleton.mp hm] at hp
      rw [rises hp, h.uncounted fun j hj hq => hn (hp.1 ▸ hq.1.symm ▸ hj)]
  · rw [shift, stays (hno n (by simp)), h.uncounted fun m hm => hno m (List.mem_append_left _ hm)]
  · rw [List.length_append]
    exact toldAtMost_trans h.told told

theorem user {n : Nat} (h : SyncDone k js s t) (hn : n ∉ js) (h1 : 1 ≤ n) (h2 : n ≤ 4) :
    SyncDone k (js ++ [n]) s (State.syncUser k t n) := by
  rw [syncUser_eq, servedBy_congr h.mode h.defs]
  cases hd : servedBy k SectionDef.syncInput s n with
  | none => exact h.skip hd
  | some d => exact h.edge hn h1 h2 hd

theorem users {ns : List Nat} (h : SyncDone k js s t) (hn : (js ++ ns).Nodup) (hr : ∀ n ∈ ns, 1 ≤ n ∧ n ≤ 4) :
    SyncDone k (js ++ ns) s (ns.foldl (State.syncUser k) t) := by
  induction ns generalizing js t with
  | nil => rw [List.append_nil]; exact h
  | cons n ns ih =>
    have out : n ∉ js := fun hm => (List.nodup_append.mp hn).2.2 n hm n (List.mem_cons_self ..) rfl
    have first := h.user out (hr n (List.mem_cons_self ..)).1 (hr n (List.mem_cons_self ..)).2
    have split : js ++ n :: ns = js ++ [n] ++ ns := by rw [List.append_assoc]; rfl
    rw [split] at hn ⊢
    exact ih first hn fun m hm => hr m (List.mem_cons_of_mem _ hm)

end SyncDone

/-! ## Pass inputs (R42) -/

/-- Section n counts the actual by its pass input, which is input k. -/
def passCounted (k : Nat) (s : State) (n : Nat) : Prop :=
  s.defs.counting = n ∧ s.defs.source = .pass ∧ s.shiftState ≠ .none
    ∧ (servedBy k SectionDef.passInput s n).isSome = true

/-- R42: one pass more. -/
def Tracker.passed (x : Tracker) : Tracker :=
  { x with passCount := if x.passCount < 65535 then x.passCount + 1 else 0 }

theorem passEdge_butShown (s : State) (n : Nat) : (s.passEdge n).butShown =
    ({ s with trackers := alter s.trackers n Tracker.passed, shift := bodyCount s n .pass } : State).butShown := by
  have passed : (fun t : Tracker => { t with passCount := wrap 65535 t.passCount }) = Tracker.passed :=
    funext fun x => by rw [wrap_65535]; rfl
  rw [← passed]
  exact countRose_butShown ..

theorem passEdge_host (s : State) (n : Nat) : (s.passEdge n).host = s.host := countRose_host ..

theorem passEdge_shows (s : State) (n : Nat) : Shows s (s.passEdge n) :=
  (modTracker_shows ..).trans (ByOps.countRose ..).shows

/-- R42: the sections js have counted the passes of input k. -/
structure PassDone (k : Nat) (js : List Nat) (s t : State) : Prop where
  view : t.butShown = ({ s with trackers := t.trackers, shift := t.shift } : State).butShown
  tracker : ∀ n, 1 ≤ n → n ≤ 4 → pick t.trackers n =
    if n ∈ js ∧ (servedBy k SectionDef.passInput s n).isSome = true then (pick s.trackers n).passed else pick s.trackers n
  counted : ∀ n ∈ js, passCounted k s n → t.shift = bodyMore s.shift
  uncounted : (∀ n ∈ js, ¬passCounted k s n) → t.shift = s.shift
  shows : Shows s t
  host : t.host = s.host

namespace PassDone

theorem nil (k : Nat) (s : State) : PassDone k [] s s where
  view := rfl
  tracker _ _ _ := (if_neg fun h => List.not_mem_nil h.1).symm
  counted _ h := absurd h List.not_mem_nil
  uncounted _ := rfl
  shows := .refl s
  host := rfl

variable {k : Nat} {js : List Nat} {s t : State}

theorem mode (h : PassDone k js s t) : t.mode = s.mode := (congrArg State.mode h.view :)
theorem defs (h : PassDone k js s t) : t.defs = s.defs := (congrArg State.defs h.view :)
theorem shiftState (h : PassDone k js s t) : t.shiftState = s.shiftState := (congrArg State.shiftState h.view :)

theorem skip {n : Nat} (h : PassDone k js s t) (hs : servedBy k SectionDef.passInput s n = none) :
    PassDone k (js ++ [n]) s t where
  view := h.view
  tracker m h1 h2 := by
    rw [h.tracker m h1 h2]
    by_cases hm : m = n
    · subst hm; rw [hs]; simp
    · simp [hm]
  counted m hm hp := by
    obtain hm | hm := List.mem_append.mp hm
    · exact h.counted m hm hp
    · have served := hp.2.2.2
      rw [List.mem_singleton.mp hm, hs] at served
      cases served
  uncounted hn := h.uncounted fun m hm => hn m (List.mem_append_left _ hm)
  shows := h.shows
  host := h.host

/-- R42: the pass of one section more. -/
theorem edge {n : Nat} (h : PassDone k js s t) (hn : n ∉ js)
    (hd : (servedBy k SectionDef.passInput s n).isSome = true) : PassDone k (js ++ [n]) s (t.passEdge n) := by
  have edge := passEdge_butShown t n
  have shown := passEdge_shows t n
  have told := passEdge_host t n
  generalize t.passEdge n = u at edge shown told ⊢
  have trackers : u.trackers = alter t.trackers n Tracker.passed := (congrArg State.trackers edge :)
  have shift : u.shift = bodyCount t n .pass := (congrArg State.shift edge :)
  have rises : passCounted k s n → bodyCount t n .pass = bodyMore t.shift := fun ⟨h1, h2, h3, _⟩ => by
    unfold bodyCount
    rw [h.defs, h.shiftState]
    exact if_pos ⟨h1, h2, h3⟩
  have stays : ¬passCounted k s n → bodyCount t n .pass = t.shift := fun hno => by
    unfold bodyCount
    rw [h.defs, h.shiftState]
    exact if_neg fun ⟨h1, h2, h3⟩ => hno ⟨h1, h2, h3, hd⟩
  refine ⟨?_, fun m m1 m2 => ?_, fun m hm hp => ?_, fun hno => ?_, h.shows.trans shown, told.trans h.host⟩
  · have frame := (congrArg (fun y : State => ({ y with trackers := u.trackers, shift := u.shift } : State).butShown) h.view :)
    have own := (congrArg (fun y : State => ({ y with trackers := u.trackers, shift := u.shift } : State).butShown) edge :)
    exact own.trans frame
  · rw [trackers, pick_alter_within _ _ m1 m2, h.tracker m m1 m2]
    by_cases hm : m = n
    · subst hm
      rw [if_pos rfl, if_neg fun e => hn e.1, if_pos ⟨by simp, hd⟩]
    · rw [if_neg hm]
      simp [hm]
  · rw [shift]
    obtain hm | hm := List.mem_append.mp hm
    · have other : ¬passCounted k s n := fun hq => hn (hq.1 ▸ hp.1 ▸ hm)
      rw [stays other, h.counted m hm hp]
    · rw [List.mem_singleton.mp hm] at hp
      rw [rises hp, h.uncounted fun j hj hq => hn (hp.1 ▸ hq.1.symm ▸ hj)]
  · rw [shift, stays (hno n (by simp)), h.uncounted fun m hm => hno m (List.mem_append_left _ hm)]

theorem user {n : Nat} (h : PassDone k js s t) (hn : n ∉ js) : PassDone k (js ++ [n]) s (State.passUser k t n) := by
  rw [passUser_eq, servedBy_congr h.mode h.defs]
  cases hd : servedBy k SectionDef.passInput s n with
  | none => exact h.skip hd
  | some d => exact h.edge hn (by rw [hd]; rfl)

theorem users {ns : List Nat} (h : PassDone k js s t) (hn : (js ++ ns).Nodup) :
    PassDone k (js ++ ns) s (ns.foldl (State.passUser k) t) := by
  induction ns generalizing js t with
  | nil => rw [List.append_nil]; exact h
  | cons n ns ih =>
    have out : n ∉ js := fun hm => (List.nodup_append.mp hn).2.2 n hm n (List.mem_cons_self ..) rfl
    have split : js ++ n :: ns = js ++ [n] ++ ns := by rw [List.append_assoc]; rfl
    rw [split] at hn ⊢
    exact ih (h.user out) hn

end PassDone

/-! ## The whole edge (R38–R43, R46, R48, R49) -/

/-- R38–R42: a rising edge of input k has been counted. -/
theorem edgeCounted_done {s : State} {k : Nat} (h : inputLevel s k = true) :
    ∃ y, SyncDone k (numbers 4) s y ∧ PassDone k (numbers 4) y (s.edgeCounted k) := by
  have range : ∀ n ∈ numbers 4, 1 ≤ n ∧ n ≤ 4 := fun n hn => mem_numbers.mp hn
  have counted : s.edgeCounted k = (numbers 4).foldl (State.passUser k) ((numbers 4).foldl (State.syncUser k) s) := if_pos h
  have each := numbers_nodup 4
  rw [counted]
  generalize numbers 4 = ns at range each ⊢
  refine ⟨ns.foldl (State.syncUser k) s, ?_, ?_⟩
  · exact (SyncDone.nil k s).users (ns := ns) each range
  · exact (PassDone.nil k (ns.foldl (State.syncUser k) s)).users (ns := ns) each

theorem edgeCounted_falling {s : State} {k : Nat} (h : inputLevel s k = false) : s.edgeCounted k = s :=
  if_neg (by rw [h]; decide)

theorem edgeCounted_config {s : State} {k : Nat} (h : s.mode = .config) : s.edgeCounted k = s := by
  have live := liveSection_config h
  have sync : (numbers 4).foldl (State.syncUser k) s = s := foldl_fixed _ _ _ fun n _ => by
    unfold State.syncUser; rw [live]
  have pass : (numbers 4).foldl (State.passUser k) s = s := foldl_fixed _ _ _ fun n _ => by
    unfold State.passUser; rw [live]
  unfold State.edgeCounted
  rw [sync, pass, ite_self]

theorem edgeCounted_view (s : State) (k : Nat) : (s.edgeCounted k).butShown = ({ s with
    trackers := (s.edgeCounted k).trackers, stops := (s.edgeCounted k).stops, calls := (s.edgeCounted k).calls
    shift := (s.edgeCounted k).shift } : State).butShown := by
  cases h : inputLevel s k with
  | false => rw [edgeCounted_falling h]
  | true =>
    obtain ⟨y, sync, pass⟩ := edgeCounted_done h
    generalize s.edgeCounted k = c at pass ⊢
    have stops : c.stops = y.stops := (congrArg State.stops pass.view :)
    have calls : c.calls = y.calls := (congrArg State.calls pass.view :)
    rw [stops, calls]
    exact pass.view.trans (congrArg (fun z : State => ({ z with trackers := c.trackers, shift := c.shift } : State).butShown)
      sync.view :)

theorem edgeCounted_shows (s : State) (k : Nat) : Shows s (s.edgeCounted k) := by
  cases h : inputLevel s k with
  | false => rw [edgeCounted_falling h]; exact .refl s
  | true =>
    obtain ⟨y, sync, pass⟩ := edgeCounted_done h
    exact sync.shows.trans pass.shows

theorem edgeCounted_told (s : State) (k : Nat) : toldAtMost 4 s (s.edgeCounted k) := by
  cases h : inputLevel s k with
  | false =>
    rw [edgeCounted_falling h]
    exact ⟨[], (List.append_nil _).symm, Nat.zero_le _, fun _ h => absurd h List.not_mem_nil⟩
  | true =>
    obtain ⟨y, sync, pass⟩ := edgeCounted_done h
    exact toldAtMost_of_host sync.told pass.host

theorem runUser_butEquations (k : Nat) (s : State) (n : Nat) : (State.runUser k s n).butEquations = s.butEquations := by
  unfold State.runUser
  split
  · split
    · exact handOn_butEquations ..
    · rfl
  · rfl

theorem edgeRun_view (s : State) (k : Nat) : (s.edgeRun k).butEquations = s.butEquations :=
  (handOn_butEquations ..).trans (foldl_keeps State.butEquations _ (runUser_butEquations k) (numbers 4) s)

/-- R46: the state after an edge, but for the notice. -/
theorem takeInput_noticed (s : State) (k : Nat) : ∃ u : State, u.butEquations = ((s.inputTaken k).edgeCounted k).butEquations
    ∧ s.takeInput k = u.inputNotice k (inputLevel (s.inputTaken k) k) :=
  ⟨((s.inputTaken k).edgeCounted k).edgeRun k, edgeRun_view .., (takeInput_eq s k).trans (deliverEdge_eq ..)⟩

theorem inputTaken_level {s : State} {k : Nat} (h1 : 1 ≤ k) (h2 : k ≤ 16) :
    inputLevel (s.inputTaken k) k = ((pick s.inputs k).raw != (pick s.defs.links.inputs k).invert) := by
  unfold inputLevel
  rw [inputTaken_inputs s k h1 h2, if_pos rfl]
  rfl

/-- R48: the notice of an edge is its last. -/
theorem inputNotice_last {s u : State} {k : Nat} {level : Bool} (told : toldAtMost 4 s u)
    (reports : u.host.reports = s.host.reports) (defs : u.defs = s.defs) (time : u.timeOfDay = s.timeOfDay) :
    ∃ before, (∀ f ∈ before, ∀ time j l, f ≠ .notice time (.input j l))
      ∧ (pick s.host.reports 8 = true → s.host.outbound.length < 20 → edgeTold s k level = true →
        (u.inputNotice k level).host.outbound = s.host.outbound ++ before ++ [.notice s.timeOfDay (.input k level)])
      ∧ (pick s.host.reports 8 = false ∨ edgeTold s k level = false →
        (u.inputNotice k level).host.outbound = s.host.outbound ++ before) := by
  obtain ⟨before, hb, hl, hi⟩ := told
  have same : edgeTold u k level = edgeTold s k level := by unfold edgeTold; rw [defs]
  refine ⟨before, hi, fun hr room ht => ?_, fun h => ?_⟩
  · rw [inputNotice_eq, same, ht, if_pos rfl, notify_room (by rw [reports]; exact hr)
      (by rw [hb, List.length_append]; omega), hb, time]
  · rw [inputNotice_eq, same]
    obtain hq | hq := h
    · split
      · rw [notify_quiet (n := .input k level) (by rw [reports]; exact hq), hb]
      · exact hb
    · rw [hq]
      exact hb

/-- R38–R42: a section's tracker after a rising edge. -/
theorem edgeTracker_of (k : Nat) (d : SectionDef) (x : Tracker) : edgeTracker k d x
    (if d.passInput = k then (if d.syncInput = k then x.synced d else x).passed
      else if d.syncInput = k then x.synced d else x) := by
  have fields : ∀ y : Tracker, (if d.passInput = k then y.passed else y) = { y with
      passCount := if d.passInput = k then (if y.passCount < 65535 then y.passCount + 1 else 0) else y.passCount } := fun y => by
    split <;> rfl
  rw [fields]
  unfold edgeTracker jumpsForward jumpsBackward
  by_cases sync : d.syncInput = k
  · rw [if_pos sync]
    unfold Tracker.synced
    by_cases aligned : x.phase = 0
    · rw [if_pos aligned]
      simp [sync, aligned]
    · rw [if_neg aligned]
      by_cases forward : d.pitch / 2 ≤ x.phase
      · rw [if_pos forward]
        simp [sync, aligned, forward, Tracker.jumped]
        rfl
      · rw [if_neg forward]
        have backward : x.phase < d.pitch / 2 := by omega
        simp [sync, aligned, forward, backward]
  · rw [if_neg sync]
    simp [sync]

/-- R55, R57: the stop distance of a call after a rising edge. -/
theorem edgeDistance_of (k : Nat) (d : SectionDef) (x : Tracker) (distance : Option Nat) :
    edgeDistance k d x distance (if d.syncInput = k then syncDistance d x distance else distance) := by
  unfold edgeDistance jumpsForward jumpsBackward syncDistance
  by_cases sync : d.syncInput = k
  · rw [if_pos sync]
    by_cases aligned : x.phase = 0
    · rw [if_pos aligned]
      simp [aligned]
    · rw [if_neg aligned]
      by_cases forward : d.pitch / 2 ≤ x.phase
      · rw [if_pos forward]
        simp [sync, aligned, forward]
      · rw [if_neg forward]
        have backward : x.phase < d.pitch / 2 := by omega
        simp [sync, aligned, forward, backward]
  · rw [if_neg sync]
    simp [sync]

theorem servedBy_defined {s : State} {n : Nat} {d : SectionDef} (hm : s.mode = .run) (hd : s.sectionDef n = some d) (k : Nat)
    (input : SectionDef → Nat) : servedBy k input s n = if input d = k then some d else none := by
  unfold servedBy
  rw [liveSection_some hm hd]
  rfl

theorem servedBy_undefined {s : State} {n : Nat} (hd : s.sectionDef n = none) (k : Nat) (input : SectionDef → Nat) :
    servedBy k input s n = none := by
  unfold servedBy
  rw [liveSection_none (.inr hd)]
  rfl

/-- What the counting section does of a rising edge. -/
theorem edge_counts {s y c : State} {k : Nat} (sync : SyncDone k (numbers 4) s y) (pass : PassDone k (numbers 4) y c)
    (hm : s.mode = .run) {d : SectionDef} (hd : s.sectionDef s.defs.counting = some d) (h1 : 1 ≤ s.defs.counting)
    (h2 : s.defs.counting ≤ 4) :
    (s.shiftState ≠ .none → (s.defs.source = .pass ∧ d.passInput = k)
        ∨ (s.defs.source = .pitch ∧ jumpsForward k d (pick s.trackers s.defs.counting)) → c.shift = bodyMore s.shift)
      ∧ (s.shiftState = .none ∨ ¬((s.defs.source = .pass ∧ d.passInput = k)
        ∨ (s.defs.source = .pitch ∧ jumpsForward k d (pick s.trackers s.defs.counting))) → c.shift = s.shift) := by
  have mem : s.defs.counting ∈ numbers 4 := mem_numbers.mpr ⟨h1, h2⟩
  have defs := sync.defs
  have state := sync.shiftState
  have syncing := servedBy_defined hm hd k SectionDef.syncInput
  have passing : servedBy k SectionDef.passInput y s.defs.counting = if d.passInput = k then some d else none := by
    rw [servedBy_congr sync.mode sync.defs]
    exact servedBy_defined hm hd k SectionDef.passInput
  have byPitch : ∀ n ∈ numbers 4, pitchSynced k s n → s.defs.source = .pitch ∧ s.shiftState ≠ .none
      ∧ jumpsForward k d (pick s.trackers s.defs.counting) := by
    rintro n - ⟨rfl, hsource, hstate, e, he, h3, h4⟩
    rw [syncing] at he
    split at he
    · next hk => cases he; exact ⟨hsource, hstate, hk, h3, h4⟩
    · cases he
  have byPass : ∀ n ∈ numbers 4, passCounted k y n → s.defs.source = .pass ∧ s.shiftState ≠ .none ∧ d.passInput = k := by
    rintro n - ⟨hcount, hsource, hstate, served⟩
    rw [defs] at hcount hsource
    subst hcount
    rw [passing] at served
    split at served
    · next hk => exact ⟨hsource, state ▸ hstate, hk⟩
    · cases served
  refine ⟨fun hstate hcounts => ?_, fun hnot => ?_⟩
  · obtain ⟨hsource, hk⟩ | ⟨hsource, hk, h3, h4⟩ := hcounts
    · have counted : passCounted k y s.defs.counting :=
        ⟨by rw [defs], by rw [defs]; exact hsource, by rw [state]; exact hstate, by rw [passing, if_pos hk]; rfl⟩
      have quiet : ∀ n ∈ numbers 4, ¬pitchSynced k s n := fun n hn hp => by
        have := (byPitch n hn hp).1
        rw [hsource] at this
        cases this
      rw [pass.counted _ mem counted, sync.uncounted quiet]
    · have counted : pitchSynced k s s.defs.counting := ⟨rfl, hsource, hstate, d, by rw [syncing, if_pos hk], h3, h4⟩
      have quiet : ∀ n ∈ numbers 4, ¬passCounted k y n := fun n hn hp => by
        have := (byPass n hn hp).1
        rw [hsource] at this
        cases this
      rw [pass.uncounted quiet, sync.counted _ mem counted]
  · have noPass : ∀ n ∈ numbers 4, ¬passCounted k y n := fun n hn hp => by
      obtain ⟨h3, h4, h5⟩ := byPass n hn hp
      exact hnot.elim (fun e => absurd e h4) fun e => e (.inl ⟨h3, h5⟩)
    have noPitch : ∀ n ∈ numbers 4, ¬pitchSynced k s n := fun n hn hp => by
      obtain ⟨h3, h4, h5⟩ := byPitch n hn hp
      exact hnot.elim (fun e => absurd e h4) fun e => e (.inr ⟨h3, h5⟩)
    rw [pass.uncounted noPass, sync.uncounted noPitch]

/-- R38–R42: section n after a rising edge. -/
theorem edge_section {s y c : State} {k n : Nat} (sync : SyncDone k (numbers 4) s y) (pass : PassDone k (numbers 4) y c)
    (hm : s.mode = .run) (h1 : 1 ≤ n) (h2 : n ≤ 4) :
    (s.sectionDef n = none → pick c.trackers n = pick s.trackers n)
      ∧ (∀ d, s.sectionDef n = some d → edgeTracker k d (pick s.trackers n) (pick c.trackers n))
      ∧ (∀ d, s.sectionDef n = some d → jumpsForward k d (pick s.trackers n) → pick c.stops n = { pick s.stops n with
          coast := min 65535 ((pick s.stops n).coast + (d.pitch - (pick s.trackers n).phase)) })
      ∧ ((∀ d, s.sectionDef n = some d → ¬ jumpsForward k d (pick s.trackers n)) → pick c.stops n = pick s.stops n) := by
  have mem : n ∈ numbers 4 := mem_numbers.mpr ⟨h1, h2⟩
  have stops : c.stops = y.stops := (congrArg State.stops pass.view :)
  have tracker := pass.tracker n h1 h2
  have stop := sync.stop n h1 h2
  rw [servedBy_congr sync.mode sync.defs, sync.tracker n h1 h2, if_pos mem] at tracker
  rw [if_pos mem] at stop
  rw [stops]
  refine ⟨fun hd => ?_, fun d hd => ?_, fun d hd hj => ?_, fun hj => ?_⟩
  · rw [servedBy_undefined hd, servedBy_undefined hd] at tracker
    rw [tracker, if_neg fun e => by cases e.2]
    rfl
  · rw [servedBy_defined hm hd, servedBy_defined hm hd] at tracker
    have whole := edgeTracker_of k d (pick s.trackers n)
    rw [tracker]
    by_cases hs : d.syncInput = k
    · rw [if_pos hs] at whole ⊢
      by_cases hp : d.passInput = k
      · rw [if_pos hp] at whole; rw [if_pos hp, if_pos ⟨mem, rfl⟩]; exact whole
      · rw [if_neg hp] at whole; rw [if_neg hp, if_neg fun e => by cases e.2]; exact whole
    · rw [if_neg hs] at whole ⊢
      by_cases hp : d.passInput = k
      · rw [if_pos hp] at whole; rw [if_pos hp, if_pos ⟨mem, rfl⟩]; exact whole
      · rw [if_neg hp] at whole; rw [if_neg hp, if_neg fun e => by cases e.2]; exact whole
  · obtain ⟨hk, h3, h4⟩ := hj
    have coast : ∀ y, syncCoast d (pick s.trackers n) y = min 65535 (y + (d.pitch - (pick s.trackers n).phase)) :=
      fun _ => (if_neg h3).trans (if_pos h4)
    rw [stop, servedBy_defined hm hd, if_pos hk, ← coast]
    rfl
  · rw [stop]
    cases hd : s.sectionDef n with
    | none => rw [servedBy_undefined hd]; rfl
    | some d =>
      rw [servedBy_defined hm hd]
      split
      · next hk =>
        show ({ pick s.stops n with coast := syncCoast d (pick s.trackers n) (pick s.stops n).coast } : StopLogic) = _
        have coast : syncCoast d (pick s.trackers n) (pick s.stops n).coast = (pick s.stops n).coast := by
          unfold syncCoast
          split
          · rfl
          · split
            · next h3 h4 => exact absurd ⟨hk, h3, h4⟩ (hj d hd)
            · rfl
        rw [coast]
      · rfl

/-- R55, R57: the calls after a rising edge. -/
theorem edge_calls {s y c : State} {k : Nat} (sync : SyncDone k (numbers 4) s y) (pass : PassDone k (numbers 4) y c)
    (hm : s.mode = .run) : c.calls.length = s.calls.length
      ∧ ∀ (i : Nat) (x : Call), s.calls[i]? = some x → 1 ≤ x.sec → x.sec ≤ 4 →
        ∃ distance, c.calls[i]? = some { x with distance := distance }
          ∧ (s.sectionDef x.sec = none → distance = x.distance)
          ∧ ∀ d, s.sectionDef x.sec = some d → edgeDistance k d (pick s.trackers x.sec) x.distance distance := by
  have calls : c.calls = y.calls := (congrArg State.calls pass.view :)
  rw [calls, sync.calls]
  refine ⟨List.length_map .., fun i x hx h1 h2 => ?_⟩
  rw [List.getElem?_map, hx, Option.map_some, if_pos (mem_numbers.mpr ⟨h1, h2⟩)]
  cases hd : s.sectionDef x.sec with
  | none =>
    rw [servedBy_undefined hd]
    exact ⟨x.distance, rfl, fun _ => rfl, nofun⟩
  | some d =>
    rw [servedBy_defined hm hd]
    have moved := edgeDistance_of k d (pick s.trackers x.sec) x.distance
    refine ⟨if d.syncInput = k then syncDistance d (pick s.trackers x.sec) x.distance else x.distance, ?_, nofun,
      fun e he => by cases he; exact moved⟩
    split <;> rfl

/-- Settles O45. -/
theorem inputDebounceTaken : Obligations.InputDebounceTaken := by
  unfold Obligations.InputDebounceTaken
  intro s k level hs h1 h2 hlevel
  have taken : exec (.inputDebounceExpiry k) s = .next (if (pick s.inputs k).timing then s.takeInput k else s) := by
    show execInputDebounceExpiry k s = _
    unfold execInputDebounceExpiry
    rw [if_pos (within_of_le h1 h2), settled_takeDue hs]
  refine ⟨fun ht => ?_, fun ht => ?_⟩
  · rw [taken, ht]; rfl
  rw [ht, if_pos rfl] at taken
  have raised : inputLevel (s.inputTaken k) k = level := (inputTaken_level h1 h2).trans hlevel.symm
  obtain ⟨u, hu, hx⟩ := takeInput_noticed s k
  rw [raised] at hx
  have view := edgeCounted_view (s.inputTaken k) k
  have shows := edgeCounted_shows (s.inputTaken k) k
  have told := edgeCounted_told (s.inputTaken k) k
  have counted := edgeCounted_done (s := s.inputTaken k) (k := k)
  have falling := edgeCounted_falling (s := s.inputTaken k) (k := k)
  have still := edgeCounted_config (s := s.inputTaken k) (k := k)
  rw [raised] at counted falling
  generalize (s.inputTaken k).edgeCounted k = c at hu view shows told counted falling still
  have noticed := inputNotice_butHost u k level
  have notified := inputNotice_notified u k level
  have host : u.host = c.host := (congrArg State.host hu :)
  have boards : u.boards = c.boards := (congrArg State.boards hu :)
  have fields : u.fields = c.fields := (congrArg State.fields hu :)
  have whole : (u.inputNotice k level).butShown = c.butShown :=
    (congrArg State.butShown noticed :).trans (congrArg State.butShown hu :)
  have last := inputNotice_last (s := s.inputTaken k) (u := u) (k := k) (level := level)
    (toldAtMost_of_host told host) (by rw [host]; exact (congrArg HostLink.reports shows.host.rest :))
    ((congrArg State.defs hu :).trans (congrArg State.defs view :))
    ((congrArg State.timeOfDay hu :).trans (congrArg State.timeOfDay view :))
  have seen : Shows s (u.inputNotice k level) := by
    refine .trans (t := c) (.trans (t := s.inputTaken k) (.of_eq rfl rfl rfl) shows) ⟨fun b => ?_, fun b f => ?_, ?_⟩
    · rw [show (u.inputNotice k level).boards = c.boards from (congrArg State.boards noticed :).trans boards]
    · rw [show (u.inputNotice k level).fields = c.fields from (congrArg State.fields noticed :).trans fields]
    · exact host ▸ notified
  have config : s.mode = .config → u.inputNotice k level = (s.inputTaken k).inputNotice k level := fun hm => by
    rw [← hx, takeInput_eq, deliverEdge_config (s := s.inputTaken k) hm, raised]
  rw [hx] at taken
  generalize u.inputNotice k level = t at noticed notified whole last seen taken config
  have trackers : t.trackers = c.trackers := (congrArg State.trackers whole :)
  have stops : t.stops = c.stops := (congrArg State.stops whole :)
  have calls : t.calls = c.calls := (congrArg State.calls whole :)
  have shift : t.shift = c.shift := (congrArg State.shift whole :)
  have inputs : t.inputs = (s.inputTaken k).inputs := (congrArg State.inputs (whole.trans view) :)
  have defs : t.defs = s.defs := (congrArg State.defs (whole.trans view) :)
  refine ⟨t, taken, ?_, fun hm => ?_, fun h => ?_, fun hm hl => ?_, fun n d hd hr => ?_, last⟩
  · refine sameButShown_of_change (s := s) ⟨rfl, rfl, rfl⟩ ?_ seen
    rw [trackers, stops, calls, shift]
    exact whole.trans view
  · have quiet : t.butHost = (s.inputTaken k).butHost := by rw [config hm]; exact inputNotice_butHost ..
    rw [inputs]
    exact eq_with_host_of_butHost quiet
  · have same : c = s.inputTaken k := h.elim (fun hm => still hm) falling
    rw [trackers, stops, calls, shift, same]
    exact ⟨rfl, rfl, rfl, rfl⟩
  · obtain ⟨y, sync, pass⟩ := counted hl
    rw [trackers, stops, calls, shift]
    obtain ⟨hlen, hcalls⟩ := edge_calls (s := s.inputTaken k) sync pass hm
    exact ⟨fun n n1 n2 => edge_section (s := s.inputTaken k) sync pass hm n1 n2, hlen, hcalls, fun d hd c1 c2 => edge_counts (s := s.inputTaken k) sync pass hm hd c1 c2⟩
  · have known : t.sectionDef n = some d := by unfold State.sectionDef at hd ⊢; rw [defs]; exact hd
    have reads : inputLevel t k = level := by
      rw [← raised]
      unfold inputLevel
      rw [inputs, defs]
      rfl
    unfold runLevel
    rw [known]
    show sensorLevel t d.runInput = some level
    unfold sensorLevel
    rw [hr, if_neg (by omega), reads]

end Sys2Proof.Machine
end

section
/-! PROOFS. Polling: which station a loop polls next, and its cycles (R78, R90). -/

namespace Sys2Proof.Machine

/-! ## The next address (R78) -/

theorem wrap_7 (n : Nat) : wrap 7 n = if n < 7 then n + 1 else 0 := by
  unfold wrap
  by_cases h : n < 7
  · rw [if_pos h, if_neg (by omega)]
  · rw [if_neg h, if_pos (by omega)]

theorem modLoop_modLoop (s : State) (l : LoopId) (f g : LoopState → LoopState) :
    (s.modLoop l f).modLoop l g = s.modLoop l fun x => g (f x) := by
  cases l <;> rfl

theorem modLoop_congr {s : State} {l : LoopId} {f g : LoopState → LoopState} (h : f (s.loop l) = g (s.loop l)) :
    s.modLoop l f = s.modLoop l g := by
  cases l
  · exact congrArg (fun x => { s with loopA := x }) h
  · exact congrArg (fun x => { s with loopB := x }) h

theorem addressOf_stationAt (l : LoopId) {a : Nat} (h1 : 1 ≤ a) (h2 : a ≤ 48) : addressOf (stationAt l a) = a := by
  cases l with
  | a => exact if_pos h2
  | b => exact (if_neg (by show ¬a + 48 ≤ 48; omega)).trans (Nat.add_sub_cancel ..)

theorem toPoll_modLoop (s : State) (l k : LoopId) (f : LoopState → LoopState) (cycle a : Nat) :
    toPoll (s.modLoop k f) l cycle a = toPoll s l cycle a := by
  cases k <;> rfl

theorem toPoll_iff (s : State) (l : LoopId) (cycle a : Nat) : toPoll s l cycle a = true ↔
    (s.stationDef (stationAt l a)).isSome = true ∧ ((pick s.stations (stationAt l a)).state = .online
      ∨ (pick s.stations (stationAt l a)).state = .unknown
      ∨ ((pick s.stations (stationAt l a)).state = .offline ∧ cycle = 0)) := by
  unfold toPoll
  rw [Bool.and_eq_true]
  refine and_congr_right fun _ => ?_
  cases (pick s.stations (stationAt l a)).state <;> simp

/-- R78: the lowest address above the last one that the cycle polls. -/
theorem nextAddress_eq_some {s : State} {l : LoopId} {cycle a : Nat} {last : Option Nat} (h1 : last.getD 0 < a) (h2 : a ≤ 48)
    (ha : toPoll s l cycle a = true) (below : ∀ k, last.getD 0 < k → k < a → toPoll s l cycle k = false) :
    nextAddress s l cycle last = some a := by
  unfold nextAddress
  obtain ⟨before, after, whole, hb, -⟩ := numbers_split (show 1 ≤ a by omega) h2
  rw [whole, List.find?_append, List.find?_eq_none.mpr fun k hk => ?_, Option.none_or,
    List.find?_cons_of_pos (by rw [decide_eq_true h1, ha]; rfl)]
  rw [Bool.and_eq_true, not_and, decide_eq_true_eq]
  intro hl
  rw [below k hl (hb k hk).2]
  exact Bool.false_ne_true

theorem nextAddress_eq_none {s : State} {l : LoopId} {cycle : Nat} {last : Option Nat}
    (h : ∀ a, last.getD 0 < a → a ≤ 48 → toPoll s l cycle a = false) : nextAddress s l cycle last = none := by
  unfold nextAddress
  rw [List.find?_eq_none]
  intro a ha
  obtain ⟨h1, h2⟩ := mem_numbers.mp ha
  rw [Bool.and_eq_true, not_and, decide_eq_true_eq]
  intro hl
  rw [h a hl h2]
  exact Bool.false_ne_true

/-! ## Announcements owed (R89, R90) -/

theorem pendingFrames_modLoop {s : State} {l : LoopId} {f : LoopState → LoopState}
    (h : (f (s.loop l)).zonesOwed = (s.loop l).zonesOwed ∧ (f (s.loop l)).stationsOwed = (s.loop l).stationsOwed
      ∧ (f (s.loop l)).announcements = (s.loop l).announcements) :
    pendingFrames (s.modLoop l f) l = pendingFrames s l := by
  obtain ⟨h1, h2, h3⟩ := h
  have zone : zoneFrame (s.modLoop l f) l = zoneFrame s l := funext fun z => by
    unfold zoneFrame State.zoneDef
    rw [modLoop_loop, h3, modLoop_defs]
  have station : stationFrame (s.modLoop l f) l = stationFrame s l := funext fun n => by
    unfold stationFrame State.stationDef
    rw [modLoop_loop, h3, modLoop_defs]
  unfold pendingFrames
  rw [zone, station, modLoop_loop, h1, h2]

/-- R90: no frame is pending only where none is owed. -/
theorem owed_of_pendingFrames {s : State} {l : LoopId} (h : pendingFrames s l = []) :
    (s.loop l).zonesOwed = [] ∧ (s.loop l).stationsOwed = [] := by
  unfold pendingFrames at h
  dsimp only at h
  split at h
  · next e =>
    obtain ⟨e1, e2⟩ := Bool.and_eq_true_iff.mp e
    exact ⟨List.isEmpty_iff.mp e1, List.isEmpty_iff.mp e2⟩
  · exact absurd h (by simp)

theorem loopUsed_iff (s : State) (l : LoopId) :
    loopUsed s l = true ↔ ∃ a, 1 ≤ a ∧ a ≤ 48 ∧ (s.stationDef (stationAt l a)).isSome = true := by
  unfold loopUsed
  rw [List.any_eq_true]
  exact exists_congr fun a => by rw [mem_numbers, and_assoc]

theorem owesNothing {x : LoopState} (hz : x.zonesOwed = []) (hs : x.stationsOwed = []) :
    x = { x with zonesOwed := [], stationsOwed := [] } := by
  cases x
  cases hz
  cases hs
  rfl

/-- R90: the frames sent with no poll. -/
theorem sendPending_used {s : State} {l : LoopId} (h : loopUsed s l = true) : s.sendPending l = s.modLoop l fun x =>
    { x with zonesOwed := [], stationsOwed := [], sent := if pendingFrames s l = [] then x.sent else pendingFrames s l } := by
  unfold State.sendPending
  rw [h]
  cases hp : pendingFrames s l with
  | nil =>
    obtain ⟨hz, hs⟩ := owed_of_pendingFrames hp
    have same : s = s.modLoop l fun x => x := by cases l <;> rfl
    refine same.trans (modLoop_congr ?_)
    rw [if_pos rfl]
    exact owesNothing hz hs
  | cons f fs => exact modLoop_congr (by rw [if_neg (by simp)])

theorem sendPending_unused {s : State} {l : LoopId} (h : loopUsed s l = false) : s.sendPending l = s := by
  unfold State.sendPending
  rw [h]

theorem loopUsed_modLoop (s : State) (l k : LoopId) (f : LoopState → LoopState) :
    loopUsed (s.modLoop k f) l = loopUsed s l := by
  cases k <;> rfl

/-! ## The poll and the end of a cycle (R78) -/

/-- R78: the next cycle of a loop. -/
def nextCycle (s : State) (l : LoopId) : Nat := if (s.loop l).cycle < 7 then (s.loop l).cycle + 1 else 0

theorem endCycle_eq (s : State) (l : LoopId) :
    s.endCycle l = s.modLoop l fun x => { x with cycle := if x.cycle < 7 then x.cycle + 1 else 0, last := none } := by
  unfold State.endCycle
  exact modLoop_congr (by rw [wrap_7])

theorem endCycle_loop (s : State) (l : LoopId) :
    ((s.endCycle l).loop l) = { s.loop l with cycle := nextCycle s l, last := none } := by
  rw [endCycle_eq, modLoop_loop]
  rfl

theorem endCycle_pending (s : State) (l : LoopId) : pendingFrames (s.endCycle l) l = pendingFrames s l :=
  pendingFrames_modLoop ⟨rfl, rfl, rfl⟩

theorem endCycle_toPoll (s : State) (l : LoopId) (cycle a : Nat) : toPoll (s.endCycle l) l cycle a = toPoll s l cycle a :=
  toPoll_modLoop ..

theorem sendPoll_eq (s : State) (l : LoopId) {a : Nat} (h1 : 1 ≤ a) (h2 : a ≤ 48) : s.sendPoll l a = s.modLoop l fun x =>
    { x with
      last := some a, polled := some (stationAt l a), started := false, receiver := .outside, zonesOwed := []
      stationsOwed := []
      sent := pendingFrames s l ++ [.poll a (pick s.stations (stationAt l a)).ackThrough
        (pick s.stations (stationAt l a)).rejected (pick s.stations (stationAt l a)).lamp] } := by
  unfold State.sendPoll pollFrame
  rw [addressOf_stationAt l h1 h2]

theorem endCycle_next (s : State) (l : LoopId) :
    nextAddress (s.endCycle l) l ((s.endCycle l).loop l).cycle none = nextAddress s l (nextCycle s l) none := by
  rw [endCycle_loop]
  unfold nextAddress
  exact congrArg (fun p => List.find? p (numbers 48)) (funext fun a => by rw [endCycle_toPoll])

/-- R78: a poll sent. -/
theorem pollStep_next {s : State} {l : LoopId} {a : Nat} (h : nextAddress s l (s.loop l).cycle (s.loop l).last = some a) :
    s.pollStep l = s.sendPoll l a := by
  unfold State.pollStep
  rw [h]

theorem pollStep_idle {s : State} {l : LoopId} (h : nextAddress s l (s.loop l).cycle (s.loop l).last = none)
    (hl : (s.loop l).last = none) : s.pollStep l = s := by
  unfold State.pollStep
  rw [h]
  dsimp only
  rw [hl]
  exact if_pos rfl

theorem pollStep_ends {s : State} {l : LoopId} (h : nextAddress s l (s.loop l).cycle (s.loop l).last = none)
    (hl : (s.loop l).last ≠ none) {o : Option Nat} (ho : nextAddress s l (nextCycle s l) none = o) :
    s.pollStep l = o.elim ((s.endCycle l).sendPending l) fun a => (s.endCycle l).sendPoll l a := by
  unfold State.pollStep
  rw [h]
  dsimp only
  rw [if_neg (by rw [Option.isNone_iff_eq_none]; exact hl), endCycle_next, ho]
  cases o <;> rfl

theorem exec_pollSent {s : State} {l : LoopId} (hs : settled s = true) (hm : s.mode = .run) (hp : (s.loop l).polled = none) :
    exec (.pollSent l) s = .next (s.pollStep l) := by
  show Host.Outcome.next _ = _
  rw [settled_takeDue hs]
  exact congrArg Host.Outcome.next (if_pos ⟨hm, hp⟩)

/-- R78: an idle cycle is one with no station to poll. -/
theorem idleCycle_iff (s : State) (l : LoopId) : idleCycle s l = true ↔ (s.loop l).polled = none ∧ (s.loop l).last = none
    ∧ ∀ a, 1 ≤ a → a ≤ 48 → toPoll s l (s.loop l).cycle a = false := by
  have next : nextAddress s l (s.loop l).cycle none = none ↔ ∀ a, 1 ≤ a → a ≤ 48 → toPoll s l (s.loop l).cycle a = false := by
    refine ⟨fun h a h1 h2 => ?_, fun h => nextAddress_eq_none (last := none) fun a ha h2 => h a ha h2⟩
    unfold nextAddress at h
    have missed := List.find?_eq_none.mp h a (mem_numbers.mpr ⟨h1, h2⟩)
    rw [show decide ((none : Option Nat).getD 0 < a) = true from decide_eq_true h1, Bool.true_and, Bool.not_eq_true] at missed
    exact missed
  unfold idleCycle
  rw [Bool.and_eq_true, Bool.and_eq_true, Option.isNone_iff_eq_none, Option.isNone_iff_eq_none, Option.isNone_iff_eq_none,
    next, and_assoc]

theorem endCycle_idle_iff {s : State} {l : LoopId} (hp : (s.loop l).polled = none) :
    idleCycle (s.endCycle l) l = true ↔ ∀ a, 1 ≤ a → a ≤ 48 → toPoll s l (nextCycle s l) a = false := by
  rw [idleCycle_iff, endCycle_loop]
  simp only [endCycle_toPoll]
  exact ⟨fun ⟨_, _, h⟩ => h, fun h => ⟨hp, trivial, h⟩⟩

/-- Settles O47. -/
theorem pollTaken : Obligations.PollTaken := by
  unfold Obligations.PollTaken
  intro s l hs
  have idleRuns : exec (.idleCycleEnd l) s = .next (if s.mode = .run ∧ idleCycle s l = true then s.endIdleCycle l else s) := by
    show Host.Outcome.next _ = _
    rw [settled_takeDue hs]
  have used : (∃ a, 1 ≤ a ∧ a ≤ 48 ∧ (s.stationDef (stationAt l a)).isSome = true) → loopUsed s l = true :=
    (loopUsed_iff s l).mpr
  have unused : (∀ a, 1 ≤ a → a ≤ 48 → (s.stationDef (stationAt l a)).isSome = false) → loopUsed s l = false := fun h => by
    rw [← Bool.not_eq_true, loopUsed_iff]
    rintro ⟨a, h1, h2, h3⟩
    rw [h a h1 h2] at h3
    cases h3
  refine ⟨fun cycle a _ _ => toPoll_iff s l cycle a, fun h => ?_, fun hm hp hl hn => ?_, fun h => ?_, fun hm hp hl hn hc => ?_,
    fun hm hp hl hn => ?_, fun a hm hp h1 h2 => ⟨fun hla ha below => ?_, fun hl hn ha below => ?_⟩⟩
  · rw [idleRuns, if_neg]
    rintro ⟨hm, hidle⟩
    obtain ⟨hp, hl, hn⟩ := (idleCycle_iff s l).mp hidle
    obtain hc | hq | hq | ⟨a, h1, h2, ha⟩ := h
    · rw [hm] at hc; cases hc
    · exact hq hp
    · exact hq hl
    · rw [hn a h1 h2] at ha; cases ha
  · have ends : exec (.idleCycleEnd l) s = .next (s.endIdleCycle l) := by
      rw [idleRuns, if_pos ⟨hm, (idleCycle_iff s l).mpr ⟨hp, hl, hn⟩⟩]
    have cycle := endCycle_loop s l
    by_cases further : idleCycle (s.endCycle l) l = true
    · have stays : s.endIdleCycle l = (s.endCycle l).sendPending l := if_pos further
      have next := (endCycle_idle_iff hp).mp further
      have polls : ∀ a, 1 ≤ a → a ≤ 48 → ¬toPoll s l (nextCycle s l) a = true := fun a h1 h2 h => by
        rw [next a h1 h2] at h; cases h
      cases hu : loopUsed s l with
      | true =>
        have usedNext : loopUsed (s.endCycle l) l = true := (loopUsed_modLoop ..).trans hu
        rw [sendPending_used usedNext, endCycle_pending, endCycle_eq, modLoop_modLoop] at stays
        refine ⟨_, ends.trans (congrArg Host.Outcome.next stays), ?_, fun a h1 h2 h => absurd h (polls a h1 h2), fun h => ?_,
          fun _ _ => ?_⟩
        · rw [modLoop_loop]; exact modLoop_congr rfl
        · rw [unused h] at hu; cases hu
        · rw [modLoop_loop]; exact ⟨rfl, rfl, rfl⟩
      | false =>
        have unusedNext : loopUsed (s.endCycle l) l = false := (loopUsed_modLoop ..).trans hu
        rw [sendPending_unused unusedNext] at stays
        refine ⟨s.endCycle l, ends.trans (congrArg Host.Outcome.next stays), ?_, fun a h1 h2 h => absurd h (polls a h1 h2),
          fun _ => ?_, fun h => ?_⟩
        · rw [cycle, endCycle_eq]
          exact modLoop_congr rfl
        · rw [cycle]; exact ⟨rfl, rfl, rfl⟩
        · rw [used h] at hu; cases hu
    · have stays : s.endIdleCycle l = s.endCycle l := if_neg further
      refine ⟨s.endCycle l, ends.trans (congrArg Host.Outcome.next stays), ?_, fun _ _ _ _ => ?_, fun _ => ?_,
        fun _ none => absurd ((endCycle_idle_iff hp).mpr none) further⟩
      · rw [cycle, endCycle_eq]
        exact modLoop_congr rfl
      · rw [cycle]; exact ⟨rfl, rfl, rfl⟩
      · rw [cycle]; exact ⟨rfl, rfl, rfl⟩
  · show Host.Outcome.next _ = _
    rw [settled_takeDue hs]
    refine congrArg Host.Outcome.next (if_neg fun ⟨hm, hp⟩ => ?_)
    obtain hc | hq := h
    · rw [hm] at hc; cases hc
    · exact hq hp
  · have stepped := pollStep_ends (nextAddress_eq_none hn) hl (nextAddress_eq_none fun a ha => hc a ha)
    rw [exec_pollSent hs hm hp, stepped]
    refine ⟨fun h => congrArg Host.Outcome.next ?_, fun h => congrArg Host.Outcome.next ?_⟩
    · show (s.endCycle l).sendPending l = _
      have usedNext : loopUsed (s.endCycle l) l = true := (loopUsed_modLoop ..).trans (used h)
      rw [sendPending_used usedNext, endCycle_pending, endCycle_eq, modLoop_modLoop]
    · show (s.endCycle l).sendPending l = _
      have unusedNext : loopUsed (s.endCycle l) l = false := (loopUsed_modLoop ..).trans (unused h)
      rw [sendPending_unused unusedNext, endCycle_eq]
  · rw [exec_pollSent hs hm hp, pollStep_idle (nextAddress_eq_none fun a ha h2 => ?_) hl]
    rw [hl] at ha
    exact hn a ha h2
  · rw [exec_pollSent hs hm hp, pollStep_next (nextAddress_eq_some hla h2 ha below), sendPoll_eq s l h1 h2]
  · have stepped := pollStep_ends (nextAddress_eq_none hn) hl
      (nextAddress_eq_some (last := none) (show 0 < a by omega) h2 ha fun k hk => below k hk)
    rw [exec_pollSent hs hm hp, stepped]
    show Host.Outcome.next ((s.endCycle l).sendPoll l a) = _
    rw [sendPoll_eq _ l h1 h2, endCycle_pending, endCycle_eq, modLoop_modLoop, modLoop_stations]

end Sys2Proof.Machine
end

section
/-! PROOFS. Serving: marked fields served into a board queue (R167). -/

namespace Sys2Proof.Machine

/-! ## What a content reads (R156–R161) -/

/-- R156: the content of a field reads the boards and the fields only for its own text. -/
theorem contentOf_congr {s t : State} (h : t.butLink = s.butLink) {b f : Nat}
    (ht : (pick (pick t.fields b) f).text = (pick (pick s.fields b) f).text) (d : FieldDef) :
    contentOf t b f d = contentOf s b f d := by
  have apart : d.kind ≠ .text → ∀ x : State, contentOf x b f d = contentOf x.butLink b f d := fun hk x => by
    unfold contentOf
    cases hd : d.kind with
    | text => exact absurd hd hk
    | zone z => rfl
    | list scope rank => cases scope <;> rfl
    | count fig => rfl
    | shift => rfl
    | clock => rfl
  by_cases hk : d.kind = .text
  · unfold contentOf
    rw [hk]
    dsimp only
    rw [ht]
  · rw [apart hk t, apart hk s, h]

theorem frameOf_eq (s : State) {b f : Nat} {d : FieldDef} (hd : s.fieldDef b f = some d) :
    frameOf s b f = fieldFrame f d (contentOf s b f d) := by
  unfold frameOf fieldFrame
  rw [hd]

theorem frameOf_congr {s t : State} (h : t.butLink = s.butLink) {b f : Nat}
    (ht : (pick (pick t.fields b) f).text = (pick (pick s.fields b) f).text) : frameOf t b f = frameOf s b f := by
  have defs : t.fieldDef b f = s.fieldDef b f := by
    unfold State.fieldDef
    rw [show t.defs = s.defs from (congrArg State.defs h :)]
  unfold frameOf
  rw [defs]
  cases s.fieldDef b f with
  | none => rfl
  | some d => dsimp only; rw [contentOf_congr h ht]

/-! ## The order of serving (R167) -/

/-- The marked fields of a board of one priority. -/
def markedAt (s : State) (b p : Nat) : List Nat :=
  (numbers 12).filter fun f => (pick (pick s.fields b) f).marked && match s.fieldDef b f with
    | some d => d.kind.priority == p
    | none => false

theorem markedFields_eq (s : State) (b : Nat) : markedFields s b = [3, 2, 1].flatMap (markedAt s b) := rfl

theorem frameOf_priority (s : State) {b f : Nat} {d : FieldDef} (hd : s.fieldDef b f = some d) :
    (frameOf s b f).priority = d.kind.priority := by rw [frameOf_eq s hd]; rfl

theorem mem_markedAt {s : State} {b p f : Nat} : f ∈ markedAt s b p ↔ 1 ≤ f ∧ f ≤ 12
    ∧ (pick (pick s.fields b) f).marked = true ∧ (s.fieldDef b f).isSome = true ∧ (frameOf s b f).priority = p := by
  unfold markedAt
  rw [List.mem_filter, mem_numbers, Bool.and_eq_true, and_assoc]
  refine and_congr_right fun _ => and_congr_right fun _ => and_congr_right fun _ => ?_
  cases hd : s.fieldDef b f with
  | none => simp
  | some d =>
    rw [frameOf_priority s hd]
    simp

theorem priority_positive (k : FieldKind) : k.priority = 3 ∨ k.priority = 2 ∨ k.priority = 1 := by
  cases k with
  | zone z => exact .inl rfl
  | list scope rank => exact .inr (.inl rfl)
  | count fig => exact .inr (.inr rfl)
  | shift => exact .inr (.inr rfl)
  | clock => exact .inr (.inr rfl)
  | text => exact .inr (.inr rfl)

theorem mem_markedFields {s : State} {b f : Nat} : f ∈ markedFields s b ↔ 1 ≤ f ∧ f ≤ 12
    ∧ (pick (pick s.fields b) f).marked = true ∧ (s.fieldDef b f).isSome = true := by
  rw [markedFields_eq, List.mem_flatMap]
  refine ⟨fun ⟨p, _, h⟩ => ?_, fun ⟨h1, h2, h3, h4⟩ => ?_⟩
  · obtain ⟨h1, h2, h3, h4, -⟩ := mem_markedAt.mp h
    exact ⟨h1, h2, h3, h4⟩
  · obtain ⟨d, hd⟩ := Option.isSome_iff_exists.mp h4
    refine ⟨(frameOf s b f).priority, ?_, mem_markedAt.mpr ⟨h1, h2, h3, h4, rfl⟩⟩
    rw [frameOf_priority s hd]
    have := priority_positive d.kind
    simpa using this

theorem numbers_ascending (n : Nat) : (numbers n).Pairwise (· < ·) := by
  unfold numbers
  exact List.pairwise_map.mpr (List.pairwise_lt_range.imp fun h => Nat.succ_lt_succ h)

theorem markedAt_ascending (s : State) (b p : Nat) : (markedAt s b p).Pairwise (· < ·) :=
  (numbers_ascending 12).sublist List.filter_sublist

theorem markedFields_order (s : State) (b : Nat) : servingOrder s b (markedFields s b) := by
  refine ⟨fun f => mem_markedFields, ?_⟩
  rw [markedFields_eq, List.pairwise_flatMap]
  refine ⟨fun p _ => (markedAt_ascending s b p).imp_of_mem fun hf hg hlt => ?_, ?_⟩
  · obtain ⟨-, -, -, -, pf⟩ := mem_markedAt.mp hf
    obtain ⟨-, -, -, -, pg⟩ := mem_markedAt.mp hg
    exact .inr ⟨pg.trans pf.symm, hlt⟩
  · have falling : [3, 2, 1].Pairwise fun p q => q < p := by decide
    refine falling.imp fun hlt f hf g hg => ?_
    obtain ⟨-, -, -, -, pf⟩ := mem_markedAt.mp hf
    obtain ⟨-, -, -, -, pg⟩ := mem_markedAt.mp hg
    exact .inl (by rw [pf, pg]; exact hlt)

theorem markedFields_nodup (s : State) (b : Nat) : (markedFields s b).Nodup := by
  have order := (markedFields_order s b).2
  refine order.imp fun h e => ?_
  subst e
  obtain h | h := h
  · exact Nat.lt_irrefl _ h
  · exact Nat.lt_irrefl _ h.2

/-! ## Fields served (R167) -/

/-- R167: a queued frame of a served field takes the new content. -/
def servedIn (s : State) (b : Nat) (fs : List Nat) (x : BoardFrame) : BoardFrame :=
  if x.field ∈ fs then
    { x with content := (frameOf s b x.field).content, reconfirm := x.reconfirm || decide (0 < x.attempts) }
  else x

/-- R167: the fields fs of board b have been served. -/
structure FieldsServed (s : State) (b : Nat) (fs : List Nat) (t : State) : Prop where
  view : t.butBoards = s.butBoards
  queue : (pick t.boards b).queue = (pick s.boards b).queue.map (servedIn s b fs)
    ++ (fs.filter fun f => (pick s.boards b).queue.all fun x => x.field != f).map (frameOf s b)
  board : pick t.boards b = { pick s.boards b with queue := (pick t.boards b).queue }
  others : ∀ m, 1 ≤ m → m ≤ 8 → m ≠ b → pick t.boards m = pick s.boards m
  field : ∀ f, 1 ≤ f → f ≤ 12 → pick (pick t.fields b) f =
    if f ∈ fs then { pick (pick s.fields b) f with last := (frameOf s b f).content, marked := false }
    else pick (pick s.fields b) f
  fields : ∀ m f, 1 ≤ m → m ≤ 8 → m ≠ b → pick (pick t.fields m) f = pick (pick s.fields m) f

theorem servedIn_field (s : State) (b : Nat) (fs : List Nat) (x : BoardFrame) : (servedIn s b fs x).field = x.field := by
  unfold servedIn; split <;> rfl

theorem enqueue_present {depth : Nat} {fr : BoardFrame} {c : Content} {x : Board}
    (h : (x.queue.any fun q => q.field == fr.field) = true) : enqueue depth fr c x =
      { x with queue := x.queue.map fun q => if q.field = fr.field then supersede q c else q } := if_pos h

theorem enqueue_absent {depth : Nat} {fr : BoardFrame} {c : Content} {x : Board}
    (h : (x.queue.any fun q => q.field == fr.field) = false) (room : x.queue.length < depth) :
    enqueue depth fr c x = { x with queue := x.queue ++ [fr] } :=
  (if_neg (by rw [h]; decide)).trans (if_pos room)

theorem supersede_servedIn {s : State} {b f : Nat} {fs : List Nat} {c : Content} (hf : f ∉ fs)
    (hc : (frameOf s b f).content = some c) (x : BoardFrame) :
    (if (servedIn s b fs x).field = f then supersede (servedIn s b fs x) c else servedIn s b fs x) =
      servedIn s b (fs ++ [f]) x := by
  rw [servedIn_field]
  unfold servedIn
  by_cases h : x.field = f
  · subst h
    rw [if_pos rfl, if_neg hf, if_pos (by simp), hc]
    rfl
  · rw [if_neg h]
    simp [h]

theorem servedIn_absent {s : State} {b f : Nat} {fs : List Nat} {q : List BoardFrame}
    (h : (q.any fun x => x.field == f) = false) : q.map (servedIn s b (fs ++ [f])) = q.map (servedIn s b fs) := by
  refine List.map_congr_left fun x hx => ?_
  have other : x.field ≠ f := fun e => List.any_eq_false.mp h x hx (beq_iff_eq.mpr e)
  unfold servedIn
  simp [other]

theorem all_field_ne (q : List BoardFrame) (f : Nat) : (q.all fun x => x.field != f) = !(q.any fun x => x.field == f) := by
  rw [List.not_any_eq_all_not]
  rfl

namespace FieldsServed

variable {s t : State} {b : Nat} {fs : List Nat}

theorem nil (s : State) (b : Nat) : FieldsServed s b [] s where
  view := rfl
  queue := by
    have same : servedIn s b [] = id := funext fun x => if_neg List.not_mem_nil
    rw [same, List.map_id, List.filter_nil, List.map_nil, List.append_nil]
  board := rfl
  others _ _ _ _ := rfl
  field _ _ _ := (if_neg List.not_mem_nil).symm
  fields _ _ _ _ _ := rfl

/-- R167: the queue holds a frame of a field not served only where it held one. -/
theorem holds_iff (h : FieldsServed s b fs t) {f : Nat} (hf : f ∉ fs) (hk : ∀ g ∈ fs, (frameOf s b g).field = g) :
    ((pick t.boards b).queue.any fun x => x.field == f) = (pick s.boards b).queue.any fun x => x.field == f := by
  have added : ((fs.filter fun g => (pick s.boards b).queue.all fun x => x.field != g).map (frameOf s b)).any
      (fun x => x.field == f) = false := by
    rw [List.any_eq_false]
    intro x hx
    obtain ⟨g, hg, rfl⟩ := List.mem_map.mp hx
    have mem := List.mem_of_mem_filter hg
    rw [hk g mem, beq_iff_eq]
    rintro rfl
    exact hf mem
  rw [h.queue, List.any_append, added, Bool.or_false, List.any_map]
  exact congrArg (List.any _) (funext fun x => by rw [Function.comp, servedIn_field])

/-- R164, R167: one field more is served, where there is room. -/
theorem step {f depth : Nat} (h : FieldsServed s b fs t) (hb : 1 ≤ b ∧ b ≤ 8) (hf : f ∉ fs) (f1 : 1 ≤ f) (f2 : f ≤ 12)
    (hd : (s.fieldDef b f).isSome = true) (hk : ∀ g ∈ fs, (frameOf s b g).field = g)
    (room : (pick s.boards b).queue.length + fs.length < depth) : FieldsServed s b (fs ++ [f]) (serveField depth b t f) := by
  obtain ⟨d, hd⟩ := Option.isSome_iff_exists.mp hd
  have defs : t.defs = s.defs := (congrArg State.defs h.view :)
  have known : t.fieldDef b f = some d := by unfold State.fieldDef at hd ⊢; rw [defs]; exact hd
  have before := (h.field f f1 f2).trans (if_neg hf)
  have content : contentOf t b f d = contentOf s b f d := contentOf_congr (butLink_of_boards h.view) (by rw [before]) d
  have frame := frameOf_eq s hd
  have served : serveField depth b t f = ((t.modField b f fun x => { x with last := (frameOf s b f).content, marked := false }).modBoard
      b (enqueue depth (frameOf s b f) (contentOf s b f d))) := by
    unfold serveField
    rw [known]
    dsimp only
    rw [content, frame]
    rfl
  obtain ⟨b1, b2⟩ := hb
  have hc : (frameOf s b f).content = some (contentOf s b f d) := by rw [frame]; rfl
  have own : (frameOf s b f).field = f := by rw [frame]; rfl
  have holds := h.holds_iff hf hk
  have absent := all_field_ne (pick s.boards b).queue f
  have board : pick (serveField depth b t f).boards b = enqueue depth (frameOf s b f) (contentOf s b f d) (pick t.boards b) := by
    rw [served, modBoard_boards, pick_alter, if_pos ⟨rfl, b1, b2⟩]
    rfl
  have queue : (pick (serveField depth b t f).boards b).queue = (pick s.boards b).queue.map (servedIn s b (fs ++ [f]))
      ++ ((fs ++ [f]).filter fun f => (pick s.boards b).queue.all fun x => x.field != f).map (frameOf s b)
      ∧ pick (serveField depth b t f).boards b =
        { pick s.boards b with queue := (pick (serveField depth b t f).boards b).queue } := by
    rw [board]
    cases present : (pick s.boards b).queue.any fun x => x.field == f with
    | true =>
      rw [present] at holds absent
      rw [enqueue_present (by rw [own]; exact holds)]
      refine ⟨?_, by rw [h.board]⟩
      dsimp only
      rw [own, h.queue, List.map_append, List.map_map, List.filter_append, List.filter_singleton, absent, Bool.not_true,
        cond_false, List.append_nil]
      congr 1
      · exact List.map_congr_left fun x _ => supersede_servedIn hf hc x
      · rw [List.map_map]
        refine List.map_congr_left fun g hg => ?_
        have mem := List.mem_of_mem_filter hg
        refine if_neg ?_
        rw [hk g mem]
        rintro rfl
        exact hf mem
    | false =>
      have fits : (pick t.boards b).queue.length < depth := by
        rw [h.queue, List.length_append, List.length_map, List.length_map]
        have := List.length_filter_le (fun f => (pick s.boards b).queue.all fun x => x.field != f) fs
        omega
      rw [present] at holds absent
      rw [enqueue_absent (by rw [own]; exact holds) fits]
      refine ⟨?_, by rw [h.board]⟩
      dsimp only
      rw [h.queue, servedIn_absent present, List.filter_append, List.filter_singleton, absent, Bool.not_false, cond_true,
        List.map_append, List.append_assoc]
      rfl
  have record : ∀ m k, pick (pick (serveField depth b t f).fields m) k =
      if m = b ∧ k = f then { pick (pick t.fields m) k with last := (frameOf s b f).content, marked := false }
      else pick (pick t.fields m) k := fun m k => by
    rw [served, modBoard_fields, pick_modField]
    by_cases hm : m = b ∧ k = f
    · rw [if_pos hm, if_pos ⟨hm.1, hm.2, b1, b2, f1, f2⟩]
    · rw [if_neg hm, if_neg fun e => hm ⟨e.1, e.2.1⟩]
  refine ⟨?_, queue.1, queue.2, fun m m1 m2 hm => ?_, fun k k1 k2 => ?_, fun m k m1 m2 hm => ?_⟩
  · rw [served]; exact h.view
  · rw [served, modBoard_boards, pick_alter_within _ _ m1 m2, if_neg hm]
    exact h.others m m1 m2 hm
  · rw [record, h.field k k1 k2]
    by_cases hkf : k = f
    · subst hkf
      rw [if_pos ⟨rfl, rfl⟩, if_neg hf, if_pos (by simp)]
    · rw [if_neg fun e => hkf e.2]
      simp [hkf]
  · rw [record, if_neg fun e => hm e.1]
    exact h.fields m k m1 m2 hm

/-- R167: the fields served one after the other. -/
theorem all {depth : Nat} {gs : List Nat} (hb : 1 ≤ b ∧ b ≤ 8) (h : FieldsServed s b fs t) (hn : (fs ++ gs).Nodup)
    (hm : ∀ f ∈ fs ++ gs, 1 ≤ f ∧ f ≤ 12 ∧ (s.fieldDef b f).isSome = true)
    (room : gs ≠ [] → (pick s.boards b).queue.length + (fs ++ gs).length ≤ depth) :
    FieldsServed s b (fs ++ gs) (gs.foldl (serveField depth b) t) := by
  induction gs generalizing fs t with
  | nil => rw [List.append_nil]; exact h
  | cons g gs ih =>
    have split : fs ++ g :: gs = fs ++ [g] ++ gs := by rw [List.append_assoc]; rfl
    have out : g ∉ fs := fun e => (List.nodup_append.mp hn).2.2 g e g (List.mem_cons_self ..) rfl
    obtain ⟨g1, g2, g3⟩ := hm g (List.mem_append_right _ (List.mem_cons_self ..))
    have fits := room (List.cons_ne_nil _ _)
    have keys : ∀ k ∈ fs, (frameOf s b k).field = k := fun k hk => by
      obtain ⟨d, hd⟩ := Option.isSome_iff_exists.mp (hm k (List.mem_append_left _ hk)).2.2
      rw [frameOf_eq s hd]; rfl
    have next := h.step (depth := depth) hb out g1 g2 g3 keys (by
      rw [List.length_append, List.length_cons] at fits; omega)
    rw [split] at hn hm fits ⊢
    exact ih next hn hm fun _ => fits

end FieldsServed

/-- R167: what a board's marked fields do where no CLEAR's delivery is awaited. -/
theorem serve_served {s : State} {b depth : Nat} (b1 : 1 ≤ b) (b2 : b ≤ 8) (hd : s.boardDepth b = some depth)
    (hc : (pick s.boards b).clearing = false) :
    FieldsServed s b ((markedFields s b).take (depth - (pick s.boards b).queue.length)) (s.serve b) := by
  have served : s.serve b = ((markedFields s b).take (depth - (pick s.boards b).queue.length)).foldl (serveField depth b) s := by
    unfold State.serve
    rw [hd]
    dsimp only
    rw [hc]
    rfl
  rw [served]
  refine (FieldsServed.nil s b).all ⟨b1, b2⟩ ?_ (fun f hf => ?_) fun hne => ?_
  · exact (markedFields_nodup s b).sublist (List.take_sublist ..)
  · obtain ⟨h1, h2, -, h4⟩ := mem_markedFields.mp (List.mem_of_mem_take hf)
    exact ⟨h1, h2, h4⟩
  · rw [List.nil_append]
    have := List.length_take_le (depth - (pick s.boards b).queue.length) (markedFields s b)
    have positive : depth - (pick s.boards b).queue.length ≠ 0 := fun e => hne (by rw [e, List.take_zero])
    omega

theorem serve_clearing {s : State} {b : Nat} (hc : (pick s.boards b).clearing = true) : s.serve b = s := by
  unfold State.serve
  split
  · exact if_pos hc
  · rfl

theorem serve_undefined {s : State} {b : Nat} (hd : s.boardDepth b = none) : s.serve b = s := by
  unfold State.serve
  rw [hd]

/-- R167: the marked fields served, as the obligations say it, from a state s with the same fields. -/
theorem marksServed_of_served {s u t : State} {b depth : Nat} {q : List BoardFrame} (hv : u.butLink = s.butLink)
    (hf : u.fields = s.fields) (hd : s.boardDepth b = some depth) (hq : (pick u.boards b).queue = q)
    (h : FieldsServed u b ((markedFields u b).take (depth - q.length)) t) : marksServed s t b q := by
  have frames : frameOf u b = frameOf s b := funext fun f => frameOf_congr hv (by rw [hf])
  have defs : u.defs = s.defs := (congrArg State.defs hv :)
  have marks : markedFields u b = markedFields s b := by
    unfold markedFields State.fieldDef
    rw [hf, defs]
  have inside : servedIn u b = servedIn s b := funext fun fs => funext fun x => by
    unfold servedIn
    rw [frames]
  have queue := h.queue
  have field := h.field
  have fields := h.fields
  rw [marks, frames, hq, inside] at queue
  rw [marks, frames, hf] at field
  rw [hf] at fields
  refine ⟨markedFields s b, _, markedFields_order s b, rfl, ?_, ?_, fields⟩
  · rw [hd]
    exact queue
  · rw [hd]
    exact field

end Sys2Proof.Machine
end

section
/-! PROOFS. BoardSending: which frame goes out on the board link (R173–R175). -/

namespace Sys2Proof.Machine

/-! ## Choosing the board and the frame (R174) -/

theorem hasWork_iff (s : State) (b : Nat) : hasWork s b = true ↔ (s.boardDepth b).isSome = true
    ∧ (((pick s.boards b).state = .dark ∧ (pick s.boards b).probeDue = true)
      ∨ ((pick s.boards b).state ≠ .dark ∧ (pick s.boards b).queue ≠ [])) := by
  unfold hasWork
  rw [Bool.and_eq_true]
  refine and_congr_right fun _ => ?_
  by_cases dark : (pick s.boards b).state = .dark
  · rw [if_pos dark]
    simp [dark]
  · rw [if_neg dark]
    simp [dark]

theorem foldl_max_eq {ps : List Nat} {a m : Nat} (ha : a ≤ m) (hp : ∀ p ∈ ps, p ≤ m) (hm : a = m ∨ m ∈ ps) :
    ps.foldl max a = m := by
  induction ps generalizing a with
  | nil => exact hm.elim id fun h => absurd h List.not_mem_nil
  | cons p ps ih =>
    have hpm := hp p (List.mem_cons_self ..)
    rw [List.foldl_cons]
    refine ih (by omega) (fun q hq => hp q (List.mem_cons_of_mem _ hq)) ?_
    obtain rfl | h := hm
    · exact .inl (by omega)
    · obtain rfl | h := List.mem_cons.mp h
      · exact .inl (by omega)
      · exact .inr h

/-- R174: the frame of the highest priority nearest the head. -/
theorem chosenFrame_split {before after : List BoardFrame} {fr : BoardFrame} (hb : ∀ x ∈ before, x.priority < fr.priority)
    (ha : ∀ x ∈ after, x.priority ≤ fr.priority) : chosenFrame (before ++ fr :: after) = some fr := by
  have highest : highestPriority (before ++ fr :: after) = fr.priority := by
    refine foldl_max_eq (Nat.zero_le _) (fun p hp => ?_) (.inr ?_)
    · obtain ⟨x, hx, rfl⟩ := List.mem_map.mp hp
      obtain hx | hx := List.mem_append.mp hx
      · exact (hb x hx).le
      · obtain rfl | hx := List.mem_cons.mp hx
        · exact le_rfl
        · exact ha x hx
    · exact List.mem_map_of_mem (by simp)
  unfold chosenFrame
  rw [highest, List.find?_append, List.find?_eq_none.mpr fun x hx => by
    have := hb x hx
    simp only [beq_iff_eq]
    omega, Option.none_or, List.find?_cons_of_pos (by simp)]

theorem erase_chosen {before after : List BoardFrame} {fr : BoardFrame} (hb : ∀ x ∈ before, x.priority < fr.priority) :
    (before ++ fr :: after).erase fr = before ++ after := by
  rw [List.erase_append_right _ fun h => Nat.lt_irrefl _ (hb fr h), List.erase_cons_head]

/-- R173: the first board with work after the round-robin position. -/
theorem nextBoard_first {s : State} {k b : Nat} (h1 : 1 ≤ k) (h2 : k ≤ 8) (hb : b = (s.link.position + k - 1) % 8 + 1)
    (hw : hasWork s b = true) (hj : ∀ j, 1 ≤ j → j < k → hasWork s ((s.link.position + j - 1) % 8 + 1) = false) :
    nextBoard s = some b := by
  obtain ⟨before, after, whole, hbefore, -⟩ := numbers_split h1 h2
  unfold nextBoard searchOrder
  rw [whole, List.map_append, List.map_cons, ← hb, List.find?_append, List.find?_eq_none.mpr fun x hx => ?_, Option.none_or,
    List.find?_cons_of_pos hw]
  obtain ⟨j, hj', rfl⟩ := List.mem_map.mp hx
  rw [hj j (hbefore j hj').1 (hbefore j hj').2]
  exact Bool.false_ne_true

theorem nextBoard_none {s : State} (h : ∀ b, 1 ≤ b → b ≤ 8 → hasWork s b = false) : nextBoard s = none := by
  unfold nextBoard searchOrder
  rw [List.find?_eq_none]
  intro x hx
  obtain ⟨j, -, rfl⟩ := List.mem_map.mp hx
  rw [h _ (by omega) (by omega)]
  exact Bool.false_ne_true

theorem exec_boardFrameSent {s : State} {b : Nat} (hs : settled s = true) (hm : s.mode = .run) (hf : s.link.inFlight = none)
    (hb : nextBoard s = some b) : exec .boardFrameSent s = .next (s.sendTo b) := by
  show execBoardFrameSent s = _
  unfold execBoardFrameSent
  rw [settled_takeDue hs]
  dsimp only
  rw [if_pos ⟨hm, hf⟩, hb]

/-- R175: the frame in flight to board b. -/
def State.flown (s : State) (b : Nat) (x : Flight) : State :=
  { s with link := { s.link with inFlight := some x, position := b, started := false, receiver := .outside } }

theorem sendTo_dark {s : State} {b : Nat} (h : (pick s.boards b).state = .dark) :
    s.sendTo b = { s.flown b (.probe b) with boards := alter s.boards b fun x => { x with probeDue := false } } :=
  if_pos h

theorem sendTo_probe {s : State} {b : Nat} (h : (pick s.boards b).state ≠ .dark) (ht : (pick s.boards b).toggle = none) :
    s.sendTo b = s.flown b (.probe b) := by
  unfold State.sendTo
  dsimp only
  rw [if_neg h, ht]
  rfl

/-- R174: the state with the chosen frame taken from the queue and in flight. -/
def State.launched (s : State) (b : Nat) (fr : BoardFrame) (toggle : Bool) (left : List BoardFrame) : State :=
  { s.flown b (.field b { fr with attempts := min 255 (fr.attempts + 1) } toggle) with
    boards := alter s.boards b fun x => { x with queue := left } }

theorem sendTo_field {s : State} {b : Nat} {toggle : Bool} {before after : List BoardFrame} {fr : BoardFrame}
    (h : (pick s.boards b).state ≠ .dark) (ht : (pick s.boards b).toggle = some toggle)
    (hq : (pick s.boards b).queue = before ++ fr :: after) (hb : ∀ x ∈ before, x.priority < fr.priority)
    (ha : ∀ x ∈ after, x.priority ≤ fr.priority) :
    s.sendTo b = (s.launched b fr toggle (before ++ after)).serve b := by
  have queue : alter s.boards b (fun x => { x with queue := x.queue.erase fr }) =
      alter s.boards b fun x => { x with queue := before ++ after } :=
    alter_congr_at _ (by rw [hq, erase_chosen hb])
  unfold State.sendTo
  dsimp only
  rw [if_neg h, ht, hq, chosenFrame_split hb ha]
  unfold State.sendField State.launched
  rw [← queue]
  rfl

/-- Settles O51. -/
theorem boardFrameSentTaken : Obligations.BoardFrameSentTaken := by
  unfold Obligations.BoardFrameSentTaken
  intro s hs
  refine ⟨fun b _ _ => hasWork_iff s b, fun h => ?_, fun k b hm hf h1 h2 hb hw hj => ?_⟩
  · show execBoardFrameSent s = _
    unfold execBoardFrameSent
    rw [settled_takeDue hs]
    dsimp only
    split
    · next hc =>
      obtain h | h | h := h
      · rw [hc.1] at h; cases h
      · exact absurd hc.2 h
      · rw [nextBoard_none h]
    · rfl
  have next := nextBoard_first h1 h2 hb hw hj
  obtain ⟨b1, b2, hd⟩ := nextBoard_spec next
  have sent := exec_boardFrameSent hs hm hf next
  refine ⟨fun dark => ?_, fun hnd ht => ?_, fun toggle before fr after hnd ht hq hbefore hafter => ?_⟩
  · rw [sent, sendTo_dark dark]
    rfl
  · rw [sent, sendTo_probe hnd ht]
    rfl
  rw [sendTo_field hnd ht hq hbefore hafter] at sent
  have here : pick (s.launched b fr toggle (before ++ after)).boards b =
      { pick s.boards b with queue := before ++ after } := by
    show pick (alter s.boards b _) b = _
    rw [pick_alter_within _ _ b1 b2, if_pos rfl]
  have away : ∀ m, 1 ≤ m → m ≤ 8 → m ≠ b → pick (s.launched b fr toggle (before ++ after)).boards m = pick s.boards m :=
    fun m m1 m2 hm => by
      show pick (alter s.boards b _) m = _
      rw [pick_alter_within _ _ m1 m2, if_neg hm]
  have fields : (s.launched b fr toggle (before ++ after)).fields = s.fields := rfl
  have view : (s.launched b fr toggle (before ++ after)).butLink = s.butLink := rfl
  have frame := eq_of_butBoards (serve_butBoards (s.launched b fr toggle (before ++ after)) b)
  obtain ⟨depth, hdepth⟩ := Option.isSome_iff_exists.mp hd
  have depthHere : (s.launched b fr toggle (before ++ after)).boardDepth b = some depth := hdepth
  refine ⟨_, sent, frame, fun m m1 m2 hm => ?_, fun hc => ?_, fun hc => ?_⟩
  · cases hc : (pick s.boards b).clearing with
    | true => rw [serve_clearing (by rw [here]; exact hc)]; exact away m m1 m2 hm
    | false => rw [(serve_served b1 b2 depthHere (by rw [here]; exact hc)).others m m1 m2 hm]; exact away m m1 m2 hm
  · rw [serve_clearing (by rw [here]; exact hc)]
    exact ⟨rfl, here⟩
  · have served := serve_served b1 b2 depthHere (by rw [here]; exact hc)
    refine ⟨?_, ?_, fun none => ?_⟩
    · have board := served.board
      rw [here] at board
      exact board
    · rw [here] at served
      exact marksServed_of_served view fields hdepth (by rw [here]) served
    · have unmarked : markedFields (s.launched b fr toggle (before ++ after)) b = [] := by
        refine List.eq_nil_iff_forall_not_mem.mpr fun f hf => ?_
        obtain ⟨f1, f2, hmark, -⟩ := mem_markedFields.mp hf
        rw [fields, none f f1 f2] at hmark
        cases hmark
      have idle : (s.launched b fr toggle (before ++ after)).serve b = s.launched b fr toggle (before ++ after) := by
        unfold State.serve
        rw [depthHere]
        dsimp only
        rw [unmarked, List.take_nil]
        exact ite_self _
      rw [idle]
      exact ⟨rfl, here⟩

end Sys2Proof.Machine
end

section
/-! PROOFS. BoardLine: the bytes of the board link's frames (R72, R170, R175). -/

namespace Sys2Proof.Machine

/-! ## The receiver of a loop and of the board link (R72) -/

theorem loopReceive_plain {content : List Byte} {bad : Bool} {b : Byte} (h : isMark b = false) :
    loopReceive (.inside content false bad) b = (.inside (content ++ [b]) false bad, .nothing) := by
  obtain ⟨h1, h2, h3, h4, h5⟩ := not_isMark h
  unfold loopReceive
  dsimp only
  rw [if_neg h1, if_neg h2, if_neg h3, if_neg fun h => h.elim h4 h5]

theorem loopReceive_flow {content : List Byte} {bad : Bool} {mark : Byte} (h : mark = 0xF3#8 ∨ mark = 0xF4#8) :
    loopReceive (.inside content false bad) mark = (.inside content false true, .nothing) := by
  obtain rfl | rfl := h <;> rfl

/-! ## The board link (R170) -/

/-- The receiver of the board link inside a frame. -/
def State.boardHears (s : State) (content : List Byte) (escaped bad : Bool) : State :=
  s.modLink fun l => { l with receiver := .inside content escaped bad, started := true }

theorem boardHears_boardHears (s : State) (c d : List Byte) (e f x y : Bool) :
    (s.boardHears c e x).boardHears d f y = s.boardHears d f y := rfl

variable {s : State} {flight : Flight}

theorem boardByte_hears {c d : List Byte} {e f x y : Bool} {b : Byte} (hf : s.link.inFlight = some flight)
    (hr : loopReceive (.inside c e x) b = (.inside d f y, .nothing)) : (s.boardHears c e x).boardByte b = s.boardHears d f y := by
  have flying : (s.boardHears c e x).link.inFlight = some flight := hf
  have receiving : loopReceive (s.boardHears c e x).link.receiver b = (.inside d f y, .nothing) := hr
  unfold State.boardByte
  rw [flying]
  dsimp only
  rw [receiving]
  rfl

theorem boardLine_append (s : State) (xs ys : List Byte) : s.boardLine (xs ++ ys) = (s.boardLine xs).boardLine ys :=
  List.foldl_append

/-- R72: escaped bytes inside a frame are taken as they stand. -/
theorem boardLine_escape (hf : s.link.inFlight = some flight) (bad : Bool) (bs : List Byte) (content : List Byte) :
    (s.boardHears content false bad).boardLine (escape bs) = s.boardHears (content ++ bs) false bad := by
  induction bs generalizing content with
  | nil => rw [List.append_nil]; rfl
  | cons b bs ih =>
    have one : (s.boardHears content false bad).boardLine (if isMark b then [literalMark, b] else [b]) =
        s.boardHears (content ++ [b]) false bad := by
      cases hm : isMark b with
      | true =>
        show ((s.boardHears content false bad).boardByte literalMark).boardByte b = _
        rw [boardByte_hears hf (d := content) (f := true) (y := bad) rfl, boardByte_hears hf rfl]
      | false => exact boardByte_hears hf (loopReceive_plain hm)
    rw [escape_cons, boardLine_append, one, ih, List.append_assoc]
    rfl

theorem boardLine_begun (hf : s.link.inFlight = some flight) (hr : s.link.receiver = .outside) (bs : List Byte) :
    s.boardLine ([startMark] ++ escape bs) = s.boardHears bs false false := by
  have began : s.boardByte startMark = s.boardHears [] false false := by
    unfold State.boardByte
    rw [hf]
    dsimp only
    rw [hr]
    rfl
  rw [boardLine_append]
  show (s.boardByte startMark).boardLine (escape bs) = _
  rw [began]
  exact boardLine_escape hf false bs []

theorem boardByte_end (hf : s.link.inFlight = some flight) (content : List Byte) (bad : Bool) :
    (s.boardHears content false bad).boardByte endMark = (s.boardHears content false bad).judgeBoard flight content bad := by
  have flying : (s.boardHears content false bad).link.inFlight = some flight := hf
  unfold State.boardByte
  rw [flying]
  rfl

/-- R175: an answer is judged by its content and by what the attempt leaves. -/
theorem judgeBoard_congr {t : State} (h : t.fly none = s.fly none) (f : Flight) (content : List Byte) (bad : Bool) :
    t.judgeBoard f content bad = s.judgeBoard f content bad := by
  have fails : t.failFlight f = s.failFlight f := by
    unfold State.failFlight
    rw [h]
  unfold State.judgeBoard
  rw [fails, h]

/-- R170: the bytes of a frame are judged at its end mark. -/
theorem boardLine_framed (hf : s.link.inFlight = some flight) (hr : s.link.receiver = .outside) (bs : List Byte) :
    s.boardLine ([startMark] ++ escape bs ++ [endMark]) = s.judgeBoard flight bs false := by
  rw [boardLine_append, boardLine_begun hf hr]
  exact (boardByte_end hf bs false).trans (judgeBoard_congr rfl ..)

/-- R72: a flow mark inside a frame spoils it. -/
theorem boardLine_flow (hf : s.link.inFlight = some flight) (hr : s.link.receiver = .outside) (before after : List Byte)
    {mark : Byte} (hm : mark = 0xF3#8 ∨ mark = 0xF4#8) :
    s.boardLine ([startMark] ++ escape before ++ [mark] ++ escape after ++ [endMark]) =
      s.judgeBoard flight (before ++ after) true := by
  rw [boardLine_append, boardLine_append, boardLine_append, boardLine_begun hf hr]
  have spoiled : (s.boardHears before false false).boardLine [mark] = s.boardHears before false true :=
    boardByte_hears hf (loopReceive_flow hm)
  rw [spoiled, boardLine_escape hf true after before]
  exact (boardByte_end hf (before ++ after) true).trans (judgeBoard_congr rfl ..)

/-! ## The answers spelled (R170, R171) -/

theorem readToggle_spelled (toggle : Bool) : readToggle (if toggle then 1#8 else 0#8) = some toggle := by
  cases toggle <;> rfl

theorem address_toNat {b : Nat} (h : b ≤ 8) : (BitVec.ofNat 8 b).toNat = b := by
  rw [BitVec.toNat_ofNat]; omega

theorem readBoardFrame_ack {b : Nat} (h : b ≤ 8) (toggle : Bool) :
    readBoardFrame ([BitVec.ofNat 8 b, 17#8, if toggle then 1#8 else 0#8] ++
      checkBytes [BitVec.ofNat 8 b, 17#8, if toggle then 1#8 else 0#8]) false = some (.ack b toggle) := by
  unfold readBoardFrame
  rw [checked_checkBytes]
  dsimp only
  rw [if_neg Bool.false_ne_true, if_pos rfl, readToggle_spelled, address_toNat h]
  rfl

theorem readBoardFrame_refuse {b : Nat} (h : b ≤ 8) (toggle : Bool) {code : Byte} {reason : RefuseReason}
    (hr : readReason code = some reason) :
    readBoardFrame ([BitVec.ofNat 8 b, 18#8, if toggle then 1#8 else 0#8, code] ++
      checkBytes [BitVec.ofNat 8 b, 18#8, if toggle then 1#8 else 0#8, code]) false = some (.refuse b toggle reason) := by
  unfold readBoardFrame
  rw [checked_checkBytes]
  dsimp only
  rw [if_neg Bool.false_ne_true, if_pos rfl, readToggle_spelled, hr, address_toNat h]

theorem exec_boardLine {line : List Byte} {i : Instr} (hs : settled s = true)
    (hi : i = .boardAckReceived line ∨ i = .boardRefuseReceived line ∨ i = .probeAckReceived line ∨ i = .boardBadReply line) :
    exec i s = .next (s.boardLine line) := by
  have taken : Host.Outcome.next (s.takeDue.boardLine line) = (.next (s.boardLine line) : Host.Outcome State Fault Refusal) := by
    rw [settled_takeDue hs]
  obtain rfl | rfl | rfl | rfl := hi
  · exact taken
  · exact taken
  · exact taken
  · exact taken

/-- R175: an ACK to a FIELD ends its attempt. -/
theorem exec_ack {b : Nat} {fr : BoardFrame} {toggle : Bool} (hs : settled s = true) (hr : s.link.receiver = .outside)
    (hb : b ≤ 8) (hf : s.link.inFlight = some (.field b fr toggle)) :
    exec (.boardAckReceived (frameBytes [BitVec.ofNat 8 b, 17#8, if toggle then 1#8 else 0#8])) s =
      .next ((flightEnded s).takeAck b fr) := by
  have judged : s.judgeBoard (.field b fr toggle) ([BitVec.ofNat 8 b, 17#8, if toggle then 1#8 else 0#8] ++
      checkBytes [BitVec.ofNat 8 b, 17#8, if toggle then 1#8 else 0#8]) false = (flightEnded s).takeAck b fr := by
    unfold State.judgeBoard
    rw [readBoardFrame_ack hb]
    exact if_pos ⟨rfl, rfl⟩
  rw [exec_boardLine hs (.inl rfl), frameBytes_eq, boardLine_framed hf hr, judged]

theorem exec_refuse {b : Nat} {fr : BoardFrame} {toggle : Bool} {code : Byte} {reason : RefuseReason} (hs : settled s = true)
    (hr : s.link.receiver = .outside) (hb : b ≤ 8) (hf : s.link.inFlight = some (.field b fr toggle))
    (hc : readReason code = some reason) :
    exec (.boardRefuseReceived (frameBytes [BitVec.ofNat 8 b, 18#8, if toggle then 1#8 else 0#8, code])) s =
      .next ((flightEnded s).takeRefuse b fr reason) := by
  have judged : s.judgeBoard (.field b fr toggle) ([BitVec.ofNat 8 b, 18#8, if toggle then 1#8 else 0#8, code] ++
      checkBytes [BitVec.ofNat 8 b, 18#8, if toggle then 1#8 else 0#8, code]) false =
        (flightEnded s).takeRefuse b fr reason := by
    unfold State.judgeBoard
    rw [readBoardFrame_refuse hb toggle hc]
    exact if_pos ⟨rfl, rfl⟩
  rw [exec_boardLine hs (.inr (.inl rfl)), frameBytes_eq, boardLine_framed hf hr, judged]

theorem exec_probeAck {b : Nat} {toggle : Bool} (hs : settled s = true) (hr : s.link.receiver = .outside) (hb : b ≤ 8)
    (hf : s.link.inFlight = some (.probe b)) :
    exec (.probeAckReceived (frameBytes [BitVec.ofNat 8 b, 17#8, if toggle then 1#8 else 0#8])) s =
      .next ((flightEnded s).takeProbeAck b toggle) := by
  have judged : s.judgeBoard (.probe b) ([BitVec.ofNat 8 b, 17#8, if toggle then 1#8 else 0#8] ++
      checkBytes [BitVec.ofNat 8 b, 17#8, if toggle then 1#8 else 0#8]) false = (flightEnded s).takeProbeAck b toggle := by
    unfold State.judgeBoard
    rw [readBoardFrame_ack hb]
    exact if_pos rfl
  rw [exec_boardLine hs (.inr (.inr (.inl rfl))), frameBytes_eq, boardLine_framed hf hr, judged]

/-! ## What is no answer (R72, R175) -/

theorem checked_some {content x : List Byte} (h : checked content = some x) : content = x ++ checkBytes x := by
  unfold checked at h
  dsimp only at h
  split at h
  · next hc =>
    obtain ⟨-, same⟩ := Bool.and_eq_true_iff.mp hc
    have same := of_decide_eq_true same
    cases h
    rw [← same, List.take_append_drop]
  · cases h

theorem readToggle_some {b : Byte} {u : Bool} (h : readToggle b = some u) : b = if u then 1#8 else 0#8 := by
  unfold readToggle at h
  split at h
  · next e => cases h; exact e
  · split at h
    · next e => cases h; exact e
    · cases h

theorem readReason_some {b : Byte} {r : RefuseReason} (h : readReason b = some r) : b = 1#8 ∨ b = 2#8 := by
  unfold readReason at h
  split at h
  · next e => exact .inl e
  · split at h
    · next e => exact .inr e
    · cases h

/-- R170: the content x spells the answer. -/
def spellsAnswer : BoardReply → List Byte → Prop
  | .ack a u, x => ∃ address : Byte, address.toNat = a ∧ x = [address, 17#8, if u then 1#8 else 0#8]
  | .refuse a u _, x => ∃ address : Byte, address.toNat = a
      ∧ (x = [address, 18#8, if u then 1#8 else 0#8, 1#8] ∨ x = [address, 18#8, if u then 1#8 else 0#8, 2#8])

/-- R170: only a content with its check is an answer. -/
theorem readBoardFrame_some {content : List Byte} {r : BoardReply} (h : readBoardFrame content false = some r) :
    ∃ x, content = x ++ checkBytes x ∧ spellsAnswer r x := by
  unfold readBoardFrame at h
  rw [if_neg Bool.false_ne_true] at h
  split at h
  · next address kind toggle hc =>
    split at h
    · next hk =>
      obtain ⟨u, hu, rfl⟩ := Option.map_eq_some_iff.mp h
      exact ⟨_, checked_some hc, address, rfl, by rw [hk, readToggle_some hu]⟩
    · cases h
  · next address kind toggle reason hc =>
    split at h
    · next hk =>
      split at h
      · next u x hu hx =>
        cases h
        refine ⟨_, checked_some hc, address, rfl, ?_⟩
        rw [hk, readToggle_some hu]
        obtain e | e := readReason_some hx
        · rw [e]; exact .inl rfl
        · rw [e]; exact .inr rfl
      · cases h
    · cases h
  · cases h

/-- R175: a frame that is no answer to what is in flight fails the attempt. -/
theorem judgeBoard_wrong {content : List Byte} (h : ∀ x, answersFlight flight x → content ≠ x ++ checkBytes x) :
    s.judgeBoard flight content false = s.failFlight flight := by
  unfold State.judgeBoard
  cases hr : readBoardFrame content false with
  | none => cases flight <;> rfl
  | some r =>
    obtain ⟨x, hx, spelled⟩ := readBoardFrame_some hr
    cases flight with
    | field b fr toggle =>
      cases r with
      | ack a u =>
        refine if_neg fun ⟨ha, hu⟩ => ?_
        obtain ⟨address, rfl, rfl⟩ := spelled
        exact h _ ⟨address, ha, .inl (by rw [hu])⟩ hx
      | refuse a u reason =>
        refine if_neg fun ⟨ha, hu⟩ => ?_
        obtain ⟨address, rfl, rfl | rfl⟩ := spelled
        · exact h _ ⟨address, ha, .inr (.inl (by rw [hu]))⟩ hx
        · exact h _ ⟨address, ha, .inr (.inr (by rw [hu]))⟩ hx
    | probe b =>
      cases r with
      | ack a u =>
        refine if_neg fun ha => ?_
        obtain ⟨address, rfl, rfl⟩ := spelled
        refine h _ ⟨address, ha, ?_⟩ hx
        cases u
        · exact .inl rfl
        · exact .inr rfl
      | refuse a u reason => rfl

/-- R175: what fails an attempt. -/
theorem exec_fails {i : Instr} (hs : settled s = true) (hi : failsAttempt s i) (hf : s.link.inFlight = some flight) :
    exec i s = .next (s.failFlight flight) := by
  obtain ⟨line, f, rfl, hr, hf', wrong⟩ | ⟨rfl, started⟩ | ⟨rfl, started⟩ := hi
  · rw [hf] at hf'
    cases hf'
    rw [exec_boardLine hs (.inr (.inr (.inr rfl)))]
    obtain ⟨content, rfl, no⟩ | ⟨before, mark, after, hm, rfl⟩ := wrong
    · rw [boardLine_framed hf hr, judgeBoard_wrong no]
    · rw [boardLine_flow hf hr before after hm]
      refine congrArg Host.Outcome.next ?_
      cases flight <;> rfl
  · show execBoardResponseTimeout s = _
    unfold execBoardResponseTimeout
    rw [settled_takeDue hs]
    dsimp only
    rw [hf, started]
  · show execBoardReplyFrameTimeout s = _
    unfold execBoardReplyFrameTimeout
    rw [settled_takeDue hs]
    dsimp only
    rw [hf, started]

end Sys2Proof.Machine
end

section
/-! PROOFS. BoardAnswers: the answers of a board (R166, R167, R175–R178). -/

namespace Sys2Proof.Machine

/-! ## Changes of one board -/

theorem modBoard_eq (s : State) (b : Nat) (f : Board → Board) : s.modBoard b f = { s with boards := alter s.boards b f } := rfl

theorem modBoard_modBoard (s : State) (b : Nat) (f g : Board → Board) :
    (s.modBoard b f).modBoard b g = s.modBoard b fun x => g (f x) := by
  rw [modBoard_eq, modBoard_eq, modBoard_eq]
  dsimp only
  rw [alter_alter]

theorem modBoard_here {s : State} {b : Nat} (b1 : 1 ≤ b) (b2 : b ≤ 8) (f : Board → Board) :
    pick (s.modBoard b f).boards b = f (pick s.boards b) := by
  rw [modBoard_boards, pick_alter_within _ _ b1 b2, if_pos rfl]

theorem modBoard_away {s : State} {b m : Nat} (m1 : 1 ≤ m) (m2 : m ≤ 8) (h : m ≠ b) (f : Board → Board) :
    pick (s.modBoard b f).boards m = pick s.boards m := by
  rw [modBoard_boards, pick_alter_within _ _ m1 m2, if_neg h]

theorem modBoard_congr {s : State} {b : Nat} {f g : Board → Board} (h : f (pick s.boards b) = g (pick s.boards b)) :
    s.modBoard b f = s.modBoard b g := by
  rw [modBoard_eq, modBoard_eq, alter_congr_at _ h]

/-- R176: a new state of a board, with its notice. -/
theorem boardBecomes_butHost (s : State) (b : Nat) (m : BoardMode) :
    (s.boardBecomes b m).butHost = (s.modBoard b fun x => { x with state := m }).butHost := by
  unfold State.boardBecomes
  dsimp only
  split
  · next h =>
    have same : (s.modBoard b fun x => { x with state := m }) = s := by
      show ({ s with boards := alter s.boards b fun x => { x with state := m } } : State) = s
      rw [alter_fixed s.boards (by rw [← h])]
    rw [same]
  · exact notify_butHost ..

/-! ## The end of a CLEAR's delivery (R166, R167) -/

theorem serve_full {s : State} {b depth : Nat} (hd : s.boardDepth b = some depth) (h : depth ≤ (pick s.boards b).queue.length) :
    s.serve b = s := by
  unfold State.serve
  rw [hd]
  dsimp only
  rw [Nat.sub_eq_zero_of_le h, List.take_zero]
  exact ite_self _

theorem isClear_any (q : List BoardFrame) : q.any BoardFrame.isClear = q.any fun x => x.field == 0 := rfl

theorem endClear_queued {s : State} {b : Nat} (h : ∃ x ∈ (pick s.boards b).queue, x.field = 0) : s.endClear b = s := by
  obtain ⟨x, hx, e⟩ := h
  exact if_pos (List.any_eq_true.mpr ⟨x, hx, by rw [BoardFrame.isClear, beq_iff_eq]; exact e⟩)

theorem endClear_last {s : State} {b : Nat} (h : ∀ x ∈ (pick s.boards b).queue, x.field ≠ 0) :
    s.endClear b = (s.modBoard b fun x => { x with clearing := false }).serve b := by
  refine if_neg ?_
  rw [Bool.not_eq_true, List.any_eq_false]
  exact fun x hx => by rw [BoardFrame.isClear, beq_iff_eq]; exact h x hx

/-- R166, R167: a delivery of a CLEAR has ended. -/
structure ClearEnded (s : State) (b : Nat) (t : State) : Prop where
  view : t.butBoards = s.butBoards
  others : ∀ m, 1 ≤ m → m ≤ 8 → m ≠ b → pick t.boards m = pick s.boards m
  board : pick t.boards b = { pick s.boards b with queue := (pick t.boards b).queue, clearing := (pick t.boards b).clearing }
  queued : (∃ x ∈ (pick s.boards b).queue, x.field = 0) → t = s
  ended : (∀ x ∈ (pick s.boards b).queue, x.field ≠ 0) → (pick t.boards b).clearing = false
    ∧ ∀ u : State, s.butLink = u.butLink → s.fields = u.fields → (u.boardDepth b).isSome = true →
      marksServed u t b (pick s.boards b).queue

theorem endClear_ended {s : State} {b : Nat} (b1 : 1 ≤ b) (b2 : b ≤ 8) : ClearEnded s b (s.endClear b) := by
  by_cases h : ∃ x ∈ (pick s.boards b).queue, x.field = 0
  · rw [endClear_queued h]
    obtain ⟨x, hx, e⟩ := h
    exact ⟨rfl, fun _ _ _ _ => rfl, rfl, fun _ => rfl, fun none => absurd e (none x hx)⟩
  · have none : ∀ x ∈ (pick s.boards b).queue, x.field ≠ 0 := fun x hx e => h ⟨x, hx, e⟩
    rw [endClear_last none]
    have here := modBoard_here (s := s) b1 b2 fun x => { x with clearing := false }
    have away := fun m m1 m2 hm => modBoard_away (s := s) (b := b) (m := m) m1 m2 hm fun x => { x with clearing := false }
    have view : (s.modBoard b fun x => { x with clearing := false }).butBoards = s.butBoards := rfl
    have fields : (s.modBoard b fun x => { x with clearing := false }).fields = s.fields := rfl
    generalize (s.modBoard b fun x => { x with clearing := false }) = v at here away view fields ⊢
    cases hd : v.boardDepth b with
    | none =>
      rw [serve_undefined hd]
      refine ⟨view, away, by rw [here], fun e => absurd e h, fun _ => ⟨by rw [here], fun u hu hf hsome => ?_⟩⟩
      have defs : v.defs = u.defs := (congrArg State.defs ((butLink_of_boards view).trans hu) :)
      unfold State.boardDepth at hd hsome
      rw [defs] at hd
      rw [hd] at hsome
      cases hsome
    | some depth =>
      have served := serve_served b1 b2 hd (by rw [here])
      refine ⟨served.view.trans view, fun m m1 m2 hm => (served.others m m1 m2 hm).trans (away m m1 m2 hm), ?_,
        fun e => absurd e h, fun _ => ⟨by rw [served.board, here], fun u hu hf _ => ?_⟩⟩
      · rw [served.board, here]
      · have linked : v.butLink = u.butLink := (butLink_of_boards view).trans hu
        have defs : v.defs = u.defs := (congrArg State.defs linked :)
        have depths : u.boardDepth b = some depth := by
          unfold State.boardDepth at hd ⊢
          rw [← defs]; exact hd
        have queue : (pick v.boards b).queue = (pick s.boards b).queue := by rw [here]
        rw [queue] at served
        exact marksServed_of_served linked (fields.trans hf) depths queue served

/-! ## A frame put back (R177) -/

theorem filter_split {before after : List BoardFrame} {x : BoardFrame} {f : Nat}
    (h : ((before ++ x :: after).map (·.field)).Nodup) (hx : x.field = f) :
    (before ++ x :: after).filter (fun y => y.field != f) = before ++ after
      ∧ (before ++ x :: after).find? (fun y => y.field == f) = some x := by
  rw [List.map_append, List.map_cons, List.nodup_append] at h
  obtain ⟨-, ha, hd⟩ := h
  have first : ∀ y ∈ before, y.field ≠ f := fun y hy e =>
    hd _ (List.mem_map_of_mem hy) _ (List.mem_cons_self ..) (e.trans hx.symm)
  have last : ∀ y ∈ after, y.field ≠ f := fun y hy e => (List.nodup_cons.mp ha).1 (List.mem_map.mpr ⟨y, hy, e.trans hx.symm⟩)
  have kept : ∀ ys : List BoardFrame, (∀ y ∈ ys, y.field ≠ f) → ys.filter (fun y => y.field != f) = ys := fun ys hys =>
    List.filter_eq_self.mpr fun y hy => bne_iff_ne.mpr (hys y hy)
  refine ⟨?_, ?_⟩
  · rw [List.filter_append, List.filter_cons_of_neg (by simp [hx]), kept before first, kept after last]
  · rw [List.find?_append, List.find?_eq_none.mpr fun y hy => by rw [beq_iff_eq]; exact first y hy, Option.none_or,
      List.find?_cons_of_pos (by simp [hx])]

/-- R177: what becomes of a board where a frame is put back. -/
def putBackBoard (q : List BoardFrame) (dropped ends : Bool) (x : Board) : Board :=
  { x with queue := q, owed := x.owed || dropped, clearing := x.clearing && !ends }

theorem putBack_newer {s : State} {b : Nat} {fr queued : BoardFrame}
    (h : (pick s.boards b).queue.find? (fun x => x.field == fr.field) = some queued) :
    s.putBack b fr = s.modBoard b (putBackBoard
      (mergeBack fr queued :: (pick s.boards b).queue.filter fun y => y.field != fr.field) false false) := by
  unfold State.putBack
  dsimp only
  rw [h]
  refine modBoard_congr ?_
  unfold putBackBoard
  rw [Bool.or_false, Bool.not_false, Bool.and_true]

theorem find_absent {q : List BoardFrame} {f : Nat} (h : ∀ y ∈ q, y.field ≠ f) : q.find? (fun x => x.field == f) = none :=
  List.find?_eq_none.mpr fun y hy => by rw [beq_iff_eq]; exact h y hy

theorem putBack_room {s : State} {b : Nat} {fr : BoardFrame} (h : ∀ y ∈ (pick s.boards b).queue, y.field ≠ fr.field)
    (room : (pick s.boards b).queue.length < (s.boardDepth b).getD 0) :
    s.putBack b fr = s.modBoard b fun x => { x with queue := fr :: x.queue } := by
  unfold State.putBack
  dsimp only
  rw [find_absent h]
  exact if_pos room

/-- R177: at a full queue, a frame of a lower priority than all is dropped. -/
theorem putBack_lost {s : State} {b depth : Nat} {fr : BoardFrame} (b1 : 1 ≤ b) (b2 : b ≤ 8)
    (h : ∀ y ∈ (pick s.boards b).queue, y.field ≠ fr.field) (hd : s.boardDepth b = some depth)
    (full : depth ≤ (pick s.boards b).queue.length) (low : fr.priority < lowestPriority (pick s.boards b).queue) :
    s.putBack b fr = s.modBoard b (putBackBoard (pick s.boards b).queue true (fr.field == 0)) := by
  have ends : s.putBack b fr = if fr.isClear then (s.modBoard b fun x => { x with owed := true }).endClear b
      else s.modBoard b fun x => { x with owed := true } := by
    unfold State.putBack
    dsimp only
    rw [find_absent h, hd]
    exact (if_neg (Nat.not_lt.mpr full)).trans (if_pos low)
  rw [ends]
  unfold BoardFrame.isClear
  cases clear : fr.field == 0 with
  | false =>
    rw [if_neg Bool.false_ne_true]
    refine modBoard_congr ?_
    unfold putBackBoard
    rw [Bool.or_true, Bool.not_false, Bool.and_true]
  | true =>
    rw [if_pos rfl]
    have zero : fr.field = 0 := beq_iff_eq.mp clear
    have queue : (pick (s.modBoard b fun x => { x with owed := true }).boards b).queue = (pick s.boards b).queue := by
      rw [modBoard_here b1 b2]
    have still : ∀ v : State, v.boardDepth b = some depth → (pick v.boards b).queue = (pick s.boards b).queue → v.serve b = v :=
      fun v hv hq => serve_full hv (hq ▸ full)
    rw [endClear_last (by rw [queue, ← zero]; exact h), still]
    · rw [modBoard_modBoard]
      refine modBoard_congr ?_
      unfold putBackBoard
      rw [Bool.or_true, Bool.not_true, Bool.and_false]
    · exact hd
    · rw [modBoard_here b1 b2]
      exact queue

/-- R177: … else the newest frame of the lowest priority is. -/
theorem putBack_full {s : State} {b depth : Nat} {fr : BoardFrame} (h : ∀ y ∈ (pick s.boards b).queue, y.field ≠ fr.field)
    (hd : s.boardDepth b = some depth) (full : depth ≤ (pick s.boards b).queue.length)
    (high : lowestPriority (pick s.boards b).queue ≤ fr.priority) : s.putBack b fr = s.modBoard b (putBackBoard
      (fr :: dropNewest (lowestPriority (pick s.boards b).queue) (pick s.boards b).queue) true false) := by
  unfold State.putBack
  dsimp only
  rw [find_absent h, hd]
  refine (if_neg (Nat.not_lt.mpr full)).trans ((if_neg (Nat.not_lt.mpr high)).trans (modBoard_congr ?_))
  unfold putBackBoard
  rw [Bool.or_true, Bool.not_false, Bool.and_true]

/-- R177: a frame put back, in all. -/
theorem putBack_back {s : State} {b depth : Nat} {fr : BoardFrame} (b1 : 1 ≤ b) (b2 : b ≤ 8)
    (hd : s.boardDepth b = some depth) (h1 : 1 ≤ depth) (hq : queueSound (pick s.boards b).queue) :
    ∃ q dropped lost, s.putBack b fr = s.modBoard b (putBackBoard q dropped (lost && fr.field == 0))
      ∧ backAtHead depth fr (pick s.boards b).queue q dropped lost := by
  obtain ⟨hn, hp⟩ := hq
  by_cases newer : ∃ y ∈ (pick s.boards b).queue, y.field = fr.field
  · obtain ⟨y, hy, e⟩ := newer
    obtain ⟨before, after, split⟩ := List.append_of_mem hy
    have parts := filter_split (f := fr.field) (split ▸ hn) e
    rw [← split] at parts
    refine ⟨mergeBack fr y :: (before ++ after), false, false, ?_, fun before' x after' hq hx => ⟨rfl, rfl, ?_⟩,
      fun none => absurd e (none y hy)⟩
    · rw [putBack_newer parts.2, parts.1]
      rfl
    · have parts' := filter_split (f := fr.field) (hq ▸ hn) hx
      rw [← hq, parts.1, parts.2] at parts'
      cases parts'.2
      rw [parts'.1]
      rfl
  · have absent : ∀ y ∈ (pick s.boards b).queue, y.field ≠ fr.field := fun y hy e => newer ⟨y, hy, e⟩
    have split : ∀ before x after, (pick s.boards b).queue = before ++ x :: after → x.field ≠ fr.field :=
      fun before x after hq e => absent x (by rw [hq]; simp) e
    by_cases room : (pick s.boards b).queue.length < depth
    · refine ⟨fr :: (pick s.boards b).queue, false, false, ?_, fun before x after hq hx => absurd hx (split _ _ _ hq),
        fun _ => ⟨fun _ => ⟨rfl, rfl, rfl⟩, fun full => absurd room (Nat.not_lt.mpr full)⟩⟩
      rw [putBack_room absent (by rw [hd]; exact room)]
      refine modBoard_congr ?_
      unfold putBackBoard
      rw [Bool.or_false, Bool.false_and, Bool.not_false, Bool.and_true]
    · have full : depth ≤ (pick s.boards b).queue.length := Nat.not_lt.mp room
      have filled : (pick s.boards b).queue ≠ [] := fun e => by rw [e] at full; exact absurd full (by simp; omega)
      obtain ⟨y, hy, lowest⟩ := lowestPriority_attained filled hp
      by_cases low : fr.priority < lowestPriority (pick s.boards b).queue
      · refine ⟨(pick s.boards b).queue, true, true, ?_, fun before x after hq hx => absurd hx (split _ _ _ hq),
          fun _ => ⟨fun r => absurd r room, fun _ => ⟨rfl, fun _ => ⟨rfl, rfl⟩, fun before x after hl hle => ?_⟩⟩⟩
        · rw [putBack_lost b1 b2 absent hd full low, Bool.true_and]
        · have := lowestPriority_of_newestLowest hl hp
          omega
      · refine ⟨_, true, false, (putBack_full absent hd full (Nat.not_lt.mp low)).trans (by rw [Bool.false_and]),
          fun before x after hq hx => absurd hx (split _ _ _ hq),
          fun _ => ⟨fun r => absurd r room, fun _ => ⟨rfl, fun all => ?_, fun before x after hl hle => ⟨rfl, ?_⟩⟩⟩⟩
        · have := all y hy
          omega
        · rw [dropNewest_of_newestLowest hl hp]

end Sys2Proof.Machine
end

section
/-! PROOFS. BoardDone: the end of a frame's delivery, and the answers of a board (R175–R178). -/

namespace Sys2Proof.Machine

/-- R176: a board that has answered. -/
def answeredBoard (x : Board) : Board :=
  { x with timeoutRun := 0, toggle := x.toggle.map not, state := if x.state = .lagging then .live else x.state }

theorem eq_of_butHost {s t : State} (h : t.butHost = s.butHost) : t = { s with host := t.host } := by
  exact congrArg (fun v : State => { v with host := t.host }) h

/-- R176: a new state of a board, the notice aside. -/
theorem boardBecomes_eq (s : State) (b : Nat) (m : BoardMode) : s.boardBecomes b m =
    { s with boards := alter s.boards b fun x => { x with state := m }, host := (s.boardBecomes b m).host } :=
  eq_of_butHost (boardBecomes_butHost s b m)

theorem boardAnswers_eq {s : State} {b : Nat} (b1 : 1 ≤ b) (b2 : b ≤ 8) :
    s.boardAnswers b = { s with boards := alter s.boards b answeredBoard, host := (s.boardAnswers b).host } := by
  refine eq_of_butHost (s := s.modBoard b answeredBoard) ?_
  have heard : ∀ v, v = s.modBoard b (fun x => { x with timeoutRun := 0, toggle := x.toggle.map not }) →
      s.boardAnswers b = if (pick v.boards b).state = .lagging then v.boardBecomes b .live else v := by
    rintro v rfl
    rfl
  rw [heard _ rfl, modBoard_here b1 b2]
  dsimp only
  by_cases lag : (pick s.boards b).state = .lagging
  · rw [if_pos lag, boardBecomes_butHost, modBoard_modBoard]
    refine congrArg State.butHost (modBoard_congr ?_)
    unfold answeredBoard
    rw [if_pos lag]
  · rw [if_neg lag]
    refine congrArg State.butHost (modBoard_congr ?_)
    unfold answeredBoard
    rw [if_neg lag]

/-! ## The end of a frame's delivery (R167) -/

theorem frameDone_field {s : State} {b : Nat} {fr : BoardFrame} (b1 : 1 ≤ b) (b2 : b ≤ 8) (hf : fr.field ≠ 0) :
    (∀ m, 1 ≤ m → m ≤ 8 → m ≠ b → pick (s.frameDone b fr).boards m = pick s.boards m)
      ∧ pick (s.frameDone b fr).boards b = { pick s.boards b with
          queue := if (pick s.boards b).owed then [clearFrame] else (pick s.boards b).queue
          clearing := (pick s.boards b).clearing || (pick s.boards b).owed, owed := false }
      ∧ ((pick s.boards b).owed = false → (s.frameDone b fr).fields = s.fields) := by
  have clear : fr.isClear = false := beq_eq_false_iff_ne.mpr hf
  unfold State.frameDone
  rw [clear, if_neg Bool.false_ne_true]
  cases owed : (pick s.boards b).owed with
  | true =>
    rw [if_pos rfl, if_pos rfl, Bool.or_true]
    refine ⟨fun m m1 m2 hm => ?_, ?_, nofun⟩
    · rw [refreshBoard_board m1 m2, if_neg hm]
    · rw [refreshBoard_board b1 b2, if_pos rfl]
  | false =>
    rw [if_neg Bool.false_ne_true, if_neg Bool.false_ne_true, Bool.or_false]
    refine ⟨fun _ _ _ _ => rfl, ?_, fun _ => rfl⟩
    rw [← owed]

theorem frameDone_clear {s : State} {b : Nat} {fr : BoardFrame} (hf : fr.field = 0) (owed : (pick s.boards b).owed = false) :
    s.frameDone b fr = s.endClear b := by
  have clear : fr.isClear = true := beq_iff_eq.mpr hf
  unfold State.frameDone
  rw [owed, clear, if_neg Bool.false_ne_true, if_pos rfl]

/-- R176: a board's answer that ends its frame, with what it says of the frame. -/
def State.answerDone (s : State) (b : Nat) (f : Board → Board) (fr : BoardFrame) : State :=
  ((s.boardAnswers b).modBoard b f).frameDone b fr

/-- R176: the state in which the answered frame's delivery ends. -/
theorem answered_eq {s : State} {b : Nat} (b1 : 1 ≤ b) (b2 : b ≤ 8) (f : Board → Board) :
    (s.boardAnswers b).modBoard b f =
      { s with boards := alter s.boards b fun x => f (answeredBoard x), host := (s.boardAnswers b).host } := by
  rw [boardAnswers_eq b1 b2]
  exact congrArg (fun v => ({ s with boards := v, host := (s.boardAnswers b).host } : State)) (alter_alter ..)

theorem answerDone_alone {s : State} {b : Nat} (b1 : 1 ≤ b) (b2 : b ≤ 8) (f : Board → Board) (fr : BoardFrame) :
    s.answerDone b f fr = { s with boards := (s.answerDone b f fr).boards, fields := (s.answerDone b f fr).fields
                                   host := (s.answerDone b f fr).host } := by
  have done := eq_of_butBoards (frameDone_butBoards ((s.boardAnswers b).modBoard b f) b fr)
  have before := answered_eq (s := s) b1 b2 f
  unfold State.answerDone
  generalize (((s.boardAnswers b).modBoard b f).frameDone b fr) = t at done ⊢
  rw [before] at done
  rw [done]

theorem answerDone_field {s : State} {b : Nat} {f : Board → Board} {fr : BoardFrame} (b1 : 1 ≤ b) (b2 : b ≤ 8)
    (hf : fr.field ≠ 0) (kept : ∀ x, (f x).owed = x.owed) :
    (∀ m, 1 ≤ m → m ≤ 8 → m ≠ b → pick (s.answerDone b f fr).boards m = pick s.boards m)
      ∧ pick (s.answerDone b f fr).boards b = { f (answeredBoard (pick s.boards b)) with
          queue := if (pick s.boards b).owed then [clearFrame] else (f (answeredBoard (pick s.boards b))).queue
          clearing := (f (answeredBoard (pick s.boards b))).clearing || (pick s.boards b).owed, owed := false }
      ∧ ((pick s.boards b).owed = false → (s.answerDone b f fr).fields = s.fields) := by
  obtain ⟨others, board, fields⟩ := frameDone_field (s := (s.boardAnswers b).modBoard b f) b1 b2 hf
  have here : pick ((s.boardAnswers b).modBoard b f).boards b = f (answeredBoard (pick s.boards b)) := by
    rw [answered_eq b1 b2]
    exact (pick_alter_within _ _ b1 b2).trans (if_pos rfl)
  have away : ∀ m, 1 ≤ m → m ≤ 8 → m ≠ b → pick ((s.boardAnswers b).modBoard b f).boards m = pick s.boards m := by
    intro m m1 m2 hm
    rw [answered_eq b1 b2]
    exact (pick_alter_within _ _ m1 m2).trans (if_neg hm)
  have same : ((s.boardAnswers b).modBoard b f).fields = s.fields := by rw [answered_eq b1 b2]
  have owed : (f (answeredBoard (pick s.boards b))).owed = (pick s.boards b).owed := kept _
  rw [here, owed] at board
  rw [here, owed] at fields
  exact ⟨fun m m1 m2 hm => (others m m1 m2 hm).trans (away m m1 m2 hm), board, fun h => (fields h).trans same⟩

/-- R166, R167: the answer to a CLEAR with no refresh owed. -/
theorem answerDone_clear {s : State} {b : Nat} {f : Board → Board} {fr : BoardFrame} (b1 : 1 ≤ b) (b2 : b ≤ 8)
    (hf : fr.field = 0) (owed : (pick s.boards b).owed = false) (kept : ∀ x, (f x).owed = x.owed)
    (queue : ∀ x, (f x).queue = x.queue) (clearing : ∀ x, (f x).clearing = x.clearing) :
    (∀ m, 1 ≤ m → m ≤ 8 → m ≠ b → pick (s.answerDone b f fr).boards m = pick s.boards m)
      ∧ pick (s.answerDone b f fr).boards b = { f (answeredBoard (pick s.boards b)) with
          queue := (pick (s.answerDone b f fr).boards b).queue, clearing := (pick (s.answerDone b f fr).boards b).clearing }
      ∧ ((∃ x ∈ (pick s.boards b).queue, x.field = 0) → (s.answerDone b f fr).fields = s.fields
        ∧ (pick (s.answerDone b f fr).boards b).queue = (pick s.boards b).queue
        ∧ (pick (s.answerDone b f fr).boards b).clearing = (pick s.boards b).clearing)
      ∧ ((∀ x ∈ (pick s.boards b).queue, x.field ≠ 0) → (pick (s.answerDone b f fr).boards b).clearing = false
        ∧ ∀ u : State, s.butLink = u.butLink → s.fields = u.fields → (u.boardDepth b).isSome = true →
          marksServed u (s.answerDone b f fr) b (pick s.boards b).queue) := by
  have here : pick ((s.boardAnswers b).modBoard b f).boards b = f (answeredBoard (pick s.boards b)) := by
    rw [answered_eq b1 b2]
    exact (pick_alter_within _ _ b1 b2).trans (if_pos rfl)
  have away : ∀ m, 1 ≤ m → m ≤ 8 → m ≠ b → pick ((s.boardAnswers b).modBoard b f).boards m = pick s.boards m := by
    intro m m1 m2 hm
    rw [answered_eq b1 b2]
    exact (pick_alter_within _ _ m1 m2).trans (if_neg hm)
  have same : ((s.boardAnswers b).modBoard b f).fields = s.fields := by rw [answered_eq b1 b2]
  have linked : ((s.boardAnswers b).modBoard b f).butLink = s.butLink :=
    (modBoard_butLink ..).trans (boardAnswers_butLink ..)
  unfold State.answerDone
  rw [frameDone_clear hf (by rw [here, kept]; exact owed)]
  have ended := endClear_ended (s := (s.boardAnswers b).modBoard b f) b1 b2
  have queued : (pick ((s.boardAnswers b).modBoard b f).boards b).queue = (pick s.boards b).queue := by
    rw [here, queue]; rfl
  have cleared : (pick ((s.boardAnswers b).modBoard b f).boards b).clearing = (pick s.boards b).clearing := by
    rw [here, clearing]; rfl
  generalize ((s.boardAnswers b).modBoard b f) = v at *
  refine ⟨fun m m1 m2 hm => (ended.others m m1 m2 hm).trans (away m m1 m2 hm), ?_, fun h => ?_, fun h => ?_⟩
  · rw [← here]
    exact ended.board
  · rw [ended.queued (by rw [queued]; exact h)]
    exact ⟨same, queued, cleared⟩
  · obtain ⟨off, served⟩ := ended.ended (by rw [queued]; exact h)
    exact ⟨off, fun u hu hf hd => queued ▸ served u (linked.trans hu) (same.trans hf) hd⟩

end Sys2Proof.Machine
end

section
/-! PROOFS. BoardAnswersTaken: the answers of a board and the retried frame (R166, R167, R175–R178). -/

namespace Sys2Proof.Machine

theorem takeAck_done {s : State} {b : Nat} {fr : BoardFrame} (h : fr.reconfirm = false) : s.takeAck b fr =
    s.answerDone b (fun x => { x with delivered := saturate 65535 1 x.delivered, lastOutcome := some .delivered }) fr := by
  unfold State.takeAck
  rw [h]
  rfl

theorem takeRefuse_done (s : State) (b : Nat) (fr : BoardFrame) (reason : RefuseReason) : s.takeRefuse b fr reason =
    s.answerDone b (fun x => { x with refused := saturate 65535 1 x.refused, lastOutcome := some .refused,
                                      lastRefusal := some (fr.field, reason) }) fr := rfl

theorem takeAck_again {s : State} {b : Nat} {fr : BoardFrame} (h : fr.reconfirm = true) :
    s.takeAck b fr = (s.boardAnswers b).putBack b { fr with reconfirm := false, attempts := 0 } := by
  unfold State.takeAck
  rw [h]
  rfl

/-- R166, R178: a PROBE acknowledged. -/
theorem takeProbeAck_lit {s : State} {b : Nat} {toggle : Bool} (h : (pick s.boards b).state ≠ .dark) :
    s.takeProbeAck b toggle = { s with
      boards := alter s.boards b fun x => { x with toggle := some (!toggle), timeoutRun := 0, state := .live }
      host := (s.takeProbeAck b toggle).host } := by
  have taken : s.takeProbeAck b toggle =
      (s.modBoard b fun x => { x with toggle := some (!toggle), timeoutRun := 0 }).boardBecomes b .live := if_neg h
  rw [taken]
  refine eq_of_butHost (s := s.modBoard b fun x => { x with toggle := some (!toggle), timeoutRun := 0, state := .live }) ?_
  rw [boardBecomes_butHost, modBoard_modBoard]

theorem takeProbeAck_dark {s : State} {b : Nat} {toggle : Bool} (b1 : 1 ≤ b) (b2 : b ≤ 8) (h : (pick s.boards b).state = .dark) :
    s.takeProbeAck b toggle = { s with
        boards := (s.takeProbeAck b toggle).boards, fields := (s.takeProbeAck b toggle).fields
        host := (s.takeProbeAck b toggle).host, equations := (s.takeProbeAck b toggle).equations
        flags := (s.takeProbeAck b toggle).flags, relays := (s.takeProbeAck b toggle).relays
        tunes := (s.takeProbeAck b toggle).tunes }
      ∧ (∀ m, 1 ≤ m → m ≤ 8 → m ≠ b → pick (s.takeProbeAck b toggle).boards m = pick s.boards m)
      ∧ pick (s.takeProbeAck b toggle).boards b = { pick s.boards b with
          toggle := some (!toggle), timeoutRun := 0, state := .live, probeTimer := none
          queue := [clearFrame], clearing := true, owed := false }
      ∧ ∀ f, 1 ≤ f → f ≤ 12 → (s.fieldDef b f).isSome = true →
        (pick (pick (s.takeProbeAck b toggle).fields b) f).marked = true := by
  have taken : s.takeProbeAck b toggle = (((s.modBoard b fun x =>
      { x with toggle := some (!toggle), timeoutRun := 0, probeTimer := none, state := .live }).handOn [.board b]).refreshBoard
        b).boardNotice b (pick s.boards b).state := by
    refine (if_pos h).trans ?_
    rw [modBoard_modBoard]
  have here := modBoard_here (s := s) b1 b2 fun x =>
    { x with toggle := some (!toggle), timeoutRun := 0, probeTimer := none, state := .live }
  have away := fun m m1 m2 hm => modBoard_away (s := s) (b := b) (m := m) m1 m2 hm fun x =>
    { x with toggle := some (!toggle), timeoutRun := 0, probeTimer := none, state := .live }
  have view := modBoard_eq s b fun x => { x with toggle := some (!toggle), timeoutRun := 0, probeTimer := none, state := .live }
  rw [taken]
  generalize (s.modBoard b fun x => { x with toggle := some (!toggle), timeoutRun := 0, probeTimer := none, state := .live }) = v
    at here away view ⊢
  have seen : (v.handOn [.board b]).boards = v.boards := handOn_boards ..
  have same : (v.handOn [.board b]).defs = v.defs := handOn_defs ..
  have handed := eq_of_butEquations (handOn_butEquations v [.board b])
  generalize (v.handOn [.board b]) = w at seen same handed ⊢
  have refreshed := eq_of_butBoards (refreshBoard_butBoards w b)
  have board := fun m m1 m2 => refreshBoard_board (s := w) (b := b) (m := m) m1 m2
  have field := fun f f1 f2 => refreshBoard_field (s := w) (b := b) (f := f) b1 b2 f1 f2
  generalize w.refreshBoard b = x at refreshed board field ⊢
  have told : x.boardNotice b (pick s.boards b).state =
      { x with host := (x.boardNotice b (pick s.boards b).state).host } := eq_of_butHost (notify_butHost ..)
  rw [told]
  refine ⟨?_, fun m m1 m2 hm => ?_, ?_, fun f f1 f2 def' => ?_⟩
  · rw [refreshed, handed, view]
  · show pick x.boards m = _
    rw [board m m1 m2, if_neg hm, seen, away m m1 m2 hm]
  · show pick x.boards b = _
    rw [board b b1 b2, if_pos rfl, seen, here]
  · show (pick (pick x.fields b) f).marked = true
    have defined : (w.fieldDef b f).isSome = true := by
      unfold State.fieldDef at def' ⊢
      rw [same, show v.defs = s.defs from (congrArg State.defs view :)]
      exact def'
    rw [field f f1 f2, if_pos ⟨rfl, defined⟩]

/-! ## The answers (R175–R178) -/

theorem saturate_one {n x : Nat} : saturate n 1 x = min n (x + 1) := rfl

/-! ## A frame put back on a board that has changed (R177) -/

section
variable {s v : State} {b : Nat} {f : Board → Board}

theorem queue_of_alter (b1 : 1 ≤ b) (b2 : b ≤ 8) (hv : v = { s with boards := alter s.boards b f, host := v.host })
    (kept : ∀ x, (f x).queue = x.queue) : (pick v.boards b).queue = (pick s.boards b).queue := by
  rw [hv]
  show (pick (alter s.boards b f) b).queue = _
  rw [pick_alter_within _ _ b1 b2, if_pos rfl, kept]

theorem modBoard_of_alter (hv : v = { s with boards := alter s.boards b f, host := v.host }) (g : Board → Board) :
    v.modBoard b g = { s with host := v.host, boards := alter s.boards b fun x => g (f x) } := by
  have boards : v.boards = alter s.boards b f := (congrArg State.boards hv :)
  rw [modBoard_eq, boards, alter_alter]
  rw [hv]

theorem putBack_form_room {fr : BoardFrame} (b1 : 1 ≤ b) (b2 : b ≤ 8)
    (hv : v = { s with boards := alter s.boards b f, host := v.host }) (kept : ∀ x, (f x).queue = x.queue)
    (absent : ∀ x ∈ (pick s.boards b).queue, x.field ≠ fr.field)
    (room : (pick s.boards b).queue.length < (s.boardDepth b).getD 0) : v.putBack b fr =
      { s with host := (v.putBack b fr).host, boards := alter s.boards b fun x => { f x with queue := fr :: x.queue } } := by
  have queue := queue_of_alter b1 b2 hv kept
  have depth : v.boardDepth b = s.boardDepth b := by rw [hv]; rfl
  have put := putBack_room (s := v) (fr := fr) (by rw [queue]; exact absent) (by rw [queue, depth]; exact room)
  rw [modBoard_of_alter hv] at put
  simp only [kept] at put
  generalize v.putBack b fr = t at put ⊢
  subst put
  rfl

theorem putBack_form_back {fr : BoardFrame} {depth : Nat} (b1 : 1 ≤ b) (b2 : b ≤ 8)
    (hv : v = { s with boards := alter s.boards b f, host := v.host }) (kept : ∀ x, (f x).queue = x.queue)
    (hd : s.boardDepth b = some depth) (h1 : 1 ≤ depth) (hq : queueSound (pick s.boards b).queue) :
    ∃ dropped lost, v.putBack b fr = { s with
        host := (v.putBack b fr).host
        boards := alter s.boards b fun x => { f x with
          queue := (pick (v.putBack b fr).boards b).queue, owed := (f x).owed || dropped
          clearing := (f x).clearing && !(lost && fr.field == 0) } }
      ∧ backAtHead depth fr (pick s.boards b).queue (pick (v.putBack b fr).boards b).queue dropped lost := by
  have queue := queue_of_alter b1 b2 hv kept
  obtain ⟨q, dropped, lost, put, back⟩ := putBack_back (s := v) (fr := fr) b1 b2 (by rw [hv]; exact hd) h1
    (by rw [queue]; exact hq)
  rw [queue] at back
  have whole := put.trans (modBoard_of_alter hv _)
  have queued : (pick (v.putBack b fr).boards b).queue = q := by
    rw [whole]
    show (pick (alter s.boards b _) b).queue = q
    rw [pick_alter_within _ _ b1 b2, if_pos rfl]
    rfl
  refine ⟨dropped, lost, ?_, queued.symm ▸ back⟩
  rw [queued]
  generalize v.putBack b fr = t at whole ⊢
  subst whole
  rfl

end

/-- Settles O52: an answer that ends its frame is the board heard, the frame counted, and the delivery's end. -/
theorem boardAnswersTaken : Obligations.BoardAnswersTaken := by
  unfold Obligations.BoardAnswersTaken
  intro s b hs hr b1 b2
  refine ⟨fun fr toggle hf field _ => ⟨fun once => ?_, fun again absent room => ?_, fun reason code hc => ?_⟩,
    fun toggle hf => ?_, fun fr toggle i hf field _ owed hi => ?_, fun fr toggle depth hf _ again _ hd h1 hq => ?_⟩
  · refine ⟨_, exec_ack hs hr b2 hf, ?_⟩
    rw [takeAck_done once]
    exact ⟨answerDone_alone b1 b2 .., answerDone_field (s := flightEnded s) b1 b2 field fun _ => rfl⟩
  · refine ⟨_, exec_ack hs hr b2 hf, ?_⟩
    rw [takeAck_again again]
    exact putBack_form_room (fr := { fr with reconfirm := false, attempts := 0 }) b1 b2
      (boardAnswers_eq (s := flightEnded s) b1 b2) (fun _ => rfl) absent room
  · have code' : readReason code = some reason := by
      simp only [List.mem_cons, List.not_mem_nil, or_false, Prod.mk.injEq] at hc
      obtain ⟨rfl, rfl⟩ | ⟨rfl, rfl⟩ := hc <;> rfl
    refine ⟨_, exec_refuse hs hr b2 hf code', ?_⟩
    rw [takeRefuse_done]
    obtain ⟨others, board, -⟩ := answerDone_field (s := flightEnded s)
      (f := fun x => { x with refused := saturate 65535 1 x.refused, lastOutcome := some .refused,
                              lastRefusal := some (fr.field, reason) }) b1 b2 field fun _ => rfl
    exact ⟨answerDone_alone b1 b2 .., others, board⟩
  · refine ⟨_, exec_probeAck hs hr b2 hf, ?_⟩
    by_cases dark : (pick s.boards b).state = .dark
    · obtain ⟨view, others, board, fields⟩ := takeProbeAck_dark (s := flightEnded s) (toggle := toggle) b1 b2 dark
      exact ⟨view, others, fun h => absurd dark h, fun _ => ⟨board, fields⟩⟩
    · rw [takeProbeAck_lit (s := flightEnded s) dark]
      refine ⟨rfl, fun m m1 m2 hm => ?_, fun _ => ⟨?_, rfl, rfl⟩, fun h => absurd h dark⟩
      · exact (pick_alter_within _ _ m1 m2).trans (if_neg hm)
      · exact (pick_alter_within _ _ b1 b2).trans (if_pos rfl)
  · have done : ∃ f : Board → Board, exec i s = .next ((flightEnded s).answerDone b f fr)
        ∧ (∀ x, (f x).owed = x.owed) ∧ (∀ x, (f x).queue = x.queue) ∧ (∀ x, (f x).clearing = x.clearing)
        ∧ ∀ x, f x = { x with delivered := (f x).delivered, refused := (f x).refused, lastOutcome := (f x).lastOutcome
                              lastRefusal := (f x).lastRefusal } := by
      obtain ⟨rfl, once⟩ | rfl := hi
      · exact ⟨_, (exec_ack hs hr b2 hf).trans (congrArg _ (takeAck_done once)), fun _ => rfl, fun _ => rfl, fun _ => rfl, fun _ => rfl⟩
      · exact ⟨_, (exec_refuse hs hr b2 hf rfl).trans (congrArg _ (takeRefuse_done ..)), fun _ => rfl, fun _ => rfl, fun _ => rfl,
          fun _ => rfl⟩
    obtain ⟨f, taken, kept, queue, clearing, only⟩ := done
    obtain ⟨others, board, queued, ended⟩ := answerDone_clear (s := flightEnded s) b1 b2 field owed kept queue clearing
    refine ⟨_, taken, answerDone_alone b1 b2 .., others, ?_, queued, fun h => ?_⟩
    · rw [board, only]
      rfl
    · obtain ⟨off, served⟩ := ended h
      exact ⟨off, fun hd => served s rfl rfl hd⟩
  · refine ⟨(flightEnded s).takeAck b fr, ?_⟩
    rw [takeAck_again again]
    obtain ⟨dropped, lost, put, back⟩ := putBack_form_back (fr := { fr with reconfirm := false, attempts := 0 }) b1 b2
      (boardAnswers_eq (s := flightEnded s) b1 b2) (fun _ => rfl) hd h1 hq
    exact ⟨dropped, lost, (exec_ack hs hr b2 hf).trans (congrArg _ (takeAck_again again)), put, back⟩

end Sys2Proof.Machine
end

section
/-! PROOFS. BoardFailures: the failed attempts (R175–R179). -/

namespace Sys2Proof.Machine

/-! ## Below the eighth failure (R176, R177) -/

/-- R176: a board with one more failed attempt, below the eighth in a row. -/
def laggedBoard (x : Board) : Board := { x with timeoutRun := x.timeoutRun + 1, state := .lagging }

/-- R179: a board that the eighth failed attempt makes DARK. -/
def darkBoard (x : Board) : Board :=
  { x with timeoutRun := 8, state := .dark, toggle := none, probeTimer := some 50, probeDue := false }

/-- R176: the state in which a retry is judged. -/
def State.lagged (s : State) (b : Nat) : State :=
  (s.modBoard b fun x => { x with timeoutRun := x.timeoutRun + 1 }).boardBecomes b .lagging

theorem lagged_eq (s : State) (b : Nat) :
    s.lagged b = { s with boards := alter s.boards b laggedBoard, host := (s.lagged b).host } := by
  refine eq_of_butHost (s := s.modBoard b laggedBoard) ?_
  unfold State.lagged
  rw [boardBecomes_butHost, modBoard_modBoard]
  rfl

theorem failAttempt_below {s : State} {b : Nat} {o : Option BoardFrame} (b1 : 1 ≤ b) (b2 : b ≤ 8)
    (live : (pick s.boards b).state ≠ .dark) (h : (pick s.boards b).timeoutRun < 7) :
    s.failAttempt b o = o.elim (s.lagged b) ((s.lagged b).judgeRetry b) := by
  have taken : ∀ v, v = s.modBoard b (fun x => { x with timeoutRun := x.timeoutRun + 1 }) → s.failAttempt b o =
      if Config.darkRun ≤ (pick v.boards b).timeoutRun then v.goDark b o
      else o.elim (v.boardBecomes b .lagging) ((v.boardBecomes b .lagging).judgeRetry b) := by
    rintro v rfl
    refine (if_neg live).trans ?_
    cases o <;> rfl
  rw [taken _ rfl, modBoard_here b1 b2]
  exact if_neg (Nat.not_le.mpr (Nat.succ_lt_succ h))

theorem attemptsLeft_iff {s : State} {b : Nat} {fr : BoardFrame} : attemptsLeft s b fr = true ↔
    pick s.defs.links.retry b = .persist ∨ (pick s.defs.links.retry b = .three ∧ fr.attempts < 4)
      ∨ (pick s.defs.links.retry b = .none ∧ fr.attempts < 1) := by
  unfold attemptsLeft attemptLimit
  cases pick s.defs.links.retry b <;> simp

theorem lagged_attemptsLeft (s : State) (b : Nat) (fr : BoardFrame) : attemptsLeft (s.lagged b) b fr = attemptsLeft s b fr := by
  rw [lagged_eq]
  rfl

theorem judgeRetry_left {s : State} {b : Nat} {fr : BoardFrame} (h : attemptsLeft s b fr = true) :
    (s.lagged b).judgeRetry b fr = (s.lagged b).putBack b fr := by
  rw [judgeRetry_eq, if_pos (by rw [lagged_attemptsLeft]; exact h)]

theorem judgeRetry_spent {s : State} {b : Nat} {fr : BoardFrame} (h : attemptsLeft s b fr ≠ true) :
    (s.lagged b).judgeRetry b fr =
      if fr.isClear then ((s.lagged b).giveUp b).endClear b else (s.lagged b).giveUp b := by
  rw [judgeRetry_eq, if_neg (by rw [lagged_attemptsLeft]; exact h)]

/-- R177: a board whose frame is given up. -/
def spentBoard (x : Board) : Board := { x with
  timeoutRun := x.timeoutRun + 1, state := .lagging
  failed := min 65535 (x.failed + 1), lastOutcome := some .failed, owed := true }

theorem giveUp_eq (s : State) (b : Nat) :
    (s.lagged b).giveUp b = { s with host := (s.lagged b).host, boards := alter s.boards b spentBoard } :=
  modBoard_of_alter (lagged_eq s b) _

/-- R167, R177: a CLEAR given up ends its delivery. -/
theorem giveUp_clear {s : State} {b : Nat} (b1 : 1 ≤ b) (b2 : b ≤ 8) (none : ∀ x ∈ (pick s.boards b).queue, x.field ≠ 0) :
    ∃ t, t = ((s.lagged b).giveUp b).endClear b ∧ t = { s with host := t.host, boards := t.boards, fields := t.fields }
      ∧ (∀ m, 1 ≤ m → m ≤ 8 → m ≠ b → pick t.boards m = pick s.boards m)
      ∧ pick t.boards b = { pick s.boards b with
          timeoutRun := (pick s.boards b).timeoutRun + 1, state := .lagging, clearing := false, owed := true
          failed := min 65535 ((pick s.boards b).failed + 1), lastOutcome := some .failed
          queue := (pick t.boards b).queue }
      ∧ ∀ u : State, s.butLink = u.butLink → s.fields = u.fields → (u.boardDepth b).isSome = true →
        marksServed u t b (pick s.boards b).queue := by
  refine ⟨_, rfl, ?_⟩
  have gave := giveUp_eq s b
  have ended := endClear_ended (s := (s.lagged b).giveUp b) b1 b2
  have view := eq_of_butBoards ended.view
  have here : pick ((s.lagged b).giveUp b).boards b = spentBoard (pick s.boards b) := by
    rw [gave]
    exact (pick_alter_within _ _ b1 b2).trans (if_pos rfl)
  have queue : (pick ((s.lagged b).giveUp b).boards b).queue = (pick s.boards b).queue := by rw [here]; rfl
  obtain ⟨off, served⟩ := ended.ended (by rw [queue]; exact none)
  have linked : ((s.lagged b).giveUp b).butLink = s.butLink := by rw [gave]; rfl
  have fields : ((s.lagged b).giveUp b).fields = s.fields := by rw [gave]
  have away : ∀ m, 1 ≤ m → m ≤ 8 → m ≠ b → pick ((s.lagged b).giveUp b).boards m = pick s.boards m := by
    intro m m1 m2 hm
    rw [gave]
    exact (pick_alter_within _ _ m1 m2).trans (if_neg hm)
  refine ⟨?_, fun m m1 m2 hm => (ended.others m m1 m2 hm).trans (away m m1 m2 hm), ?_,
    fun u hu hf hd => queue ▸ served u (linked.trans hu) (fields.trans hf) hd⟩
  · generalize ((s.lagged b).giveUp b).endClear b = t at view ⊢
    rw [gave] at view
    rw [view]
  · rw [ended.board, off, here]
    rfl

/-! ## The eighth failure in a row (R179) -/

/-- R179: the frame that a board gone DARK takes back. -/
def State.darkened (s : State) (b : Nat) (o : Option BoardFrame) : State :=
  o.elim (s.modBoard b darkBoard) fun fr => (s.modBoard b darkBoard).putBack b { fr with attempts := 0, reconfirm := false }

theorem failAttempt_eighth {s : State} {b : Nat} {o : Option BoardFrame} (b1 : 1 ≤ b) (b2 : b ≤ 8)
    (live : (pick s.boards b).state ≠ .dark) (h : (pick s.boards b).timeoutRun = 7) :
    s.failAttempt b o = ((s.darkened b o).handOn [.board b]).boardNotice b (pick s.boards b).state := by
  have dark : ∀ v, v = s.modBoard b (fun x => { x with timeoutRun := x.timeoutRun + 1 }) → Config.darkRun ≤ (pick v.boards b).timeoutRun →
      s.failAttempt b o = v.goDark b o := by
    rintro v rfl hrun
    exact (if_neg live).trans (if_pos hrun)
  have darken : ∀ v : State, v.goDark b o = (((o.elim
      (v.modBoard b fun x => { x with state := .dark, toggle := none, probeTimer := some Config.probeTenths, probeDue := false })
      fun fr => (v.modBoard b fun x =>
        { x with state := .dark, toggle := none, probeTimer := some Config.probeTenths, probeDue := false }).putBack b
          { fr with attempts := 0, reconfirm := false })).handOn [.board b]).boardNotice b (pick v.boards b).state := by
    intro v
    cases o <;> rfl
  have merged : ((s.modBoard b fun x => { x with timeoutRun := x.timeoutRun + 1 }).modBoard b fun x =>
      { x with state := .dark, toggle := none, probeTimer := some Config.probeTenths, probeDue := false }) =
        s.modBoard b darkBoard := by
    rw [modBoard_modBoard]
    refine modBoard_congr ?_
    unfold darkBoard
    dsimp only
    rw [h]
    rfl
  rw [dark _ rfl (by rw [modBoard_here b1 b2, h]; exact Nat.le_refl 8), darken, merged, modBoard_here b1 b2]
  rfl

theorem failAttempt_eighth_eq {s : State} {b : Nat} {o : Option BoardFrame} (b1 : 1 ≤ b) (b2 : b ≤ 8)
    (live : (pick s.boards b).state ≠ .dark) (h : (pick s.boards b).timeoutRun = 7) :
    s.failAttempt b o = { s.darkened b o with
      host := (s.failAttempt b o).host, equations := (s.failAttempt b o).equations, flags := (s.failAttempt b o).flags
      relays := (s.failAttempt b o).relays, tunes := (s.failAttempt b o).tunes } := by
  have handed := eq_of_butEquations (handOn_butEquations (s.darkened b o) [.board b])
  have told : ((s.darkened b o).handOn [.board b]).boardNotice b (pick s.boards b).state =
      { (s.darkened b o).handOn [.board b] with
        host := (((s.darkened b o).handOn [.board b]).boardNotice b (pick s.boards b).state).host } :=
    eq_of_butHost (notify_butHost ..)
  rw [failAttempt_eighth b1 b2 live h]
  generalize ((s.darkened b o).handOn [.board b]).boardNotice b (pick s.boards b).state = t at told ⊢
  generalize (s.darkened b o).handOn [.board b] = w at handed told
  rw [handed] at told
  rw [told]

theorem failAttempt_dark {s : State} {b : Nat} {o : Option BoardFrame} (dark : (pick s.boards b).state = .dark) :
    s.failAttempt b o = { s with boards := alter s.boards b fun x => { x with probeTimer := some 50 } } := if_pos dark

/-- R179: a state with what the notices and the equations of another are. -/
def afterDark (t w : State) : State :=
  { w with host := t.host, equations := t.equations, flags := t.flags, relays := t.relays, tunes := t.tunes }

/-- Settles O53: below the eighth failure the retry is judged on a LAGGING board, at the eighth the frame goes back to a
DARK one. -/
theorem boardFailuresTaken : Obligations.BoardFailuresTaken := by
  unfold Obligations.BoardFailuresTaken
  intro s b hs b1 b2
  have left : ∀ {fr : BoardFrame}, (pick s.defs.links.retry b = .persist ∨ (pick s.defs.links.retry b = .three ∧ fr.attempts < 4)) →
      attemptsLeft (flightEnded s) b fr = true := fun h => attemptsLeft_iff.mpr (h.imp id .inl)
  have spent : ∀ {fr : BoardFrame}, ((pick s.defs.links.retry b = .none ∧ 1 ≤ fr.attempts) ∨
      (pick s.defs.links.retry b = .three ∧ 4 ≤ fr.attempts)) → attemptsLeft (flightEnded s) b fr ≠ true := by
    intro fr h hl
    have limit := attemptsLeft_iff.mp hl
    change pick s.defs.links.retry b = .persist ∨ (pick s.defs.links.retry b = .three ∧ _) ∨
      (pick s.defs.links.retry b = .none ∧ _) at limit
    obtain ⟨p, h⟩ | ⟨p, h⟩ := h <;> rw [p] at limit <;> simp at limit <;> omega
  have whole : ∀ o, ∀ live : (pick s.boards b).state ≠ .dark, ∀ eighth : (pick s.boards b).timeoutRun = 7, _ :=
    fun o live eighth => failAttempt_eighth_eq (s := flightEnded s) (o := o) b1 b2 live eighth
  refine ⟨fun i hi => ⟨fun fr toggle hf live field absent room => ⟨fun below policy => ?_, fun below policy => ?_, fun eighth => ?_⟩,
    fun fr toggle depth hf live _ hd h1 hq => ⟨fun below policy => ?_, fun eighth => ?_⟩,
    fun fr toggle hf live field below none policy => ?_, fun hf live => ⟨fun below => ?_, fun eighth => ?_⟩,
    fun hf dark => ?_⟩, fun content flight hf hr => ?_⟩
  · refine ⟨_, exec_fails hs hi hf, ?_⟩
    rw [show s.failFlight (.field b fr toggle) = (flightEnded s).failAttempt b (some fr) from rfl,
      failAttempt_below (s := flightEnded s) b1 b2 live below, Option.elim_some, judgeRetry_left (left policy)]
    exact putBack_form_room b1 b2 (lagged_eq (flightEnded s) b) (fun _ => rfl) absent room
  · refine ⟨_, exec_fails hs hi hf, ?_⟩
    have clear : fr.isClear = false := beq_eq_false_iff_ne.mpr field
    have gave := giveUp_eq (flightEnded s) b
    rw [show s.failFlight (.field b fr toggle) = (flightEnded s).failAttempt b (some fr) from rfl,
      failAttempt_below (s := flightEnded s) b1 b2 live below, Option.elim_some, judgeRetry_spent (spent policy), clear,
      if_neg Bool.false_ne_true]
    generalize ((flightEnded s).lagged b).giveUp b = t at gave ⊢
    subst gave
    rfl
  · refine ⟨_, exec_fails hs hi hf, ?_⟩
    have put := putBack_form_room (fr := { fr with attempts := 0, reconfirm := false }) (f := darkBoard)
      (v := (flightEnded s).modBoard b darkBoard) b1 b2 rfl (fun _ => rfl) absent room
    exact (whole (some fr) live eighth).trans (congrArg (afterDark _) put)
  · obtain ⟨dropped, lost, put, back⟩ := putBack_form_back b1 b2 (lagged_eq (flightEnded s) b) (fun _ => rfl) hd h1 hq
    refine ⟨_, dropped, lost, (exec_fails hs hi hf).trans (congrArg _ ?_), put, back⟩
    rw [show s.failFlight (.field b fr toggle) = (flightEnded s).failAttempt b (some fr) from rfl,
      failAttempt_below (s := flightEnded s) b1 b2 live below, Option.elim_some, judgeRetry_left (left policy)]
  · obtain ⟨dropped, lost, put, back⟩ := putBack_form_back (fr := { fr with attempts := 0, reconfirm := false }) (f := darkBoard)
      (v := (flightEnded s).modBoard b darkBoard) b1 b2 rfl (fun _ => rfl) hd h1 hq
    have boards : ((flightEnded s).failAttempt b (some fr)).boards = ((flightEnded s).darkened b (some fr)).boards :=
      (congrArg State.boards (whole (some fr) live eighth) :)
    refine ⟨(flightEnded s).failAttempt b (some fr), dropped, lost, exec_fails hs hi hf, ?_, ?_⟩
    · rw [boards]
      exact (whole (some fr) live eighth).trans (congrArg (afterDark _) put)
    · rw [boards]
      exact back
  · obtain ⟨t, ht, view, others, board, served⟩ := giveUp_clear (s := flightEnded s) b1 b2 none
    have clear : fr.isClear = true := beq_iff_eq.mpr field
    refine ⟨t, (exec_fails hs hi hf).trans (congrArg _ ?_), view, others, board, fun hd => served s rfl rfl hd⟩
    rw [show s.failFlight (.field b fr toggle) = (flightEnded s).failAttempt b (some fr) from rfl,
      failAttempt_below (s := flightEnded s) b1 b2 live below, Option.elim_some, judgeRetry_spent (spent policy), clear,
      if_pos rfl, ht]
  · refine ⟨_, exec_fails hs hi hf, ?_⟩
    rw [show s.failFlight (.probe b) = (flightEnded s).failAttempt b Option.none from rfl,
      failAttempt_below (s := flightEnded s) b1 b2 live below]
    exact lagged_eq (flightEnded s) b
  · exact ⟨_, exec_fails hs hi hf, whole Option.none live eighth⟩
  · rw [exec_fails hs hi hf]
    exact congrArg _ (failAttempt_dark (s := flightEnded s) dark)
  · show Host.Outcome.next ((s.takeDue.boardLine ([startMark] ++ escape content)).modLink fun l => { l with receiver := .outside }) = _
    rw [settled_takeDue hs, boardLine_begun hf hr]
    refine congrArg Host.Outcome.next ?_
    show ({ s with link := { s.link with receiver := .outside, started := true } } : State) = _
    rw [← hr]

end Sys2Proof.Machine
end

section
/-! PROOFS. LoopLine: the bytes of a loop's frames and what is no reply (R72, R73, R79). -/

namespace Sys2Proof.Machine

/-- The receiver of a loop inside a frame. -/
def State.loopHears (s : State) (l : LoopId) (content : List Byte) (escaped bad : Bool) : State :=
  s.modLoop l fun x => { x with receiver := .inside content escaped bad, started := true }

theorem endPoll_eq (s : State) (l : LoopId) : s.endPoll l = pollEnded s l := rfl

section
variable {s : State} {l : LoopId} {n : Nat}

theorem loopByte_hears {c d : List Byte} {e f x y : Bool} {b : Byte} (hp : (s.loop l).polled = some n)
    (hr : loopReceive (.inside c e x) b = (.inside d f y, .nothing)) :
    (s.loopHears l c e x).loopByte l b = s.loopHears l d f y := by
  have polled : ((s.loopHears l c e x).loop l).polled = some n := by
    unfold State.loopHears
    rw [modLoop_loop_same]
    exact hp
  have receiving : loopReceive ((s.loopHears l c e x).loop l).receiver b = (.inside d f y, .nothing) := by
    unfold State.loopHears
    rw [modLoop_loop_same]
    exact hr
  unfold State.loopByte
  rw [polled]
  dsimp only
  rw [receiving]
  exact modLoop_modLoop ..

theorem loopLine_append (s : State) (l : LoopId) (xs ys : List Byte) :
    s.loopLine l (xs ++ ys) = (s.loopLine l xs).loopLine l ys := List.foldl_append

/-- R72: escaped bytes inside a frame are taken as they stand. -/
theorem loopLine_escape (hp : (s.loop l).polled = some n) (bad : Bool) (bs : List Byte) (content : List Byte) :
    (s.loopHears l content false bad).loopLine l (escape bs) = s.loopHears l (content ++ bs) false bad := by
  induction bs generalizing content with
  | nil => rw [List.append_nil]; rfl
  | cons b bs ih =>
    have one : (s.loopHears l content false bad).loopLine l (if isMark b then [literalMark, b] else [b]) =
        s.loopHears l (content ++ [b]) false bad := by
      cases hm : isMark b with
      | true =>
        show ((s.loopHears l content false bad).loopByte l literalMark).loopByte l b = _
        rw [loopByte_hears hp (d := content) (f := true) (y := bad) rfl, loopByte_hears hp rfl]
      | false => exact loopByte_hears hp (loopReceive_plain hm)
    rw [escape_cons, loopLine_append, one, ih, List.append_assoc]
    rfl

theorem loopLine_begun (hp : (s.loop l).polled = some n) (hr : (s.loop l).receiver = .outside) (bs : List Byte) :
    s.loopLine l ([startMark] ++ escape bs) = s.loopHears l bs false false := by
  have began : s.loopByte l startMark = s.loopHears l [] false false := by
    unfold State.loopByte
    rw [hp]
    dsimp only
    rw [hr]
    rfl
  rw [loopLine_append]
  show (s.loopByte l startMark).loopLine l (escape bs) = _
  rw [began]
  exact loopLine_escape hp false bs []

theorem loopByte_end (hp : (s.loop l).polled = some n) (content : List Byte) (bad : Bool) :
    (s.loopHears l content false bad).loopByte l endMark = (s.loopHears l content false bad).judgeReply l n content bad := by
  have polled : ((s.loopHears l content false bad).loop l).polled = some n := by
    unfold State.loopHears
    rw [modLoop_loop_same]
    exact hp
  have receiving : loopReceive ((s.loopHears l content false bad).loop l).receiver endMark = (.outside, .ended content bad) := by
    unfold State.loopHears
    rw [modLoop_loop_same]
    rfl
  unfold State.loopByte
  rw [polled]
  dsimp only
  rw [receiving]

/-- R79: a reply is judged by its content and by what the poll leaves. -/
theorem judgeReply_congr {t : State} (h : t.endPoll l = s.endPoll l) (n : Nat) (content : List Byte) (bad : Bool) :
    t.judgeReply l n content bad = s.judgeReply l n content bad := by
  unfold State.judgeReply
  rw [h]

theorem loopHears_endPoll (s : State) (l : LoopId) (content : List Byte) (e bad : Bool) :
    (s.loopHears l content e bad).endPoll l = s.endPoll l := modLoop_modLoop ..

/-- R72: the bytes of a frame are judged at its end mark. -/
theorem loopLine_framed (hp : (s.loop l).polled = some n) (hr : (s.loop l).receiver = .outside) (bs : List Byte) :
    s.loopLine l ([startMark] ++ escape bs ++ [endMark]) = s.judgeReply l n bs false := by
  rw [loopLine_append, loopLine_begun hp hr]
  exact (loopByte_end hp bs false).trans (judgeReply_congr (loopHears_endPoll ..) ..)

/-- R72: a flow mark inside a frame spoils it. -/
theorem loopLine_flow (hp : (s.loop l).polled = some n) (hr : (s.loop l).receiver = .outside) (before after : List Byte)
    {mark : Byte} (hm : mark = 0xF3#8 ∨ mark = 0xF4#8) :
    s.loopLine l ([startMark] ++ escape before ++ [mark] ++ escape after ++ [endMark]) =
      s.judgeReply l n (before ++ after) true := by
  rw [loopLine_append, loopLine_append, loopLine_append, loopLine_begun hp hr]
  have spoiled : (s.loopHears l before false false).loopLine l [mark] = s.loopHears l before false true :=
    loopByte_hears hp (loopReceive_flow hm)
  rw [spoiled, loopLine_escape hp true after before]
  exact (loopByte_end hp (before ++ after) true).trans (judgeReply_congr (loopHears_endPoll ..) ..)

theorem exec_loopLine {line : List Byte} {i : Instr} (hs : settled s = true)
    (hi : i = .statusReceived l line ∨ i = .holdReceived l line ∨ i = .loopBadReply l line) :
    exec i s = .next (s.loopLine l line) := by
  have taken : Host.Outcome.next (s.takeDue.loopLine l line) = (.next (s.loopLine l line) : Host.Outcome State Fault Refusal) := by
    rw [settled_takeDue hs]
  obtain rfl | rfl | rfl := hi
  · exact taken
  · exact taken
  · exact taken

/-! ## What is no reply (R72, R73) -/

theorem eventKind_within {k : Nat} {e : EventKind} (h : eventKind k = some e) : 1 ≤ k ∧ k ≤ 5 := by
  match k, h with
  | 0, h => cases h
  | 1, _ | 2, _ | 3, _ | 4, _ | 5, _ => exact ⟨by decide, by decide⟩
  | k + 6, h => cases h

/-- R73: what the bytes of events have to be for their reading. -/
theorem readEvents_some {bs : List Byte} {es : List Event} (h : readEvents bs = some es) {count : Nat} (hl : bs.length = 3 * count) :
    ∀ k, k < count → byteAt bs (3 * k) ≤ 7 ∧ 1 ≤ byteAt bs (3 * k + 1) ∧ byteAt bs (3 * k + 1) ≤ 5 := by
  induction count generalizing bs es with
  | zero => exact fun k hk => absurd hk (Nat.not_lt_zero k)
  | succ count ih =>
    match bs with
    | seq :: kind :: operand :: rest =>
      unfold readEvents at h
      split at h
      · next kind' es' spelled hes =>
        split at h
        · next hseq =>
          intro k hk
          cases k with
          | zero => exact ⟨hseq, eventKind_within spelled⟩
          | succ k => exact ih hes (by simp at hl; omega) k (by omega)
        · cases h
      · cases h

/-- R73: only a content with its check is a reply. -/
theorem readLoopFrame_some {content : List Byte} (h : (∃ events, readLoopFrame content false = some (.status (addressOf n) events))
    ∨ readLoopFrame content false = some (.hold (addressOf n))) : ∃ x, repliesToPoll n x ∧ content = x ++ checkBytes x := by
  unfold readLoopFrame at h
  rw [if_neg Bool.false_ne_true] at h
  split at h
  · next address kind hc =>
    have spelled : kind = 18#8 ∧ address.toNat = addressOf n := by
      obtain ⟨events, h⟩ | h := h
      · split at h <;> cases h
      · split at h
        · next hk => exact ⟨hk, LoopReply.hold.inj (Option.some.inj h)⟩
        · cases h
    exact ⟨_, ⟨address, spelled.2, .inl (by rw [spelled.1])⟩, checked_some hc⟩
  · next address kind count events hc =>
    have spelled : (kind = 17#8 ∧ count.toNat ≤ 4 ∧ events.length = 3 * count.toNat) ∧ address.toNat = addressOf n
        ∧ ∃ es, readEvents events = some es := by
      obtain ⟨es, h⟩ | h := h
      · split at h
        · next hk =>
          obtain ⟨es', hes, e⟩ := Option.map_eq_some_iff.mp h
          exact ⟨hk, (LoopReply.status.inj e).1, _, hes⟩
        · cases h
      · split at h
        · obtain ⟨_, _, e⟩ := Option.map_eq_some_iff.mp h
          cases e
        · cases h
    obtain ⟨⟨rfl, hcount, hlength⟩, ha, es, hes⟩ := spelled
    exact ⟨_, ⟨address, ha, .inr ⟨count, events, rfl, hcount, hlength, readEvents_some hes hlength⟩⟩, checked_some hc⟩
  · obtain ⟨_, h⟩ | h := h <;> cases h

/-- R79: a frame that is no reply of the polled station is a miss. -/
theorem judgeReply_wrong {content : List Byte} (h : ∀ x, repliesToPoll n x → content ≠ x ++ checkBytes x) :
    s.judgeReply l n content false = (pollEnded s l).miss n := by
  have status : ∀ a events, readLoopFrame content false = some (.status a events) → a ≠ addressOf n := by
    rintro a events hr rfl
    obtain ⟨x, hx, e⟩ := readLoopFrame_some (n := n) (.inl ⟨events, hr⟩)
    exact h x hx e
  have hold : ∀ a, readLoopFrame content false = some (.hold a) → a ≠ addressOf n := by
    rintro a hr rfl
    obtain ⟨x, hx, e⟩ := readLoopFrame_some (n := n) (.inr hr)
    exact h x hx e
  unfold State.judgeReply
  cases hr : readLoopFrame content false with
  | none => rfl
  | some r =>
    cases r with
    | status a events => exact if_neg (status a events hr)
    | hold a => exact if_neg (hold a hr)

/-- R79: what makes a poll a miss. -/
theorem exec_misses {i : Instr} (hs : settled s = true) (hi : missesPoll s l n i) (hp : (s.loop l).polled = some n) :
    exec i s = .next ((pollEnded s l).miss n) := by
  obtain ⟨line, rfl, hr, wrong⟩ | ⟨rfl, started⟩ | ⟨rfl, started⟩ := hi
  · rw [exec_loopLine hs (.inr (.inr rfl))]
    obtain ⟨content, rfl, no⟩ | ⟨before, mark, after, hm, rfl⟩ := wrong
    · rw [loopLine_framed hp hr, judgeReply_wrong no]
    · rw [loopLine_flow hp hr before after hm]
      rfl
  · show execPollResponseTimeout l s = _
    unfold execPollResponseTimeout
    rw [settled_takeDue hs]
    dsimp only
    rw [hp, started]
    rfl
  · show execLoopReplyFrameTimeout l s = _
    unfold execLoopReplyFrameTimeout
    rw [settled_takeDue hs]
    dsimp only
    rw [hp, started]
    rfl

end

end Sys2Proof.Machine
end

section
/-! PROOFS. Announced: announcements over several changes, and a section's stop logic as its calls are closed (R24, R58, R61,
R62, R89). -/

namespace Sys2Proof.Machine

/-! ## The announcements over several changes (R89) -/

/-- R89: changes one after another, the first or the second of which leaves each section's stop request as it is. -/
theorem zonesAnnounced_trans {s t u : State} (hm : t.mode = s.mode) (hd : t.defs = s.defs) (hs : t.shiftState = s.shiftState)
    (hu : u.shiftState = t.shiftState) (once : ∀ n, 1 ≤ n → n ≤ 4 → (pick t.stops n).request = (pick s.stops n).request
      ∨ (pick u.stops n).request = (pick t.stops n).request) (h : zonesAnnounced s t) (k : zonesAnnounced t u) :
    zonesAnnounced s u := by
  intro run l z d z1 z2 hz d1 d2
  have hz' : t.zoneDef z = some d := by unfold State.zoneDef at hz ⊢; rw [hd]; exact hz
  have stationDef : ∀ n, t.stationDef n = s.stationDef n := fun n => by unfold State.stationDef; rw [hd]
  obtain ⟨turned, still⟩ := h run l z d z1 z2 hz d1 d2
  obtain ⟨turned', still'⟩ := k (hm.trans run) l z d z1 z2 hz' d1 d2
  simp only [stationDef] at turned'
  refine ⟨fun change => ?_, fun _ same => ?_⟩
  · obtain first | second := once d.sec d1 d2
    · obtain ⟨text, owed⟩ := still hs first
      obtain ⟨text', owed'⟩ := turned' (.inr fun e => change.elim (fun c => c (hu.trans hs)) fun c => c (e.trans first))
      exact ⟨text', by rw [owed', owed, text]⟩
    · obtain ⟨text, owed⟩ := turned (.inr fun e => change.elim (fun c => c (hu.trans hs)) fun c => c (second.trans e))
      obtain ⟨text', owed'⟩ := still' hu second
      rw [text', owed', second, hu]
      exact ⟨text, owed⟩
  · have unturned : (pick t.stops d.sec).request = (pick s.stops d.sec).request := by
      obtain first | second := once d.sec d1 d2
      · exact first
      · exact second.symm.trans same
    obtain ⟨text, owed⟩ := still hs unturned
    obtain ⟨text', owed'⟩ := still' hu (same.trans unturned.symm)
    exact ⟨text'.trans text, owed'.trans owed⟩

/-- R89: whether the announcements have followed is read off these parts. -/
theorem zonesAnnounced_congr {s t s' t' : State} (hm : s'.mode = s.mode) (hd : s'.defs = s.defs)
    (hs : s'.shiftState = s.shiftState) (ht : t'.shiftState = t.shiftState)
    (rs : ∀ n, (pick s'.stops n).request = (pick s.stops n).request)
    (rt : ∀ n, (pick t'.stops n).request = (pick t.stops n).request)
    (ls : ∀ l, (s'.loop l).announcements = (s.loop l).announcements ∧ (s'.loop l).zonesOwed = (s.loop l).zonesOwed)
    (lt : ∀ l, (t'.loop l).announcements = (t.loop l).announcements ∧ (t'.loop l).zonesOwed = (t.loop l).zonesOwed)
    (h : zonesAnnounced s t) : zonesAnnounced s' t' := by
  unfold zonesAnnounced State.zoneDef State.stationDef at *
  simp only [hm, hd, hs, ht, rs, rt, (ls _).1, (ls _).2, (lt _).1, (lt _).2]
  exact h

theorem loopsAlone_trans {s t u : State}
    (h : ∀ l, t.loop l = { s.loop l with announcements := (t.loop l).announcements, zonesOwed := (t.loop l).zonesOwed })
    (k : ∀ l, u.loop l = { t.loop l with announcements := (u.loop l).announcements, zonesOwed := (u.loop l).zonesOwed })
    (l : LoopId) : u.loop l = { s.loop l with announcements := (u.loop l).announcements, zonesOwed := (u.loop l).zonesOwed } := by
  rw [k l, h l]

theorem loopsAnnounce_trans {s t u : State} (hm : t.mode = s.mode) (hd : t.defs = s.defs) (hs : t.shiftState = s.shiftState)
    (hu : u.shiftState = t.shiftState) (once : ∀ n, 1 ≤ n → n ≤ 4 → (pick t.stops n).request = (pick s.stops n).request
      ∨ (pick u.stops n).request = (pick t.stops n).request) (h : loopsAnnounce s t) (k : loopsAnnounce t u) :
    loopsAnnounce s u :=
  ⟨loopsAlone_trans h.1 k.1, zonesAnnounced_trans hm hd hs hu once h.2 k.2⟩

/-! ## A section's stop logic as calls are closed (R58, R61, R62) -/

/-- R58, R61, R62: stop logic of a section in line with its causes, after the calls of these numbers have left its hold
order. -/
structure CallsLeft (isManual : Bool) (ks : List Nat) (x y : StopLogic) : Prop where
  order : y.holdOrder = x.holdOrder.filter fun k => ks.all fun j => j != k
  overflow : y.overflow = x.overflow
  waiting : y.waiting = x.waiting
  unattributed : y.unattributed = x.unattributed
  coast : y.coast = x.coast
  pending : y.pending = true ↔ x.pending = true
    ∨ (y.holdOrder ≠ x.holdOrder ∧ y.holdOrder = [] ∧ x.overflow = false ∧ isManual = true)
  inLine : y.request = y.hasCause

theorem hasCause_iff {x : StopLogic} :
    x.hasCause = true ↔ x.holdOrder ≠ [] ∨ x.overflow = true ∨ x.pending = true := by
  unfold StopLogic.hasCause
  simp [or_assoc]

namespace CallsLeft
variable {m : Bool} {ks js : List Nat} {x y z : StopLogic}

theorem nil (h : x.request = x.hasCause) : CallsLeft m [] x x where
  order := (List.filter_eq_self.mpr fun _ _ => rfl).symm
  overflow := rfl
  waiting := rfl
  unattributed := rfl
  coast := rfl
  pending := ⟨.inl, fun h => h.elim id fun h => absurd rfl h.1⟩
  inLine := h

theorem trans (h : CallsLeft m ks x y) (k : CallsLeft m js y z) : CallsLeft m (ks ++ js) x z where
  order := by
    rw [k.order, h.order, List.filter_filter]
    refine List.filter_congr fun i _ => ?_
    rw [List.all_append, Bool.and_comm]
  overflow := k.overflow.trans h.overflow
  waiting := k.waiting.trans h.waiting
  unattributed := k.unattributed.trans h.unattributed
  coast := k.coast.trans h.coast
  pending := by
    have some : z.holdOrder ≠ [] → y.holdOrder ≠ [] := fun hz e => hz (by rw [k.order, e]; rfl)
    have more : y.holdOrder ≠ [] → x.holdOrder ≠ [] := fun hy e => hy (by rw [h.order, e]; rfl)
    rw [k.pending, h.pending, h.overflow, or_assoc]
    refine or_congr_right ⟨?_, fun ⟨changed, empty, off, man⟩ => ?_⟩
    · rintro (⟨changed, empty, off, man⟩ | ⟨changed, empty, off, man⟩)
      · have empty' : z.holdOrder = [] := by rw [k.order, empty]; rfl
        exact ⟨fun e => changed (empty.trans (empty'.symm.trans e)), empty', off, man⟩
      · exact ⟨fun e => more (fun e' => changed (empty.trans e'.symm)) (e.symm.trans empty), empty, off, man⟩
    · by_cases hy : y.holdOrder = []
      · exact .inl ⟨fun e => changed (empty.trans (hy.symm.trans e)), hy, off, man⟩
      · exact .inr ⟨fun e => hy (e.symm.trans empty), empty, off, man⟩
  inLine := k.inLine

/-- R62: a request that the calls' leaving has released is one of a section that is not MANUAL, and has no cause. -/
theorem released (h : CallsLeft m ks x y) (hx : x.request = x.hasCause) (before : x.request = true) (after : y.request = false) :
    m = false ∧ y.holdOrder = [] ∧ y.overflow = false ∧ y.pending = false := by
  have none : ¬ (y.holdOrder ≠ [] ∨ y.overflow = true ∨ y.pending = true) := by
    rw [← hasCause_iff, ← h.inLine, after]
    exact Bool.false_ne_true
  have some := hasCause_iff.mp (hx.symm.trans before)
  simp only [not_or, Bool.not_eq_true, Decidable.not_not, ne_eq] at none
  obtain ⟨order, overflow, pending⟩ := none
  refine ⟨?_, order, overflow, pending⟩
  by_contra man
  rw [Bool.not_eq_false] at man
  have notPending : y.pending ≠ true := by rw [pending]; exact Bool.false_ne_true
  rw [ne_eq, h.pending, not_or] at notPending
  obtain ⟨old, new⟩ := notPending
  have held : x.holdOrder ≠ [] := by
    obtain held | hold | pend := some
    · exact held
    · rw [← h.overflow, overflow] at hold
      cases hold
    · exact absurd pend old
  exact new ⟨fun e => held (e.symm.trans order), order, by rw [← h.overflow, overflow], man⟩

/-- R61: the calls' leaving asserts no request. -/
theorem request_falls (h : CallsLeft m ks x y) (hx : x.request = x.hasCause) (after : y.request = true) : x.request = true := by
  rw [h.inLine, hasCause_iff] at after
  rw [hx, hasCause_iff]
  have held : y.holdOrder ≠ [] → x.holdOrder ≠ [] := fun hy e => hy (by rw [h.order, e]; rfl)
  obtain order | overflow | pending := after
  · exact .inl (held order)
  · exact .inr (.inl (h.overflow ▸ overflow))
  · obtain old | ⟨changed, empty, -⟩ := h.pending.mp pending
    · exact .inr (.inr old)
    · exact .inl fun e => changed (empty.trans e.symm)

end CallsLeft

/-- R58, R61, R62: one HOLDING call leaves. -/
theorem left_callsLeft {m : Bool} {k : Nat} {x : StopLogic} (hx : x.request = x.hasCause) (nodup : x.holdOrder.Nodup)
    (mem : k ∈ x.holdOrder) : CallsLeft m [k] x (x.left m k) := by
  obtain ⟨order, overflow, waiting, unattributed, coast, pending, request⟩ := left_fields m k x
  have asserted : x.request = true := by
    rw [hx, hasCause_iff]
    exact .inl (List.ne_nil_of_mem mem)
  have shorter : x.holdOrder.erase k ≠ x.holdOrder := fun e => (nodup.mem_erase_iff.mp (e ▸ mem)).1 rfl
  refine ⟨?_, overflow, waiting, unattributed, ?_, ?_, rfl⟩
  · rw [order, nodup.erase_eq_filter]
    refine List.filter_congr fun i _ => ?_
    rw [List.all_cons, List.all_nil, Bool.and_true, bne_comm]
  · rw [coast, if_neg fun h => absurd (h.1.symm.trans asserted) Bool.false_ne_true]
  · rw [pending, order]
    exact or_congr_right ⟨fun ⟨empty, rest⟩ => ⟨shorter, empty, rest⟩, fun ⟨_, rest⟩ => rest⟩

/-- R58: a call that is not in the hold order changes nothing of it. -/
theorem absent_callsLeft {m : Bool} {k : Nat} {x : StopLogic} (hx : x.request = x.hasCause) (absent : k ∉ x.holdOrder) :
    CallsLeft m [k] x x where
  order := (List.filter_eq_self.mpr fun i hi => by
    rw [List.all_cons, List.all_nil, Bool.and_true]
    exact bne_iff_ne.mpr fun e => absent (e ▸ hi)).symm
  overflow := rfl
  waiting := rfl
  unattributed := rfl
  coast := rfl
  pending := ⟨.inl, fun h => h.elim id fun h => absurd rfl h.1⟩
  inLine := hx

end Sys2Proof.Machine
end

section
/-! PROOFS. Orphans: the calls of a station that are dropped when it goes OFFLINE (R24, R84). -/

namespace Sys2Proof.Machine

/-! ## The calls dropped (R24) -/

theorem dropOrphans_eq (s : State) (n : Nat) :
    s.dropOrphans n = ((orphans s n).map (·.number)).foldl (fun s k => s.closeNumber .dropped true k) s := by
  have same : (callsOfStation s n).filter (fun c => (s.classDef c.cls).orphan == .drop) = orphans s n :=
    List.filter_congr fun c _ => by cases (s.classDef c.cls).orphan <;> rfl
  unfold State.dropOrphans
  dsimp only
  rw [same]

theorem mem_orphans {s : State} {n : Nat} {c : Call} (h : c ∈ orphans s n) : c ∈ s.calls ∧ c.origin = .station n := by
  unfold orphans callsOfStation at h
  obtain ⟨hc, ho⟩ := List.mem_filter.mp (List.mem_filter.mp h).1
  exact ⟨mem_displayOrder.mp hc, by simpa using ho⟩

theorem orphans_congr {s t : State} (hc : t.calls = s.calls) (hd : t.defs = s.defs) (n : Nat) : orphans t n = orphans s n := by
  show orphans { State.reset with calls := t.calls, defs := t.defs } n =
    orphans { State.reset with calls := s.calls, defs := s.defs } n
  rw [hc, hd]

theorem orphans_nodup {s : State} (h : (s.calls.map (·.number)).Nodup) (n : Nat) : ((orphans s n).map (·.number)).Nodup := by
  unfold orphans callsOfStation
  refine (List.Nodup.sublist ((List.filter_sublist.trans List.filter_sublist).map _) ?_ : _)
  exact ((List.perm_insertionSort _ s.calls).map _).nodup_iff.mpr h

theorem closeNumbers_ops (ks : List Nat) (s : State) (o : Closing) (b : Bool) :
    ByOps s (ks.foldl (fun s k => s.closeNumber o b k) s) :=
  foldl_holds (ByOps s) _ (fun _ k h => h.trans (.closeNumber _ o b k)) _ _ (.refl s)

/-- R24: what the closing of calls one after another carries from step to step. -/
theorem closeNumbers_step {s : State} {o : Closing} {c : Call} {cs : List Call} (ho : callsInOrder s)
    (hc : ∀ d ∈ c :: cs, d ∈ s.calls) (hd : ((c :: cs).map (·.number)).Nodup) :
    s.closeNumber o true c.number = s.closeCall o true c ∧ callsInOrder (s.closeCall o true c)
      ∧ (∀ d ∈ cs, d ∈ (s.closeCall o true c).calls) ∧ (cs.map (·.number)).Nodup := by
  have mem := hc c (List.mem_cons_self ..)
  obtain ⟨hnew, hrest⟩ := List.nodup_cons.mp hd
  refine ⟨?_, (closeCall_keepsTable (p := True) o mem).order ho, fun d hd => ?_, hrest⟩
  · unfold State.closeNumber
    rw [callOf_of_distinct ho.1 mem]
  · rw [closeCall_calls, List.mem_filter]
    exact ⟨hc d (List.mem_cons_of_mem _ hd), bne_iff_ne.mpr fun e => hnew (List.mem_map.mpr ⟨d, hd, e⟩)⟩

/-- R24, R58, R61, R62: stop logic and the announcements after calls have been closed one after another. -/
theorem closeNumbers_stops (o : Closing) (cs : List Call) {s : State} (ho : callsInOrder s) (ha : holdOrdersAgree s)
    (hr : requestsHaveCauses s) (hc : ∀ d ∈ cs, d ∈ s.calls) (hd : (cs.map (·.number)).Nodup) :
    ∀ t, t = (cs.map (·.number)).foldl (fun s k => s.closeNumber o true k) s →
    (∀ n, 1 ≤ n → n ≤ 4 → CallsLeft (manual s n) (cs.map (·.number)) (pick s.stops n) (pick t.stops n))
      ∧ loopsAnnounce s t := by
  induction cs generalizing s with
  | nil =>
    rintro t rfl
    exact ⟨fun n h1 h2 => .nil (hr n h1 h2), loopsAnnounce_refl _⟩
  | cons c cs ih =>
    rintro t rfl
    obtain ⟨closed, order, mem, nodup⟩ := closeNumbers_step (o := o) ho hc hd
    have here := hc c (List.mem_cons_self ..)
    have keeps := closeCall_keepsTable (p := True) o here
    obtain ⟨left, told⟩ := ih order (closeCall_holds o true here ho ha) (keeps.causes hr) mem nodup _ rfl
    have view := ByOps.closeCall s o true c
    have first : ∀ n, 1 ≤ n → n ≤ 4 →
        CallsLeft (manual s n) [c.number] (pick s.stops n) (pick (s.closeCall o true c).stops n) := by
      intro n h1 h2
      obtain ⟨ordered, agree⟩ := ha.2 n h1 h2
      rw [closeCall_stops]
      by_cases held : c.state = .holding
      · rw [if_pos held, pick_alter_within _ _ h1 h2]
        by_cases hn : n = c.sec
        · subst hn
          rw [if_pos rfl]
          exact left_callsLeft (hr _ h1 h2) ordered ((agree _).mpr ⟨c, here, rfl, rfl, held⟩)
        · rw [if_neg hn]
          refine absent_callsLeft (hr n h1 h2) fun hk => ?_
          obtain ⟨d, hd, e, sec, -⟩ := (agree _).mp hk
          exact hn (by rw [← sec, eq_of_number ho here hd e])
      · rw [if_neg held]
        refine absent_callsLeft (hr n h1 h2) fun hk => ?_
        obtain ⟨d, hd, e, -, state⟩ := (agree _).mp hk
        exact held (by rw [← eq_of_number ho here hd e]; exact state)
    have same : ∀ n, manual (s.closeCall o true c) n = manual s n := manual_congr (closeCall_defs ..)
    simp only [same] at left
    rw [List.map_cons, List.foldl_cons, closed]
    refine ⟨fun n h1 h2 => (first n h1 h2).trans (left n h1 h2), ?_⟩
    refine loopsAnnounce_trans (closeCall_mode ..) (closeCall_defs ..) view.shiftState
      (closeNumbers_ops ..).shiftState (fun n h1 h2 => ?_) (closeCall_announces ..) told
    · by_cases still : (pick (s.closeCall o true c).stops n).request = (pick s.stops n).request
      · exact .inl still
      · have fallen : (pick (s.closeCall o true c).stops n).request = false := by
          cases now : (pick (s.closeCall o true c).stops n).request with
          | false => rfl
          | true => exact absurd (now.trans ((first n h1 h2).request_falls (hr n h1 h2) now).symm) still
        refine .inr ?_
        rw [fallen, ← Bool.not_eq_true]
        exact fun again => absurd (((left n h1 h2).request_falls (keeps.causes hr n h1 h2) again).symm.trans fallen)
          (by decide)

/-- R24, R26: the lamps after calls of one station have been closed one after another. -/
theorem closeNumbers_lamps (o : Closing) (n : Nat) (cs : List Call) {s : State} (n1 : 1 ≤ n) (n2 : n ≤ 96) (ho : callsInOrder s)
    (hc : ∀ d ∈ cs, d ∈ s.calls ∧ d.origin = .station n) (hd : (cs.map (·.number)).Nodup) :
    ∀ t, t = (cs.map (·.number)).foldl (fun s k => s.closeNumber o true k) s →
    (∀ m, 1 ≤ m → m ≤ 96 → m ≠ n → pick t.stations m = pick s.stations m)
      ∧ (cs ≠ [] → (pick t.stations n).lamp = lampOf t n) := by
  induction cs generalizing s with
  | nil =>
    rintro t rfl
    exact ⟨fun _ _ _ _ => rfl, fun h => absurd rfl h⟩
  | cons c cs ih =>
    rintro t rfl
    obtain ⟨closed, order, mem, nodup⟩ := closeNumbers_step (o := o) ho (fun d hd => (hc d hd).1) hd
    obtain ⟨others, lamp⟩ := ih order (fun d hd => ⟨mem d hd, (hc d (List.mem_cons_of_mem _ hd)).2⟩) nodup _ rfl
    have own := (hc c (List.mem_cons_self ..)).2
    have lamps := closeCall_lamps s o c
    rw [List.map_cons, List.foldl_cons, closed]
    refine ⟨fun m m1 m2 hm => ?_, fun _ => ?_⟩
    · rw [others m m1 m2 hm, lamps m m1 m2, own, if_neg fun e => hm (Origin.station.inj e).symm]
    · by_cases last : cs = []
      · subst last
        show (pick (s.closeCall o true c).stations n).lamp = lampOf (s.closeCall o true c) n
        rw [lamps n n1 n2, own, if_pos rfl]
      · exact lamp last

/-! ## A mark cleared (R63, R87) -/

theorem clearWaiting_none {s : State} {n : Nat} (h : (pick s.stations n).waiting = none) : s.clearWaiting n = s := by
  unfold State.clearWaiting
  rw [h]

theorem clearWaiting_some {s : State} {n w : Nat} (h : (pick s.stations n).waiting = some w) : s.clearWaiting n =
    (s.modStation n fun x => { x with waiting := none }).waitingFalls (sectionOfStation s n) := by
  unfold State.clearWaiting
  rw [h]

theorem waitingFalls_announces (s : State) (n : Nat) : loopsAnnounce s (s.waitingFalls n) := by
  have view : ∀ v : State, v.announceView = s.announceView → loopsAnnounce s (v.causeLeft n) :=
    fun v h => loopsAnnounce_congr h.symm rfl (causeLeft_announces v n)
  unfold State.waitingFalls
  dsimp only
  refine loopsAnnounce_ite (view _ ?_) (loopsAnnounce_of_view (modStop_view s n fun _ => rfl))
  exact (notify_view ..).trans ((handOn_view ..).trans (modStop_view s n fun _ => rfl))

theorem clearWaiting_announces (s : State) (n : Nat) : loopsAnnounce s (s.clearWaiting n) := by
  unfold State.clearWaiting
  split
  · exact loopsAnnounce_refl s
  · exact loopsAnnounce_congr (s := s.modStation n fun x => { x with waiting := none }) rfl rfl (waitingFalls_announces ..)

/-- R62, R63: a mark cleared. -/
theorem unmarked_fields (m : Bool) (x : StopLogic) :
    (x.unmarked m).holdOrder = x.holdOrder ∧ (x.unmarked m).waiting = x.waiting - 1
      ∧ (x.unmarked m).unattributed = x.unattributed
      ∧ (2 ≤ x.waiting → x.unmarked m = { x with waiting := x.waiting - 1 })
      ∧ (x.waiting ≤ 1 → (x.unmarked m).overflow = false
        ∧ ((x.unmarked m).pending = true ↔ x.pending = true ∨ (x.holdOrder = [] ∧ m = true))
        ∧ ((x.unmarked m).request = true ↔ x.holdOrder ≠ [] ∨ (x.unmarked m).pending = true)
        ∧ (x.unmarked m).coast = if x.request = false ∧ (x.unmarked m).request = true then 0 else x.coast) := by
  obtain ⟨order, overflow, waiting, pending, request, coast, unattributed⟩ := x
  unfold StopLogic.unmarked
  by_cases last : waiting ≤ 1
  · rw [if_pos last]
    unfold StopLogic.restarts StopLogic.lined StopLogic.hasCause
    have few : ¬ 2 ≤ waiting := fun h => absurd last (Nat.not_le.mpr h)
    by_cases he : order = []
    · cases pending <;> cases m <;> cases request <;> simp [he, few]
    · cases pending <;> cases m <;> cases request <;> simp [he, few]
  · rw [if_neg last]
    exact ⟨rfl, rfl, rfl, fun _ => rfl, fun h => absurd h last⟩

end Sys2Proof.Machine
end

section
/-! PROOFS. GoneOffline: a station that goes OFFLINE by a miss (R24, R79, R84). -/

namespace Sys2Proof.Machine

/-! ## Its stages -/

/-- R84: the station OFFLINE, its calls and its mark not yet taken. -/
def State.offlined (s : State) (n : Nat) : State :=
  ((s.modStation n fun x => { x with state := .offline, missRun := 0, holdRun := 0, ackThrough := none, rejected := false }).modLoop
    (loopOf n) fun x => { x with stationsOwed := x.stationsOwed.erase n }).handOn [.station n]

theorem goOffline_eq (s : State) (n : Nat) : s.goOffline n =
    (((s.offlined n).dropOrphans n).clearWaiting n).stationNotice n (pick s.stations n).state := rfl

theorem pick_station {s : State} {n m : Nat} (f : Station → Station) (m1 : 1 ≤ m) (m2 : m ≤ 96) :
    pick (s.modStation n f).stations m = if m = n then f (pick s.stations m) else pick s.stations m :=
  pick_alter_within _ _ m1 m2

theorem loop_modLoop (s : State) (l k : LoopId) (f : LoopState → LoopState) :
    (s.modLoop l f).loop k = if k = l then f (s.loop k) else s.loop k := by
  by_cases h : k = l
  · subst h
    rw [if_pos rfl, modLoop_loop_same]
  · rw [if_neg h, modLoop_loop_other _ _ h]

/-- R79: the miss counted. -/
def State.missed (s : State) (l : LoopId) (n : Nat) : State :=
  (pollEnded s l).modStation n fun x => { x with misses := min 65535 (x.misses + 1) }

theorem modLoop_butLoops (s : State) (l : LoopId) (f : LoopState → LoopState) : (s.modLoop l f).butLoops = s.butLoops := by
  cases l <;> rfl

/-- All but the stations, the loops and the equations. -/
def State.offlineView (s : State) : State := { s.butEquations.butLoops with stations := Vector.replicate 96 startStation }

theorem eq_of_offlineView {s t : State} (h : t.offlineView = s.offlineView) : t = { s with
    stations := t.stations, loopA := t.loopA, loopB := t.loopB, equations := t.equations, flags := t.flags
    relays := t.relays, tunes := t.tunes } :=
  (congrArg (fun y : State => { y with
    stations := t.stations, loopA := t.loopA, loopB := t.loopB, equations := t.equations, flags := t.flags
    relays := t.relays, tunes := t.tunes }) h :)

theorem handOn_offlineView (s : State) (cs : List Change) : (s.handOn cs).offlineView = s.offlineView :=
  (congrArg State.offlineView (handOn_butEquations s cs) :)

theorem modLoop_offlineView (s : State) (l : LoopId) (f : LoopState → LoopState) :
    (s.modLoop l f).offlineView = s.offlineView := (congrArg State.offlineView (modLoop_butLoops s l f) :)

theorem modStation_offlineView (s : State) (n : Nat) (f : Station → Station) :
    (s.modStation n f).offlineView = s.offlineView := rfl

theorem pollEnded_offlineView (s : State) (l : LoopId) : (pollEnded s l).offlineView = s.offlineView := modLoop_offlineView ..

theorem missed_offlineView (s : State) (l : LoopId) (n : Nat) : (s.missed l n).offlineView = s.offlineView :=
  (modStation_offlineView ..).trans (pollEnded_offlineView ..)

theorem offlined_offlineView (s : State) (n : Nat) : (s.offlined n).offlineView = s.offlineView :=
  (handOn_offlineView ..).trans ((modLoop_offlineView ..).trans (modStation_offlineView ..))

theorem offlined_station (s : State) (l : LoopId) {n m : Nat} (m1 : 1 ≤ m) (m2 : m ≤ 96) :
    pick ((s.missed l n).offlined n).stations m = if m = n then { pick s.stations m with
      state := .offline, missRun := 0, holdRun := 0, ackThrough := none, rejected := false
      misses := min 65535 ((pick s.stations m).misses + 1) } else pick s.stations m := by
  unfold State.offlined
  rw [handOn_stations, modLoop_stations, pick_station _ m1 m2]
  unfold State.missed
  rw [pick_station _ m1 m2]
  by_cases h : m = n
  · rw [if_pos h, if_pos h, if_pos h]
    unfold pollEnded
    rw [modLoop_stations]
  · rw [if_neg h, if_neg h, if_neg h]
    unfold pollEnded
    rw [modLoop_stations]

theorem modStation_loop (s : State) (n : Nat) (f : Station → Station) (k : LoopId) : (s.modStation n f).loop k = s.loop k := by
  cases k <;> rfl

theorem handOn_loop (s : State) (cs : List Change) (k : LoopId) : (s.handOn cs).loop k = s.loop k := by
  cases k
  · exact handOn_loopA ..
  · exact handOn_loopB ..

theorem pollEnded_loop (s : State) (l k : LoopId) : (pollEnded s l).loop k =
    if k = l then { s.loop k with polled := none, started := false, receiver := .outside } else s.loop k := loop_modLoop ..

theorem offlined_loop (s : State) (l k : LoopId) (n : Nat) : ((s.missed l n).offlined n).loop k = { (pollEnded s l).loop k with
    stationsOwed := if k = loopOf n then ((s.loop k).stationsOwed).erase n else (s.loop k).stationsOwed } := by
  have owed : ((pollEnded s l).loop k).stationsOwed = (s.loop k).stationsOwed := by
    rw [pollEnded_loop]
    split <;> rfl
  unfold State.offlined
  rw [handOn_loop, loop_modLoop, modStation_loop]
  unfold State.missed
  rw [modStation_loop]
  by_cases h : k = loopOf n
  · rw [if_pos h, if_pos h, owed]
  · rw [if_neg h, if_neg h, ← owed]

/-! ## The calls dropped, and the mark cleared -/

theorem closeNumbers_lampsAlone (ks : List Nat) (s : State) (o : Closing) (b : Bool) :
    lampsAlone s (ks.foldl (fun s k => s.closeNumber o b k) s) :=
  foldl_holds (lampsAlone s) _ (fun _ k h => lampsAlone_trans h (closeNumber_lampsAlone _ o b k)) _ _ (lampsAlone_of_eq rfl)

theorem closeNumbers_loops (ks : List Nat) (s : State) (o : Closing) (l : LoopId) :
    ∀ t, t = ks.foldl (fun s k => s.closeNumber o true k) s →
    t.loop l = { s.loop l with announcements := (t.loop l).announcements, zonesOwed := (t.loop l).zonesOwed } := by
  rintro t rfl
  refine foldl_holds (fun t : State => ∀ l, t.loop l =
    { s.loop l with announcements := (t.loop l).announcements, zonesOwed := (t.loop l).zonesOwed }) _ (fun u k h => ?_) _ _
    (fun _ => rfl) l
  refine loopsAlone_trans h ?_
  unfold State.closeNumber
  split
  · exact (closeCall_announces u o _).1
  · exact fun _ => rfl

theorem closeNumbers_counts (ks : List Nat) (s : State) (o : Closing) (b : Bool) :
    ∀ t, t = ks.foldl (fun s k => s.closeNumber o b k) s → t.lastNumber = s.lastNumber ∧ t.arrivalCount = s.arrivalCount := by
  rintro t rfl
  refine foldl_holds (fun t : State => t.lastNumber = s.lastNumber ∧ t.arrivalCount = s.arrivalCount) _ (fun u k h => ?_) _ _
    ⟨rfl, rfl⟩
  obtain ⟨last, count⟩ := h
  refine ⟨(closeNumber_lastNumber u o b k).trans last, ?_⟩
  unfold State.closeNumber
  split
  · exact (closeCall_arrivalCount ..).trans count
  · exact count

theorem clearWaiting_station (s : State) {n m : Nat} (m1 : 1 ≤ m) (m2 : m ≤ 96) : pick (s.clearWaiting n).stations m =
    if m = n then { pick s.stations m with waiting := none } else pick s.stations m := by
  cases h : (pick s.stations n).waiting with
  | none =>
    rw [clearWaiting_none h]
    by_cases hm : m = n
    · rw [if_pos hm, hm, ← h]
    · rw [if_neg hm]
  | some w =>
    have falls : (s.clearWaiting n).stations = (s.modStation n fun x => { x with waiting := none }).stations := by
      rw [clearWaiting_some h]
      exact (congrArg State.stations (waitingFalls_butStops ..) :)
    rw [falls, pick_station _ m1 m2]

theorem clearWaiting_stops (s : State) (n : Nat) : (s.clearWaiting n).stops =
    if (pick s.stations n).waiting.isSome then
      alter s.stops (sectionOfStation s n) (StopLogic.unmarked (manual s (sectionOfStation s n))) else s.stops := by
  cases h : (pick s.stations n).waiting with
  | none => rw [clearWaiting_none h]; rfl
  | some w =>
    rw [clearWaiting_some h, waitingFalls_stops]
    rfl

end Sys2Proof.Machine
end

section
/-! PROOFS. PollMissesTaken: the misses of a poll, and a station gone OFFLINE (R24, R79, R80, R84). -/

namespace Sys2Proof.Machine

/-- R84, R94: the STATION notice, told last. -/
theorem stationNotice_offline {s c : State} {n : Nat} (hn : s.host.Notified c.host) (time : c.timeOfDay = s.timeOfDay)
    (off : (pick c.stations n).state = .offline)
    (quiet : orphans s n = [] → (pick s.stations n).waiting = none → c.host = s.host) :
    offlineNotice n s (c.stationNotice n (pick s.stations n).state) := by
  rintro frame rfl
  have reports : c.host.reports = s.host.reports := by rw [hn.rest]
  have told : c.stationNotice n (pick s.stations n).state = c.notify (.station n (loopOf n) (addressOf n)
      (pick s.stations n).state .offline (pick c.stations n).misses (stationCalls c n)) := by
    unfold State.stationNotice
    dsimp only
    rw [off]
  have calls : ∀ x, stationCalls (c.notify x) n = stationCalls c n := fun x => by
    unfold stationCalls
    rw [notify_calls]
  rw [told, notify_stations, calls]
  have heard : Notice.kind (.station n (loopOf n) (addressOf n) (pick s.stations n).state .offline (pick c.stations n).misses
      (stationCalls c n)) = .station := rfl
  generalize Notice.station n (loopOf n) (addressOf n) (pick s.stations n).state .offline (pick c.stations n).misses
      (stationCalls c n) = notice at heard ⊢
  have place : pick c.host.reports notice.kind.place = pick s.host.reports 3 := by rw [reports, heard]; rfl
  obtain ⟨ns, outbound⟩ := hn.outbound
  refine ⟨fun on => ?_, fun none unmarked => ⟨fun off => ?_, fun on room => ?_⟩⟩
  · by_cases room : c.host.outbound.length < 24
    · refine .inl ⟨ns, ?_⟩
      rw [notify_room (place.trans on) room, outbound, time]
    · refine .inr ?_
      rw [notify_lost (place.trans on) (Nat.not_lt.mp room)]
      have lost := hn.lost
      dsimp only
      omega
  · rw [notify_quiet (place.trans off), quiet none unmarked]
  · rw [notify_room (place.trans on) (by rw [quiet none unmarked]; exact room), time, quiet none unmarked]

/-! ## Stop logic after it (R62, R63) -/

/-- R62, R63: a section's stop logic after the calls of these numbers have left its hold order and, where its station was
marked, the mark. -/
def markLifted (isManual marked : Bool) (y : StopLogic) : StopLogic := if marked then y.unmarked isManual else y

section
variable {m marked : Bool} {ks : List Nat} {x y : StopLogic}

theorem markLifted_request (h : CallsLeft m ks x y) (hx : x.request = x.hasCause) :
    y.request = x.request ∨ (markLifted m marked y).request = y.request := by
  unfold markLifted
  cases marked with
  | false => exact .inr rfl
  | true =>
    rw [if_pos rfl]
    cases before : x.request with
    | false =>
      refine .inl ?_
      rw [← Bool.not_eq_true]
      exact fun after => absurd ((h.request_falls hx after).symm.trans before) (by decide)
    | true =>
      cases after : y.request with
      | true => exact .inl rfl
      | false =>
        refine .inr ?_
        obtain ⟨man, order, overflow, pending⟩ := h.released hx before after
        obtain ⟨-, -, -, many, last⟩ := unmarked_fields m y
        by_cases two : 2 ≤ y.waiting
        · rw [many two]
          exact after
        · obtain ⟨-, pend, request, -⟩ := last (by omega)
          rw [← Bool.not_eq_true, request, pend, order, man, pending]
          simp

/-- R58, R61, R62: the calls' leaving, part by part. -/
theorem CallsLeft.fields (h : CallsLeft m ks x y) (hx : x.request = x.hasCause) :
    y.coast = (if x.request = false ∧ y.request = true then 0 else x.coast)
      ∧ (y.pending = true ↔ x.pending = true
        ∨ (y.holdOrder ≠ x.holdOrder ∧ y.holdOrder = [] ∧ y.overflow = false ∧ m = true))
      ∧ (y.request = true ↔ y.holdOrder ≠ [] ∨ y.overflow = true ∨ y.pending = true) := by
  have fallen : ¬ (x.request = false ∧ y.request = true) := fun ⟨before, after⟩ =>
    absurd ((h.request_falls hx after).symm.trans before) (by decide)
  refine ⟨by rw [if_neg fallen, h.coast], ?_, by rw [h.inLine, hasCause_iff]⟩
  rw [h.pending, h.overflow]

/-- R62, R63: the parts of it. -/
theorem markLifted_fields (h : CallsLeft m ks x y) (hx : x.request = x.hasCause) :
    ∀ z, z = markLifted m marked y →
    z.holdOrder = x.holdOrder.filter (fun k => ks.all fun j => j != k)
      ∧ z.waiting = (if marked then x.waiting - 1 else x.waiting)
      ∧ z.overflow = (x.overflow && (!marked || decide (2 ≤ x.waiting)))
      ∧ z.unattributed = x.unattributed
      ∧ z.coast = (if x.request = false ∧ z.request = true then 0 else x.coast)
      ∧ (z.pending = true ↔ x.pending = true
        ∨ ((z.holdOrder ≠ x.holdOrder ∨ (marked = true ∧ x.waiting ≤ 1)) ∧ z.holdOrder = [] ∧ z.overflow = false ∧ m = true))
      ∧ (z.request = true ↔ z.holdOrder ≠ [] ∨ z.overflow = true ∨ z.pending = true) := by
  rintro z rfl
  cases marked with
  | false =>
    show y.holdOrder = _ ∧ y.waiting = x.waiting ∧ y.overflow = _ ∧ y.unattributed = _
      ∧ y.coast = (if x.request = false ∧ y.request = true then 0 else x.coast)
      ∧ (y.pending = true ↔ x.pending = true ∨ ((y.holdOrder ≠ x.holdOrder ∨ (false = true ∧ x.waiting ≤ 1))
        ∧ y.holdOrder = [] ∧ y.overflow = false ∧ m = true))
      ∧ (y.request = true ↔ y.holdOrder ≠ [] ∨ y.overflow = true ∨ y.pending = true)
    obtain ⟨coast, pending, request⟩ := h.fields hx
    refine ⟨h.order, h.waiting, ?_, h.unattributed, coast, ?_, request⟩
    · rw [h.overflow, Bool.not_false, Bool.true_or, Bool.and_true]
    · rw [pending]
      simp
  | true =>
    show (y.unmarked m).holdOrder = _ ∧ (y.unmarked m).waiting = x.waiting - 1
      ∧ (y.unmarked m).overflow = (x.overflow && decide (2 ≤ x.waiting)) ∧ (y.unmarked m).unattributed = _
      ∧ (y.unmarked m).coast = (if x.request = false ∧ (y.unmarked m).request = true then 0 else x.coast)
      ∧ ((y.unmarked m).pending = true ↔ x.pending = true
        ∨ (((y.unmarked m).holdOrder ≠ x.holdOrder ∨ (true = true ∧ x.waiting ≤ 1)) ∧ (y.unmarked m).holdOrder = []
          ∧ (y.unmarked m).overflow = false ∧ m = true))
      ∧ ((y.unmarked m).request = true ↔
        (y.unmarked m).holdOrder ≠ [] ∨ (y.unmarked m).overflow = true ∨ (y.unmarked m).pending = true)
    have turned := markLifted_request (marked := true) h hx
    change y.request = x.request ∨ (y.unmarked m).request = y.request at turned
    obtain ⟨order, waiting, unattributed, many, last⟩ := unmarked_fields m y
    rw [h.waiting] at waiting many last
    by_cases two : 2 ≤ x.waiting
    · obtain ⟨coast, pending, request⟩ := h.fields hx
      rw [many two]
      refine ⟨h.order, rfl, ?_, h.unattributed, coast, ?_, request⟩
      · show y.overflow = _
        rw [h.overflow, decide_eq_true two, Bool.and_true]
      · show y.pending = true ↔ x.pending = true ∨ ((y.holdOrder ≠ x.holdOrder ∨ (true = true ∧ x.waiting ≤ 1))
          ∧ y.holdOrder = [] ∧ y.overflow = false ∧ m = true)
        rw [pending]
        simp [show ¬ x.waiting ≤ 1 by omega]
    · have few : x.waiting ≤ 1 := by omega
      obtain ⟨overflow, pending, request, coast⟩ := last few
      refine ⟨order.trans h.order, waiting, ?_, unattributed.trans h.unattributed, ?_, ?_, ?_⟩
      · rw [overflow, decide_eq_false two, Bool.and_false]
      · rw [coast, h.coast]
        obtain same | same := turned
        · rw [same]
        · rw [same, if_neg fun ⟨off, on⟩ => absurd (off.symm.trans on) (by decide),
            if_neg fun ⟨off, on⟩ => absurd (off.symm.trans (h.request_falls hx on)) (by decide)]
      · rw [pending, h.pending, order, overflow]
        constructor
        · rintro ((old | ⟨-, empty, -, man⟩) | ⟨empty, man⟩)
          · exact .inl old
          · exact .inr ⟨.inr ⟨rfl, few⟩, empty, rfl, man⟩
          · exact .inr ⟨.inr ⟨rfl, few⟩, empty, rfl, man⟩
        · rintro (old | ⟨-, empty, -, man⟩)
          · exact .inl (.inl old)
          · exact .inr ⟨empty, man⟩
      · rw [request, order, overflow]
        simp

end

end Sys2Proof.Machine
end

section
/-! PROOFS. PollMissesTaken: the misses of a poll, and a station gone OFFLINE (R24, R79, R80, R84). -/

namespace Sys2Proof.Machine

theorem dropOrphans_of {s a : State} (hc : a.calls = s.calls) (hd : a.defs = s.defs) (n : Nat) :
    a.dropOrphans n = ((orphans s n).map (·.number)).foldl (fun s k => s.closeNumber .dropped true k) a := by
  rw [dropOrphans_eq, orphans_congr hc hd]

theorem orphans_all {s : State} {n : Nat} (k : Nat) :
    ((orphans s n).map (·.number)).all (fun j => k != j) = (orphans s n).all fun c => c.number != k := by
  rw [List.all_map]
  exact congrArg (fun f => (orphans s n).all f) (funext fun c => bne_comm)

theorem clearWaiting_calls (s : State) (n : Nat) : (s.clearWaiting n).calls = s.calls := by
  cases h : (pick s.stations n).waiting with
  | none => rw [clearWaiting_none h]
  | some w =>
    rw [clearWaiting_some h]
    exact (congrArg State.calls (waitingFalls_butStops ..) :)

/-- R24: the state b is the state a with the orphans that station n has in s dropped. -/
structure OrphansDropped (s a b : State) (n : Nat) : Prop where
  ops : ByOps a b
  calls : b.calls = s.calls.filter fun x => (orphans s n).all fun c => c.number != x.number
  counts : b.lastNumber = a.lastNumber ∧ b.arrivalCount = a.arrivalCount
  lamps : lampsAlone a b
  loops : ∀ l, b.loop l = { a.loop l with announcements := (b.loop l).announcements, zonesOwed := (b.loop l).zonesOwed }
  none : orphans s n = [] → b = a
  own : callsInOrder s → (∀ m, 1 ≤ m → m ≤ 96 → m ≠ n → pick b.stations m = pick a.stations m)
    ∧ (orphans s n ≠ [] → (pick b.stations n).lamp = lampOf b n)
  history : callsInOrder s → historyBounded a → recordsAppended ((orphans s n).map (closingOf a .dropped)) a b
  stops : callsInOrder s → holdOrdersAgree s → requestsHaveCauses s → (∀ m, 1 ≤ m → m ≤ 4 →
      CallsLeft (manual s m) ((orphans s n).map (·.number)) (pick s.stops m) (pick b.stops m)) ∧ loopsAnnounce a b

theorem dropOrphans_dropped {s a : State} {n : Nat} (n1 : 1 ≤ n) (n2 : n ≤ 96) (hc : a.calls = s.calls) (hd : a.defs = s.defs)
    (hs : a.stops = s.stops) (ha : a.arrivalCount = s.arrivalCount) : OrphansDropped s a (a.dropOrphans n) n := by
  have order : callsInOrder s → callsInOrder a := fun h => by
    unfold callsInOrder
    rw [hc, ha]
    exact h
  have agree : holdOrdersAgree s → holdOrdersAgree a := fun h => by
    unfold holdOrdersAgree
    rw [hc, hs]
    exact h
  have mem : ∀ c ∈ orphans s n, c ∈ a.calls ∧ c.origin = .station n := fun c h => by
    rw [hc]
    exact mem_orphans h
  have manuals : ∀ m, manual a m = manual s m := manual_congr hd
  rw [dropOrphans_of hc hd]
  refine ⟨closeNumbers_ops .., ?_, closeNumbers_counts _ _ _ _ _ rfl, closeNumbers_lampsAlone _ _ _ _, fun l => closeNumbers_loops _ _ _ l _ rfl,
    fun none => by rw [none]; rfl, fun ho => ?_, fun ho hb => ?_, fun ho hh hr => ?_⟩
  · rw [closeNumbers_calls, hc]
    exact List.filter_congr fun x _ => orphans_all x.number
  · exact closeNumbers_lamps .dropped n _ n1 n2 (order ho) mem (orphans_nodup ho.1 n) _ rfl
  · exact closeNumbers_recorded .dropped true _ hb (order ho).1 (fun c h => (mem c h).1) (orphans_nodup ho.1 n)
  · have closed := closeNumbers_stops .dropped (orphans s n) (order ho) (agree hh) (requestsHaveCauses_congr hs hr)
      (fun c h => (mem c h).1) (orphans_nodup ho.1 n) _ rfl
    rw [hs] at closed
    simp only [manuals] at closed
    exact closed

theorem missed_goOffline (s : State) (l : LoopId) {n : Nat} (n1 : 1 ≤ n) (n2 : n ≤ 96) : (s.missed l n).goOffline n =
    ((((s.missed l n).offlined n).dropOrphans n).clearWaiting n).stationNotice n (pick s.stations n).state := by
  have before : (pick (s.missed l n).stations n).state = (pick s.stations n).state := by
    unfold State.missed
    rw [pick_station _ n1 n2, if_pos rfl]
    unfold pollEnded
    rw [modLoop_stations]
  rw [goOffline_eq, before]

theorem butCalls_of_offlineView {s t : State} (h : t.offlineView = s.offlineView) : t.butCalls = s.butCalls :=
  (congrArg State.butCalls h :)

/-- R24, R84: what stays of a state with its orphans dropped. -/
theorem goOffline_view (s : State) (l : LoopId) (n : Nat) : ((s.missed l n).goOffline n).butCalls = s.butCalls := by
  rw [goOffline_eq]
  refine (butCalls_of_butChange (notify_butChange ..)).trans ((butCalls_of_butChange (clearWaiting_butChange ..)).trans
    ((dropOrphans_butCalls ..).trans ?_))
  exact butCalls_of_offlineView ((offlined_offlineView _ n).trans (missed_offlineView s l n))

theorem shows_of_offlineView {s t : State} (h : t.offlineView = s.offlineView) : Shows s t :=
  .of_eq (congrArg State.boards h :) (congrArg State.fields h :) (congrArg State.host h :)

theorem goOffline_shows (s : State) (l : LoopId) (n : Nat) : Shows s ((s.missed l n).goOffline n) := by
  rw [goOffline_eq]
  exact (shows_of_offlineView ((offlined_offlineView _ n).trans (missed_offlineView s l n))).trans (((ByOps.dropOrphans _ n).trans
    ((ByOps.clearWaiting _ n).trans (.notify ..))).shows)

/-- R63: the section of a marked station loses one mark. -/
theorem markCleared_stop {s b c : State} {n m : Nat} {marked : Bool} (m1 : 1 ≤ m) (m2 : m ≤ 4) (hd : b.defs = s.defs)
    (waiting : (pick b.stations n).waiting = (pick s.stations n).waiting)
    (fallen : c.stops = if (pick b.stations n).waiting.isSome then
      alter b.stops (sectionOfStation b n) (StopLogic.unmarked (manual b (sectionOfStation b n))) else b.stops)
    (hm : marked = ((pick s.stations n).waiting.isSome && decide (sectionOfStation s n = m))) :
    pick c.stops m = markLifted (manual s m) marked (pick b.stops m) := by
  have sec : sectionOfStation b n = sectionOfStation s n := by
    unfold sectionOfStation State.stationDef State.zoneDef
    rw [hd]
  rw [fallen, waiting, sec, hm, manual_congr hd]
  cases (pick s.stations n).waiting.isSome with
  | false => rfl
  | true =>
    rw [if_pos rfl, pick_alter_within _ _ m1 m2, Bool.true_and]
    by_cases h : m = sectionOfStation s n
    · subst h
      rw [if_pos rfl, decide_eq_true rfl]
      rfl
    · rw [if_neg h, decide_eq_false fun e => h e.symm]
      rfl

/-- R24, R62, R63, R79, R84: a station goes OFFLINE. -/
theorem goOffline_gone (s : State) (l : LoopId) {n : Nat} (n1 : 1 ≤ n) (n2 : n ≤ 96) :
    goneOffline l n s ((s.missed l n).goOffline n) := by
  have whole := goOffline_view s l n
  have shows_ := goOffline_shows s l n
  rw [missed_goOffline s l n1 n2] at whole shows_ ⊢
  have view : ((s.missed l n).offlined n).offlineView = s.offlineView := (offlined_offlineView _ n).trans (missed_offlineView s l n)
  have station := fun m m1 m2 => offlined_station s l (n := n) (m := m) m1 m2
  have loops := fun k => offlined_loop s l k n
  generalize (s.missed l n).offlined n = a at whole shows_ view station loops ⊢
  have calls : a.calls = s.calls := (congrArg State.calls view :)
  have defs : a.defs = s.defs := (congrArg State.defs view :)
  have stops : a.stops = s.stops := (congrArg State.stops view :)
  have arrival : a.arrivalCount = s.arrivalCount := (congrArg State.arrivalCount view :)
  have host : a.host = s.host := (congrArg State.host view :)
  have time : a.timeOfDay = s.timeOfDay := (congrArg State.timeOfDay view :)
  have keptLast : a.lastNumber = s.lastNumber := (congrArg State.lastNumber view :)
  have keptHistory : s.history = a.history ∧ s.nextSeq = a.nextSeq ∧ s.overflowCount = a.overflowCount :=
    ⟨(congrArg State.history view.symm :), (congrArg State.nextSeq view.symm :), (congrArg State.overflowCount view.symm :)⟩
  have keptStale : a.staleTimer = s.staleTimer := (congrArg State.staleTimer view :)
  have dropped := dropOrphans_dropped n1 n2 calls defs stops arrival
  have lifted := fun m m1 m2 => clearWaiting_station (a.dropOrphans n) (n := n) (m := m) m1 m2
  have fallen := clearWaiting_stops (a.dropOrphans n) n
  have cleared := ByOps.clearWaiting (a.dropOrphans n) n
  have clearView := clearWaiting_butChange (a.dropOrphans n) n
  have announces := clearWaiting_announces (a.dropOrphans n) n
  have unmarked : (pick (a.dropOrphans n).stations n).waiting = none → (a.dropOrphans n).clearWaiting n = a.dropOrphans n :=
    clearWaiting_none
  generalize a.dropOrphans n = b at whole shows_ dropped lifted fallen cleared clearView announces unmarked ⊢
  have clearCalls : (b.clearWaiting n).calls = b.calls := clearWaiting_calls b n
  generalize b.clearWaiting n = c at whole shows_ lifted fallen cleared clearView announces unmarked clearCalls ⊢
  have notified : s.host.Notified c.host := by
    rw [← host]
    exact (dropped.ops.trans cleared).shows.host
  have waiting : (pick b.stations n).waiting = (pick s.stations n).waiting := by
    rw [dropped.lamps n n1 n2, station n n1 n2, if_pos rfl]
  have off : (pick c.stations n).state = .offline := by
    rw [lifted n n1 n2, if_pos rfl, dropped.lamps n n1 n2, station n n1 n2, if_pos rfl]
  have told : c.stationNotice n (pick s.stations n).state =
      { c with host := (c.stationNotice n (pick s.stations n).state).host } := eq_of_butHost (notify_butHost ..)
  have quiet : orphans s n = [] → (pick s.stations n).waiting = none → c.host = s.host := fun none mark => by
    rw [unmarked (waiting.trans mark), dropped.none none, host]
  have notice := stationNotice_offline notified ((cleared.timeOfDay.trans dropped.ops.timeOfDay).trans time) off quiet
  generalize c.stationNotice n (pick s.stations n).state = t at whole shows_ told notice ⊢
  have tStations : t.stations = c.stations := (congrArg State.stations told :)
  have tStops : t.stops = c.stops := (congrArg State.stops told :)
  have tCalls : t.calls = b.calls := (congrArg State.calls told :).trans clearCalls
  have tLoop : ∀ k, t.loop k = c.loop k := fun k => by rw [told]; cases k <;> rfl
  have tDefs : t.defs = b.defs := (congrArg State.defs told :).trans cleared.defs
  have lampSame : lampOf t n = lampOf b n := lampOf_congr tCalls tDefs n
  have history : t.history = b.history ∧ t.nextSeq = b.nextSeq ∧ t.overflowCount = b.overflowCount
      ∧ t.staleTimer = b.staleTimer ∧ t.lastNumber = b.lastNumber ∧ t.arrivalCount = b.arrivalCount := by
    rw [told]
    exact ⟨(congrArg State.history clearView :), (congrArg State.nextSeq clearView :), (congrArg State.overflowCount clearView :),
      (congrArg State.staleTimer clearView :), (congrArg State.lastNumber clearView :), (congrArg State.arrivalCount clearView :)⟩
  obtain ⟨hist, seq, overflowed, stale, last, count⟩ := history
  have here : pick t.stations n = { pick s.stations n with
      state := .offline, missRun := 0, holdRun := 0, ackThrough := none, rejected := false, waiting := none
      misses := min 65535 ((pick s.stations n).misses + 1), lamp := (pick b.stations n).lamp } := by
    rw [tStations, lifted n n1 n2, if_pos rfl, dropped.lamps n n1 n2, station n n1 n2, if_pos rfl]
  have lamp : (pick t.stations n).lamp = (pick b.stations n).lamp := by rw [here]
  refine ⟨?_, ?_, fun none => ?_, fun ho some => ?_, fun ho m m1 m2 hm => ?_, fun k => ?_, fun ho h1 h2 h3 => ?_, fun none => ?_,
    fun ho hh hr => ?_, notice⟩
  · refine sameButShown_of_change (s := s) ?_ ?_ shows_
    · exact ⟨modLoop_boards .., modLoop_fields .., modLoop_host ..⟩
    · rw [butShown_of_calls whole, tCalls, dropped.calls, last, dropped.counts.1, count, dropped.counts.2, arrival,
        keptLast]
      cases l <;> rfl
  · rw [here]
  · rw [lamp, dropped.none none, station n n1 n2, if_pos rfl]
  · rw [lamp, lampSame]
    exact (dropped.own ho).2 some
  · rw [tStations, lifted m m1 m2, if_neg hm, (dropped.own ho).1 m m1 m2 hm, station m m1 m2, if_neg hm]
  · rw [tLoop, announces.1 k, dropped.loops k, loops k]
  · have bounded : historyBounded a := by
      unfold historyBounded
      rw [← keptHistory.1, ← keptHistory.2.1, ← keptHistory.2.2]
      exact ⟨h1, h2, h3⟩
    have recorded := dropped.history ho bounded
    have records : (orphans s n).map (closingOf a .dropped) = (orphans s n).map (closingOf s .dropped) :=
      List.map_congr_left fun d _ => closedRecord_congr time d .dropped
    rw [records] at recorded
    exact recordsAppended_congr recorded keptHistory ⟨hist, seq, overflowed⟩
  · rw [stale, dropped.none none, keptStale]
  · obtain ⟨left, closed⟩ := dropped.stops ho hh hr
    have stop : ∀ m, 1 ≤ m → m ≤ 4 → ∀ marked,
        marked = ((pick s.stations n).waiting.isSome && decide (sectionOfStation s n = m)) →
        pick t.stops m = markLifted (manual s m) marked (pick b.stops m) :=
      fun m m1 m2 marked hm => by
        rw [tStops]
        exact markCleared_stop m1 m2 (dropped.ops.defs.trans defs) waiting fallen hm
    refine ⟨fun m m1 m2 marked hm => ?_, ?_⟩
    · have fields := markLifted_fields (left m m1 m2) (hr m m1 m2) _ (stop m m1 m2 marked hm)
      rw [manual_iff] at fields
      simp only [List.all_map] at fields
      exact fields
    · have once : ∀ m, 1 ≤ m → m ≤ 4 → (pick b.stops m).request = (pick a.stops m).request
          ∨ (pick c.stops m).request = (pick b.stops m).request := fun m m1 m2 => by
        rw [stops, ← tStops, stop m m1 m2 _ rfl]
        exact markLifted_request (left m m1 m2) (hr m m1 m2)
      have follow := zonesAnnounced_trans dropped.ops.mode dropped.ops.defs dropped.ops.shiftState cleared.shiftState once
        closed.2 announces.2
      refine zonesAnnounced_congr (s := a) (t := c) (congrArg State.mode view.symm :) defs.symm (congrArg State.shiftState view.symm :)
        (congrArg State.shiftState told :) (fun m => by rw [stops]) (fun m => by rw [tStops]) (fun k => ?_)
        (fun k => by rw [tLoop]; exact ⟨rfl, rfl⟩) follow
      rw [loops k, pollEnded_loop]
      split <;> exact ⟨rfl, rfl⟩

/-! ## The misses of a poll (R79, R80) -/

theorem pollEnded_stations (s : State) (l : LoopId) : (pollEnded s l).stations = s.stations := modLoop_stations ..

theorem missed_station (s : State) (l : LoopId) {n : Nat} (n1 : 1 ≤ n) (n2 : n ≤ 96) : pick (s.missed l n).stations n =
    { pick s.stations n with misses := min 65535 ((pick s.stations n).misses + 1) } := by
  unfold State.missed
  rw [pick_station _ n1 n2, if_pos rfl, pollEnded_stations]

theorem missed_defs (s : State) (l : LoopId) (n : Nat) : (s.missed l n).defs = s.defs := modLoop_defs ..

theorem modStation_modStation (s : State) (n : Nat) (f g : Station → Station) :
    (s.modStation n f).modStation n g = s.modStation n fun x => g (f x) :=
  congrArg (fun v => ({ s with stations := v } : State)) (alter_alter ..)

/-- R79, R80: one miss. -/
theorem miss_eq (s : State) (l : LoopId) {n : Nat} (n1 : 1 ≤ n) (n2 : n ≤ 96) : (pollEnded s l).miss n =
    if (pick s.stations n).state = .offline then s.missed l n
    else if (pick s.stations n).missRun + 1 < (loopSettings s (loopOf n)).missLimit then
      (s.missed l n).modStation n fun x => { x with missRun := x.missRun + 1 }
    else (s.missed l n).goOffline n := by
  have taken : ∀ v, v = s.missed l n → (pollEnded s l).miss n =
      if (pick v.stations n).state = .offline then v
      else if (pick v.stations n).missRun + 1 < (loopSettings v (loopOf n)).missLimit then
        v.modStation n fun x => { x with missRun := x.missRun + 1 }
      else v.goOffline n := by
    rintro v rfl
    rfl
  have settings : loopSettings (s.missed l n) (loopOf n) = loopSettings s (loopOf n) := by
    unfold loopSettings
    rw [missed_defs]
  rw [taken _ rfl, missed_station s l n1 n2, settings]

/-- Settles O50: a miss is counted, and at the miss limit the stages of going OFFLINE follow. -/
theorem pollMissesTaken : Obligations.PollMissesTaken := by
  unfold Obligations.PollMissesTaken
  intro s l n hs hp n1 n2
  refine ⟨fun i hi => ⟨fun off => ?_, fun live below => ?_, fun live limit => ?_⟩, fun content hr => ?_⟩
  · rw [exec_misses hs hi hp, miss_eq s l n1 n2, if_pos off]
    rfl
  · rw [exec_misses hs hi hp, miss_eq s l n1 n2, if_neg live, if_pos below]
    exact congrArg Host.Outcome.next (modStation_modStation ..)
  · rw [exec_misses hs hi hp, miss_eq s l n1 n2, if_neg live, if_neg (Nat.not_lt.mpr limit)]
    exact ⟨_, rfl, goOffline_gone s l n1 n2⟩
  · show Host.Outcome.next ((s.takeDue.loopLine l ([startMark] ++ escape content)).modLoop l fun x => { x with receiver := .outside }) = _
    rw [settled_takeDue hs, loopLine_begun hp hr]
    refine congrArg Host.Outcome.next ((modLoop_modLoop ..).trans (modLoop_congr ?_))
    dsimp only
    rw [← hr]

end Sys2Proof.Machine
end

section
/-! PROOFS. Judged: no event reads a station's acknowledgement or verdict (R85). -/

namespace Sys2Proof.Machine

theorem alter_comm {α : Type} {n : Nat} (v : Vector α n) {i j : Nat} {f g : α → α} (h : i = j → ∀ x, f (g x) = g (f x)) :
    alter (alter v i f) j g = alter (alter v j g) i f := by
  by_cases e : i = j
  · subst e
    rw [alter_alter, alter_alter]
    exact congrArg (alter v i) (funext fun x => (h rfl x).symm)
  · by_cases hi : 1 ≤ i ∧ i ≤ n
    · by_cases hj : 1 ≤ j ∧ j ≤ n
      · have apart : i - 1 ≠ j - 1 := by omega
        rw [alter_of_within _ g hj.1 hj.2, alter_of_within v f hi.1 hi.2, alter_of_within _ f hi.1 hi.2,
          alter_of_within v g hj.1 hj.2, Vector.getElem_set_ne _ _ apart, Vector.getElem_set_ne _ _ apart.symm,
          Vector.set_comm _ _ apart]
      · rw [alter_outside _ g (by omega), alter_outside v g (by omega)]
    · rw [alter_outside v f (by omega), alter_outside _ f (by omega)]

/-- A station's acknowledgement and verdict. -/
def Station.judged (ack : Option Nat) (rejected : Bool) (x : Station) : Station := { x with ackThrough := ack, rejected := rejected }

/-- A state in which station n has this acknowledgement and this verdict. -/
def State.judged (n : Nat) (ack : Option Nat) (rejected : Bool) (s : State) : State := s.modStation n (Station.judged ack rejected)

section
variable (s : State) (n : Nat) (a : Option Nat) (r : Bool)

theorem judged_modStation (m : Nat) {f : Station → Station} (hf : ∀ x, f (x.judged a r) = (f x).judged a r) :
    (s.judged n a r).modStation m f = (s.modStation m f).judged n a r :=
  congrArg (fun v => ({ s with stations := v } : State)) (alter_comm _ fun _ x => (hf x).symm)

theorem judged_setWaiting (m : Nat) (w : Option Nat) : ((s.judged n a r).modStation m fun x => { x with waiting := w }) =
    (s.modStation m fun x => { x with waiting := w }).judged n a r :=
  judged_modStation s n a r m (f := fun x => { x with waiting := w }) fun _ => rfl

theorem judged_setLamp (m : Nat) (y : Lamp) : ((s.judged n a r).modStation m fun x => { x with lamp := y }) =
    (s.modStation m fun x => { x with lamp := y }).judged n a r :=
  judged_modStation s n a r m (f := fun x => { x with lamp := y }) fun _ => rfl

theorem judged_countRejected (m : Nat) : (s.judged n a r).countRejected m = (s.countRejected m).judged n a r :=
  judged_modStation s n a r m (f := fun x => { x with rejectedEvents := saturate 65535 1 x.rejectedEvents }) fun _ => rfl

theorem judged_notify (x : Notice) : (s.judged n a r).notify x = (s.notify x).judged n a r := by
  show (if pick s.host.reports x.kind.place then _ else _) = State.judged n a r (if pick s.host.reports x.kind.place then _ else _)
  split
  · show (if s.host.outbound.length < Config.noticeCapacity then _ else _) =
      State.judged n a r (if s.host.outbound.length < Config.noticeCapacity then _ else _)
    split <;> rfl
  · rfl

theorem judged_pick (m : Nat) : pick (s.judged n a r).stations m = pick s.stations m
    ∨ pick (s.judged n a r).stations m = (pick s.stations m).judged a r := by
  show pick (alter s.stations n _) m = _ ∨ pick (alter s.stations n _) m = _
  rw [pick_alter]
  split
  · next h =>
    obtain ⟨rfl, -⟩ := h
    exact .inr rfl
  · exact .inl rfl

theorem judged_state (m : Nat) : (pick (s.judged n a r).stations m).state = (pick s.stations m).state := by
  obtain h | h := judged_pick s n a r m <;> rw [h]
  rfl

theorem judged_waiting (m : Nat) : (pick (s.judged n a r).stations m).waiting = (pick s.stations m).waiting := by
  obtain h | h := judged_pick s n a r m <;> rw [h]
  rfl

/-! ### The equations, the boards, the loops -/

theorem judged_operandValue (x : Operand) : operandValue (s.judged n a r) x = operandValue s x := by
  cases x with
  | stationOffline m =>
    show ((s.stationDef m).isSome && (pick (s.judged n a r).stations m).state == .offline) = _
    rw [judged_state]
    rfl
  | sectionAspect m x => cases x <;> rfl
  | shift x => cases x <;> rfl
  | _ => rfl

theorem judged_rawValue (ts : List Term) : rawValue (s.judged n a r) ts = rawValue s ts :=
  rawValue_congr fun _ x _ => judged_operandValue s n a r x

theorem judged_applyTarget (t : Target) (output : Bool) :
    applyTarget (s.judged n a r) t output = ((applyTarget s t output).1.judged n a r, (applyTarget s t output).2) := by
  cases t with
  | flag f =>
    show (if pick s.flags f = output then _ else _) = (State.judged n a r (if pick s.flags f = output then _ else _ : State × List Change).1,
      (if pick s.flags f = output then _ else _ : State × List Change).2)
    split <;> rfl
  | relay k =>
    show (if pick s.relays k = relayDriven s k then _ else _) =
      (State.judged n a r (if pick s.relays k = relayDriven s k then _ else _ : State × List Change).1,
        (if pick s.relays k = relayDriven s k then _ else _ : State × List Change).2)
    split <;> rfl
  | tune c k => rfl

theorem judged_settle (i : Nat) (d : EquationDef) (e : EquationState) : settleEquation (s.judged n a r) i d e =
    ((settleEquation s i d e).1.judged n a r, (settleEquation s i d e).2) := by
  show (if e.output = (pick s.equations i).output then _ else _) =
    (State.judged n a r (if e.output = (pick s.equations i).output then _ else _ : State × List Change).1,
      (if e.output = (pick s.equations i).output then _ else _ : State × List Change).2)
  split
  · rfl
  · exact judged_applyTarget { s with equations := alter s.equations i fun _ => e } n a r d.target e.output

/-- R108: an equation's raw value taken in a pass. -/
def edgeStep (i : Nat) (d : EquationDef) (p : State × List Change) : State × List Change :=
  ((settleEquation p.1 i d (takeRaw d.delay (pick p.1.equations i) (rawValue p.1 d.terms))).1,
    p.2 ++ (settleEquation p.1 i d (takeRaw d.delay (pick p.1.equations i) (rawValue p.1 d.terms))).2)

/-- R112: an equation's expired delay timer taken in a pass. -/
def expiryStep (i : Nat) (d : EquationDef) (p : State × List Change) : State × List Change :=
  ((settleEquation p.1 i d (takeExpiry d.delay (pick p.1.equations i))).1,
    p.2 ++ (settleEquation p.1 i d (takeExpiry d.delay (pick p.1.equations i))).2)

theorem passOne_some {b : Bool} {p : State × List Change} {i : Nat} {d : EquationDef} (h : p.1.equationDef i = some d) :
    passOne b p i = if p.2.any d.reads then
        edgeStep i d (if b && (pick p.1.equations i).timer == some 0 then expiryStep i d p else p)
      else if b && (pick p.1.equations i).timer == some 0 then expiryStep i d p else p := by
  unfold passOne
  rw [h]
  rfl

/-- A pass's state with station n judged so. -/
def judgedPass (p : State × List Change) : State × List Change := (p.1.judged n a r, p.2)

theorem judged_edgeStep (i : Nat) (d : EquationDef) (p : State × List Change) :
    edgeStep i d (judgedPass n a r p) = judgedPass n a r (edgeStep i d p) := by
  unfold edgeStep judgedPass
  have equations : (p.1.judged n a r).equations = p.1.equations := rfl
  dsimp only
  rw [judged_rawValue, equations, judged_settle]

theorem judged_expiryStep (i : Nat) (d : EquationDef) (p : State × List Change) :
    expiryStep i d (judgedPass n a r p) = judgedPass n a r (expiryStep i d p) := by
  unfold expiryStep judgedPass
  have equations : (p.1.judged n a r).equations = p.1.equations := rfl
  dsimp only
  rw [equations, judged_settle]

theorem judged_passOne (b : Bool) (p : State × List Change) (i : Nat) :
    passOne b (judgedPass n a r p) i = judgedPass n a r (passOne b p i) := by
  cases h : p.1.equationDef i with
  | none =>
    rw [passOne_undefined h]
    exact passOne_undefined h
  | some d =>
    have expiry : (if b && (pick p.1.equations i).timer == some 0 then expiryStep i d (judgedPass n a r p) else judgedPass n a r p) =
        judgedPass n a r (if b && (pick p.1.equations i).timer == some 0 then expiryStep i d p else p) := by
      split
      · exact judged_expiryStep ..
      · rfl
    rw [passOne_some h, passOne_some (p := judgedPass n a r p) h]
    show (if p.2.any d.reads then edgeStep i d (if b && (pick p.1.equations i).timer == some 0 then expiryStep i d (judgedPass n a r p)
      else judgedPass n a r p) else if b && (pick p.1.equations i).timer == some 0 then expiryStep i d (judgedPass n a r p)
      else judgedPass n a r p) = _
    rw [expiry, judged_edgeStep]
    split <;> rfl

theorem judged_handOn (cs : List Change) : (s.judged n a r).handOn cs = (s.handOn cs).judged n a r := by
  have pass : ∀ (is : List Nat) (p : State × List Change), is.foldl (passOne false) (judgedPass n a r p) =
      judgedPass n a r (is.foldl (passOne false) p) := by
    intro is
    induction is with
    | nil => exact fun _ => rfl
    | cons i is ih =>
      intro p
      rw [List.foldl_cons, List.foldl_cons, judged_passOne, ih]
  show (if s.mode = .run then equationPass false cs (s.judged n a r) else s.judged n a r) =
    State.judged n a r (if s.mode = .run then equationPass false cs s else s)
  split
  · unfold equationPass
    generalize numbers 48 = is
    exact congrArg Prod.fst (pass is (s, cs))
  · rfl

theorem judged_contentOf (b f : Nat) (d : FieldDef) : contentOf (s.judged n a r) b f d = contentOf s b f d := by
  have apart : ∀ x : State, contentOf x b f d = contentOf x.butStations b f d := fun x => by
    unfold contentOf
    cases d.kind with
    | zone z => rfl
    | list scope rank => cases scope <;> rfl
    | count fig => rfl
    | shift => rfl
    | clock => rfl
    | text => rfl
  rw [apart (s.judged n a r), apart s]
  rfl

theorem judged_recomposeField (b f : Nat) : recomposeField (s.judged n a r) b f = (recomposeField s b f).judged n a r := by
  unfold recomposeField
  have depth : (s.judged n a r).boardDepth b = s.boardDepth b := rfl
  have fieldDef : (s.judged n a r).fieldDef b f = s.fieldDef b f := rfl
  rw [depth, fieldDef]
  cases s.boardDepth b with
  | none => rfl
  | some depth =>
    cases s.fieldDef b f with
    | none => rfl
    | some d =>
      dsimp only
      rw [judged_contentOf]
      show (if (pick (pick s.fields b) f).last = some (contentOf s b f d) then _ else _) =
        State.judged n a r (if (pick (pick s.fields b) f).last = some (contentOf s b f d) then _ else _)
      split
      · rfl
      · show (if (pick (pick s.fields b) f).marked then _ else _) = State.judged n a r (if (pick (pick s.fields b) f).marked then _ else _)
        split <;> rfl

/-- What is done to one thing after the other is done so to a state judged so. -/
theorem judged_foldl {β : Type} {f : State → β → State} (h : ∀ (u : State) x, f (u.judged n a r) x = (f u x).judged n a r) (xs : List β) :
    ∀ u : State, xs.foldl f (u.judged n a r) = (xs.foldl f u).judged n a r := by
  induction xs with
  | nil => exact fun _ => rfl
  | cons x xs ih =>
    intro u
    rw [List.foldl_cons, List.foldl_cons, h, ih]

theorem judged_recompose (p : FieldKind → Bool) : (s.judged n a r).recompose p = (s.recompose p).judged n a r := by
  have one : ∀ (u : State) (bf : Nat × Nat), (match (u.judged n a r).fieldDef bf.1 bf.2 with
      | some d => if p d.kind then recomposeField (u.judged n a r) bf.1 bf.2 else u.judged n a r
      | none => u.judged n a r) = State.judged n a r (match u.fieldDef bf.1 bf.2 with
      | some d => if p d.kind then recomposeField u bf.1 bf.2 else u
      | none => u) := by
    intro u bf
    rw [show (u.judged n a r).fieldDef bf.1 bf.2 = u.fieldDef bf.1 bf.2 from rfl, judged_recomposeField]
    cases u.fieldDef bf.1 bf.2 with
    | none => rfl
    | some d => dsimp only; split <;> rfl
  unfold State.recompose
  rw [show (s.judged n a r).mode = s.mode from rfl]
  split
  · exact judged_foldl n a r one allFields s
  · rfl

theorem judged_announceZone (l : LoopId) (z : Nat) : announceZone (s.judged n a r) l z = (announceZone s l z).judged n a r := by
  have text : announcement (s.judged n a r) z = announcement s z := rfl
  unfold announceZone
  dsimp only
  rw [text]
  cases l with
  | a =>
    show (if pick s.loopA.announcements z = announcement s z then _ else _) =
      State.judged n a r (if pick s.loopA.announcements z = announcement s z then _ else _)
    split <;> rfl
  | b =>
    show (if pick s.loopB.announcements z = announcement s z then _ else _) =
      State.judged n a r (if pick s.loopB.announcements z = announcement s z then _ else _)
    split <;> rfl

theorem judged_announce (zs : List Nat) : (s.judged n a r).announce zs = (s.announce zs).judged n a r := by
  unfold State.announce
  rw [show (s.judged n a r).mode = s.mode from rfl]
  split
  · exact judged_foldl n a r (fun u z => by rw [judged_announceZone, judged_announceZone]) zs s
  · rfl

theorem judged_ite {p : Prop} [Decidable p] {t u v w : State} (h : t = v.judged n a r) (k : u = w.judged n a r) :
    (if p then t else u) = State.judged n a r (if p then v else w) := by
  split
  · exact h
  · exact k

/-! ### Stop logic, the history queue, the call table -/

theorem judged_modStop (m : Nat) (f : StopLogic → StopLogic) : (s.judged n a r).modStop m f = (s.modStop m f).judged n a r := rfl

theorem judged_modCall (k : Nat) (f : Call → Call) : (s.judged n a r).modCall k f = (s.modCall k f).judged n a r := rfl

theorem judged_sectionNotice (m : Nat) (c : SectionCause) :
    (s.judged n a r).sectionNotice m c = (s.sectionNotice m c).judged n a r := judged_notify ..

theorem judged_assertRequest (m : Nat) : (s.judged n a r).assertRequest m = (s.assertRequest m).judged n a r := by
  unfold State.assertRequest
  dsimp only
  rw [judged_modStop, judged_handOn, judged_announce]
  exact judged_sectionNotice ..

theorem judged_releaseRequest (m : Nat) : (s.judged n a r).releaseRequest m = (s.releaseRequest m).judged n a r := by
  unfold State.releaseRequest
  dsimp only
  rw [judged_modStop, judged_handOn, judged_announce]
  exact judged_sectionNotice ..

theorem judged_lineUp (m : Nat) : (s.judged n a r).lineUp m = (s.lineUp m).judged n a r :=
  judged_ite n a r rfl (judged_ite n a r (judged_assertRequest ..) (judged_releaseRequest ..))

theorem judged_causeLeft (m : Nat) : (s.judged n a r).causeLeft m = (s.causeLeft m).judged n a r := by
  refine judged_ite n a r ?_ (judged_lineUp ..)
  rw [judged_modStop, judged_handOn, judged_sectionNotice, judged_lineUp]

theorem judged_giveRestart (m : Nat) : (s.judged n a r).giveRestart m = (s.giveRestart m).judged n a r := by
  unfold State.giveRestart
  dsimp only
  rw [judged_modStop, judged_handOn, judged_lineUp]

theorem judged_enterHold (m k : Nat) : (s.judged n a r).enterHold m k = (s.enterHold m k).judged n a r :=
  judged_ite n a r (judged_handOn (s.modStop m fun x => { x with holdOrder := x.holdOrder ++ [k] }) ..) rfl

theorem judged_leaveHold (m k : Nat) : (s.judged n a r).leaveHold m k = (s.leaveHold m k).judged n a r :=
  judged_ite n a r (judged_handOn (s.modStop m fun x => { x with holdOrder := x.holdOrder.erase k }) ..) rfl

theorem judged_waitingRises (m : Nat) : (s.judged n a r).waitingRises m = (s.waitingRises m).judged n a r := by
  refine judged_ite n a r ?_ rfl
  rw [judged_modStop, judged_handOn, judged_notify, judged_lineUp]
  rfl

theorem judged_waitingFalls (m : Nat) : (s.judged n a r).waitingFalls m = (s.waitingFalls m).judged n a r := by
  refine judged_ite n a r ?_ rfl
  rw [judged_modStop, judged_handOn, judged_notify, judged_causeLeft]
  rfl

theorem judged_markWaiting (m : Nat) : (s.judged n a r).markWaiting m = (s.markWaiting m).judged n a r := by
  unfold State.markWaiting
  rw [judged_waiting]
  cases (pick s.stations m).waiting with
  | some w => rfl
  | none =>
    dsimp only
    rw [judged_setWaiting, judged_waitingRises]
    rfl

theorem judged_clearWaiting (m : Nat) : (s.judged n a r).clearWaiting m = (s.clearWaiting m).judged n a r := by
  unfold State.clearWaiting
  rw [judged_waiting]
  cases (pick s.stations m).waiting with
  | none => rfl
  | some w =>
    dsimp only
    rw [judged_setWaiting, judged_waitingFalls]
    rfl

theorem judged_callsChanged (c : Call) (full : Bool) :
    (s.judged n a r).callsChanged c full = (s.callsChanged c full).judged n a r := by
  unfold State.callsChanged
  dsimp only
  cases c.origin with
  | tag k =>
    dsimp only
    rw [judged_handOn, judged_recompose]
  | station m =>
    dsimp only
    rw [show lampOf (s.judged n a r) m = lampOf s m from rfl, judged_setLamp, judged_handOn, judged_recompose]

theorem judged_noticeOf (x : CallChange) (k : Nat) : (s.judged n a r).noticeOf x k = (s.noticeOf x k).judged n a r := by
  unfold State.noticeOf
  rw [show (s.judged n a r).callOf k = s.callOf k from rfl]
  cases s.callOf k with
  | none => rfl
  | some c => exact judged_notify ..

theorem judged_historyOccasion (stale : Bool) :
    (s.judged n a r).historyOccasion stale = (s.historyOccasion stale).judged n a r :=
  judged_notify { s with staleTimer := some (staleLoad s) } ..

/-- R143, R146: the history queue with one record more. -/
def State.extended (s : State) (e : HistoryEntry) : State :=
  let room := decide (s.history.length < Config.historyCapacity)
  { s with
    history := (if room then s.history else s.history.drop 1) ++ [⟨s.nextSeq, e⟩], nextSeq := wrap 65535 s.nextSeq
    overflowCount := if room then s.overflowCount else saturate 255 1 s.overflowCount
    staleTimer := if s.history.isEmpty then some (staleLoad s) else s.staleTimer }

theorem appendRecord_extended (s : State) (e : HistoryEntry) : s.appendRecord e =
    if decide (s.history.length < Config.historyCapacity) then
      (if (s.extended e).history.length = s.defs.links.threshold then (s.extended e).historyOccasion false else s.extended e)
    else (s.extended e).notify (.capacityHistory (s.extended e).overflowCount (oldestSeq s) s.nextSeq) := rfl

theorem judged_appendRecord (e : HistoryEntry) : (s.judged n a r).appendRecord e = (s.appendRecord e).judged n a r := by
  have extended : (s.judged n a r).extended e = (s.extended e).judged n a r := rfl
  rw [appendRecord_extended, appendRecord_extended, extended]
  exact judged_ite n a r (judged_ite n a r (judged_historyOccasion ..) rfl) (judged_notify ..)

theorem judged_tableNotice : (s.judged n a r).tableNotice = s.tableNotice.judged n a r := judged_notify ..

theorem judged_callNotice (x : CallChange) (o : Option Closing) (c : Call) :
    (s.judged n a r).callNotice x o c = (s.callNotice x o c).judged n a r := judged_notify ..

/-! ### The operations on calls -/

theorem judged_repeatCall (c : Call) : (s.judged n a r).repeatCall c = (s.repeatCall c).judged n a r := by
  have same : repeated (s.judged n a r) c = repeated s c := rfl
  by_cases h : (repeated s c).state = .holding ∧ c.state ≠ .holding
  · rw [repeatCall_holds h, repeatCall_holds (s := s.judged n a r) h, same, judged_modCall, judged_enterHold,
      judged_callsChanged, judged_noticeOf, judged_lineUp]
  · rw [repeatCall_quiet h, repeatCall_quiet (s := s.judged n a r) h, same, judged_modCall, judged_callsChanged,
      judged_noticeOf]

theorem judged_answerCall (c : Call) : (s.judged n a r).answerCall c = (s.answerCall c).judged n a r := by
  refine judged_ite n a r rfl ?_
  dsimp only
  rw [show answeredNow (s.judged n a r) c = answeredNow s c from rfl, judged_modCall, judged_callsChanged, judged_noticeOf]

theorem judged_carryCall (c : Call) : (s.judged n a r).carryCall c = (s.carryCall c).judged n a r := by
  have told : (s.judged n a r).carriedTold c = (s.carriedTold c).judged n a r := by
    have left : ∀ u : State, (if c.state = .holding then (u.judged n a r).leaveHold c.sec c.number else u.judged n a r) =
        State.judged n a r (if c.state = .holding then u.leaveHold c.sec c.number else u) :=
      fun u => judged_ite n a r (judged_leaveHold ..) rfl
    unfold State.carriedTold
    dsimp only
    rw [show carriedNow (s.judged n a r) c = carriedNow s c from rfl, judged_modCall, left, judged_callsChanged, judged_noticeOf]
  rw [carryCall_eq, carryCall_eq, told]
  exact judged_ite n a r (judged_causeLeft ..) rfl

theorem judged_closeCall (o : Closing) (b : Bool) (c : Call) :
    (s.judged n a r).closeCall o b c = (s.closeCall o b c).judged n a r := by
  have unheld : (s.judged n a r).unheldBy b c = (s.unheldBy b c).judged n a r := by
    refine judged_ite n a r (judged_ite n a r ?_ (judged_leaveHold ..)) rfl
    rw [judged_leaveHold, judged_causeLeft]
  have struck : ∀ u : State, (u.judged n a r).struck o c = (u.struck o c).judged n a r := fun u => by
    unfold State.struck
    rw [show closedRecord (u.judged n a r) c o = closedRecord u c o from rfl, judged_appendRecord]
    rfl
  rw [closeCall_told, closeCall_told, unheld, struck, judged_callsChanged, judged_callNotice, judged_tableNotice]
  exact judged_ite n a r rfl rfl

theorem judged_createCall (o : Origin) (cls zone : Nat) (w : Option Nat) :
    (s.judged n a r).createCall o cls zone w = (s.createCall o cls zone w).judged n a r := by
  have told : ∀ c, (s.judged n a r).createdTold c = (s.createdTold c).judged n a r := fun c => by
    have inserted : (s.judged n a r).insertRecord c = (s.insertRecord c).judged n a r := judged_ite n a r rfl rfl
    have entered : ∀ u : State, (if c.state = .holding then (u.judged n a r).enterHold c.sec c.number else u.judged n a r) =
        State.judged n a r (if c.state = .holding then u.enterHold c.sec c.number else u) :=
      fun u => judged_ite n a r (judged_enterHold ..) rfl
    have full : ∀ u : State, tableFull (u.judged n a r) = tableFull u := fun _ => rfl
    unfold State.createdTold
    dsimp only
    rw [inserted, entered, full, judged_callsChanged, judged_noticeOf, full, judged_tableNotice]
    exact judged_ite n a r rfl rfl
  rw [createCall_eq, createCall_eq, show newRecord (s.judged n a r) o cls zone w = newRecord s o cls zone w from rfl, told]
  exact judged_ite n a r (judged_lineUp ..) rfl

/-! ### The events -/

theorem judged_takeCall (m cls : Nat) : (s.judged n a r).takeCall m cls =
    ((s.takeCall m cls).1.judged n a r, (s.takeCall m cls).2) := by
  have stops : stopping (s.judged n a r) cls = stopping s cls := rfl
  have room : hasRoom (s.judged n a r) cls = hasRoom s cls := rfl
  have from_ : callFrom (s.judged n a r) (.station m) cls = callFrom s (.station m) cls := rfl
  have defined : (s.judged n a r).stationDef m = s.stationDef m := rfl
  unfold State.takeCall
  rw [from_, room, stops, defined, judged_waiting]
  cases callFrom s (.station m) cls with
  | some c =>
    dsimp only
    rw [judged_repeatCall, judged_clearWaiting]
  | none =>
    dsimp only
    split
    · rw [judged_createCall, judged_clearWaiting]
    · exact congrArg (·, Verdict.refused) (judged_ite n a r (judged_markWaiting ..) rfl)

theorem judged_takeSelected (m k : Nat) {act : State → Call → State}
    (h : ∀ c, act (s.judged n a r) c = (act s c).judged n a r) : (s.judged n a r).takeSelected m k act =
    ((s.takeSelected m k act).1.judged n a r, (s.takeSelected m k act).2) := by
  unfold State.takeSelected
  rw [show selected (s.judged n a r) m k = selected s m k from rfl]
  cases selected s m k with
  | none => rfl
  | some c => exact congrArg (·, Verdict.accepted) (h c)

theorem judged_takeRestart (m : Nat) : (s.judged n a r).takeRestart m =
    ((s.takeRestart m).1.judged n a r, (s.takeRestart m).2) := by
  have sec : sectionOfStation (s.judged n a r) m = sectionOfStation s m := rfl
  have defined : (s.judged n a r).stationDef m = s.stationDef m := rfl
  have held : ∀ k, heldOtherwise (s.judged n a r) k = heldOtherwise s k := fun _ => rfl
  have stops : (s.judged n a r).stops = s.stops := rfl
  unfold State.takeRestart
  dsimp only
  rw [sec, defined, held, stops, judged_giveRestart]
  cases s.stationDef m with
  | none => rfl
  | some d =>
    dsimp only
    split <;> rfl

theorem judged_takeEvent (m : Nat) (e : Event) : (s.judged n a r).takeEvent m e =
    ((s.takeEvent m e).1.judged n a r, (s.takeEvent m e).2) := by
  unfold State.takeEvent
  cases e.kind with
  | call =>
    dsimp only
    rw [show (s.judged n a r).defs = s.defs from rfl]
    cases s.defs.codeMap.classOf e.operand with
    | none => exact congrArg (·, Verdict.rejected) (judged_clearWaiting ..)
    | some cls => exact judged_takeCall ..
  | answer => exact judged_takeSelected _ _ _ _ _ _ fun c => judged_answerCall ..
  | carry => exact judged_takeSelected _ _ _ _ _ _ fun c => judged_ite _ _ _ (judged_carryCall ..) rfl
  | clear => exact judged_takeSelected _ _ _ _ _ _ fun c => judged_closeCall ..
  | restart => exact judged_takeRestart ..

end

end Sys2Proof.Machine
end

section
/-! PROOFS. EventKept: what one event of a station leaves as it is (R9–R20, R63–R65, R86). -/

namespace Sys2Proof.Machine

/-- What an event of station n leaves: all that the shared operations leave; of the stations its mark and lamp alone
differ, of the loops the announcements. -/
structure EventKept (n : Nat) (s t : State) : Prop where
  ops : ByOps s t
  stations : ∀ m, 1 ≤ m → m ≤ 96 → pick t.stations m =
    if m = n then { pick s.stations m with waiting := (pick t.stations m).waiting, lamp := (pick t.stations m).lamp }
    else pick s.stations m
  loops : ∀ l, t.loop l = { s.loop l with announcements := (t.loop l).announcements, zonesOwed := (t.loop l).zonesOwed }

namespace EventKept
variable {n : Nat} {s t u : State}

theorem refl (n : Nat) (s : State) : EventKept n s s := ⟨.refl s, fun m _ _ => by split <;> rfl, fun _ => rfl⟩

theorem trans (h : EventKept n s t) (k : EventKept n t u) : EventKept n s u where
  ops := h.ops.trans k.ops
  stations m m1 m2 := by
    rw [k.stations m m1 m2, h.stations m m1 m2]
    split <;> rfl
  loops := loopsAlone_trans h.loops k.loops

theorem ite {c : Prop} [Decidable c] (h : EventKept n s t) (k : EventKept n s u) : EventKept n s (if c then t else u) := by
  split
  · exact h
  · exact k

theorem station (h : EventKept n s t) (n1 : 1 ≤ n) (n2 : n ≤ 96) : pick t.stations n =
    { pick s.stations n with waiting := (pick t.stations n).waiting, lamp := (pick t.stations n).lamp } := by
  rw [h.stations n n1 n2, if_pos rfl]

/-- A change of a call of station n. -/
theorem of_lamps {c : Call} (h : ByOps s t) (ho : c.origin = .station n) (lamps : lampFollows c s t)
    (told : loopsAnnounce s t) : EventKept n s t where
  ops := h
  stations m m1 m2 := by
    rw [lamps m m1 m2, ho]
    by_cases hm : m = n
    · subst hm
      rw [if_pos rfl, if_pos rfl]
    · rw [if_neg fun e => hm (Origin.station.inj e).symm, if_neg hm]
  loops := told.1

theorem clearWaiting (n : Nat) (s : State) : EventKept n s (s.clearWaiting n) where
  ops := .clearWaiting s n
  stations m m1 m2 := by
    rw [clearWaiting_station s m1 m2]
    split <;> rfl
  loops := (clearWaiting_announces s n).1

end EventKept

/-! ## The events -/

theorem waitingRises_announces (s : State) (n : Nat) : loopsAnnounce s (s.waitingRises n) := by
  have view : ∀ v : State, v.announceView = s.announceView → loopsAnnounce s (v.lineUp n) :=
    fun v h => loopsAnnounce_congr h.symm rfl (lineUp_announces v n)
  unfold State.waitingRises
  dsimp only
  refine loopsAnnounce_ite (view _ ?_) (loopsAnnounce_of_view (modStop_view s n fun _ => rfl))
  exact (notify_view ..).trans ((handOn_view ..).trans (modStop_view s n fun _ => rfl))

theorem markWaiting_some {s : State} {n w : Nat} (h : (pick s.stations n).waiting = some w) : s.markWaiting n = s := by
  unfold State.markWaiting
  rw [h]

theorem markWaiting_none {s : State} {n : Nat} (h : (pick s.stations n).waiting = none) : s.markWaiting n =
    (s.modStation n fun x => { x with waiting := some s.timeOfDay }).waitingRises (sectionOfStation s n) := by
  unfold State.markWaiting
  rw [h]

theorem markWaiting_announces (s : State) (n : Nat) : loopsAnnounce s (s.markWaiting n) := by
  unfold State.markWaiting
  split
  · exact loopsAnnounce_refl s
  · exact loopsAnnounce_congr (s := s.modStation n fun x => { x with waiting := some s.timeOfDay }) rfl rfl
      (waitingRises_announces ..)

theorem markWaiting_station {s : State} {n m : Nat} (h : (pick s.stations n).waiting = none) (m1 : 1 ≤ m) (m2 : m ≤ 96) :
    pick (s.markWaiting n).stations m =
      if m = n then { pick s.stations m with waiting := some s.timeOfDay } else pick s.stations m := by
  have rises : (s.markWaiting n).stations = (s.modStation n fun x => { x with waiting := some s.timeOfDay }).stations := by
    rw [markWaiting_none h]
    exact (congrArg State.stations (waitingRises_butStops ..) :)
  rw [rises, pick_station _ m1 m2]

theorem markWaiting_kept (n : Nat) (s : State) : EventKept n s (s.markWaiting n) := by
  cases h : (pick s.stations n).waiting with
  | some w => rw [markWaiting_some h]; exact .refl n s
  | none =>
    refine ⟨.markWaiting s n, fun m m1 m2 => ?_, (markWaiting_announces s n).1⟩
    rw [markWaiting_station h m1 m2]
    split <;> rfl

theorem giveRestart_kept (n k : Nat) (s : State) : EventKept n s (s.giveRestart k) := by
  have stations : (s.giveRestart k).stations = s.stations := (congrArg State.stations (giveRestart_butStops s k) :)
  refine ⟨.giveRestart s k, fun m _ _ => ?_, (giveRestart_announces s k).1⟩
  rw [stations]
  split <;> rfl

theorem insertRecord_loop (s : State) (c : Call) (l : LoopId) : (s.insertRecord c).loop l = s.loop l := by
  unfold State.insertRecord
  dsimp only
  split <;> rfl

/-- R6, R59: a new record in the table and, where it is HOLDING, in its hold order. -/
def State.inserted (s : State) (c : Call) : State :=
  if c.state = .holding then (s.insertRecord c).enterHold c.sec c.number else s.insertRecord c

theorem inserted_stations (s : State) (c : Call) : (s.inserted c).stations = s.stations := by
  unfold State.inserted
  split
  · exact (enterHold_stations ..).trans (insertRecord_stations ..)
  · exact insertRecord_stations ..

theorem createdTold_inserted (s : State) (c : Call) : (s.createdTold c).stations =
    ((s.inserted c).callsChanged c (tableFull (s.inserted c))).stations := by
  have told : ∀ u : State, (if tableFull u then u.tableNotice else u).stations = u.stations := fun u => by
    split
    · exact tableNotice_stations ..
    · rfl
  exact (told _).trans (noticeOf_stations ..)

/-- R26: a change of a call of station n. -/
theorem callsChanged_own {s u : State} {c : Call} {n m : Nat} (hu : u.stations = s.stations) (ho : c.origin = .station n)
    (full : Bool) (m1 : 1 ≤ m) (m2 : m ≤ 96) : pick (u.callsChanged c full).stations m =
      if m = n then { pick s.stations m with lamp := lampOf u n } else pick s.stations m := by
  rw [callsChanged_station _ _ _ m1 m2, ho, hu]
  by_cases hm : m = n
  · subst hm
    rw [if_pos rfl, if_pos rfl]
  · rw [if_neg fun e => hm (Origin.station.inj e).symm, if_neg hm]

theorem createCall_stations_told (s : State) (o : Origin) (cls zone : Nat) (w : Option Nat) :
    (s.createCall o cls zone w).stations = (s.createdTold (newRecord s o cls zone w)).stations := by
  rw [createCall_eq]
  generalize s.createdTold (newRecord s o cls zone w) = u
  split
  · exact (congrArg State.stations (lineUp_butStops ..) :)
  · rfl

/-- R12, R26: of the stations, the lamp of the new call's origin alone is recomputed. -/
theorem createCall_station (s : State) (n cls zone : Nat) (w : Option Nat) {m : Nat} (m1 : 1 ≤ m) (m2 : m ≤ 96) :
    pick (s.createCall (.station n) cls zone w).stations m =
      if m = n then { pick s.stations m with lamp := (pick (s.createCall (.station n) cls zone w).stations m).lamp }
      else pick s.stations m := by
  have own : (newRecord s (.station n) cls zone w).origin = .station n := rfl
  rw [createCall_stations_told]
  generalize newRecord s (.station n) cls zone w = c at own
  rw [createdTold_inserted, callsChanged_own (inserted_stations s c) own _ m1 m2]
  split <;> rfl

theorem createCall_kept (n cls zone : Nat) (w : Option Nat) (s : State) : EventKept n s (s.createCall (.station n) cls zone w) where
  ops := .createCall s _ cls zone w
  stations m m1 m2 := by
    rw [createCall_station s n cls zone w m1 m2]
    split <;> rfl
  loops := (createCall_announces s (.station n) cls zone w).1

theorem callFrom_origin {s : State} {o : Origin} {cls : Nat} {c : Call} (h : callFrom s o cls = some c) :
    c ∈ s.calls ∧ c.origin = o ∧ c.cls = cls := by
  have found := List.find?_some h
  rw [Bool.and_eq_true, beq_iff_eq, beq_iff_eq] at found
  exact ⟨List.mem_of_find?_eq_some h, found.1, found.2⟩

theorem selected_origin {s : State} {n k : Nat} {c : Call} (h : selected s n k = some c) : c ∈ s.calls ∧ c.origin = .station n := by
  unfold selected at h
  split at h
  · have mem := List.mem_of_head? h
    unfold callsOfStation at mem
    obtain ⟨hc, ho⟩ := List.mem_filter.mp mem
    exact ⟨mem_displayOrder.mp hc, by simpa using ho⟩
  · split at h
    · exact ⟨(callFrom_origin h).1, (callFrom_origin h).2.1⟩
    · cases h

theorem takeCall_kept (n cls : Nat) (s : State) : EventKept n s (s.takeCall n cls).1 := by
  unfold State.takeCall
  split
  · next c hc =>
    exact (EventKept.of_lamps (.repeatCall s c) (callFrom_origin hc).2.1 (repeatCall_lamps s c) (repeatCall_announces s c)).trans
      (.clearWaiting n _)
  · split
    · exact (createCall_kept ..).trans (.clearWaiting n _)
    · exact .ite (markWaiting_kept n s) (.refl n s)

theorem answerCall_kept {n : Nat} {s : State} {c : Call} (ho : c.origin = .station n) : EventKept n s (s.answerCall c) := by
  cases h : c.answered with
  | some w => rw [answerCall_answered (by rw [h]; rfl)]; exact .refl n s
  | none =>
    refine ⟨.answerCall s c, fun m m1 m2 => ?_, fun l => ?_⟩
    · rw [answerCall_lamps h m m1 m2, ho]
      by_cases hm : m = n
      · subst hm
        rw [if_pos rfl, if_pos rfl]
      · rw [if_neg fun e => hm (Origin.station.inj e).symm, if_neg hm]
    · have view := changed_lineView s c (answeredNow s c) .answer
      have same : (s.answerCall c).loop l = s.loop l := by
        rw [answerCall_eq h]
        cases l
        · exact (congrArg State.loopA view :)
        · exact (congrArg State.loopB view :)
      rw [same]

/-- R9–R20, R63–R65: one event. -/
theorem takeEvent_kept (n : Nat) (e : Event) (s : State) : EventKept n s (s.takeEvent n e).1 := by
  have select : ∀ (act : State → Call → State), (∀ c, c.origin = .station n → EventKept n s (act s c)) →
      EventKept n s (s.takeSelected n e.operand act).1 := by
    intro act h
    unfold State.takeSelected
    split
    · next c hc => exact h c (selected_origin hc).2
    · exact .refl n s
  unfold State.takeEvent
  cases e.kind with
  | call =>
    dsimp only
    split
    · exact takeCall_kept ..
    · exact .clearWaiting n s
  | answer => exact select _ fun c ho => answerCall_kept ho
  | carry => exact select _ fun c ho => .ite (.of_lamps (.carryCall s c) ho (carryCall_lamps s c) (carryCall_announces s c)) (.refl n s)
  | clear => exact select _ fun c ho => .of_lamps (.closeCall s _ _ c) ho (closeCall_lamps s _ c) (closeCall_announces s _ c)
  | restart =>
    dsimp only
    unfold State.takeRestart
    dsimp only
    cases s.stationDef n with
    | none => exact .refl n s
    | some d =>
      dsimp only
      split
      · exact giveRestart_kept ..
      · exact .refl n s

end Sys2Proof.Machine
end

section
/-! PROOFS. Walk: the walk through the events of a STATUS (R81–R86). -/

namespace Sys2Proof.Machine

/-! ## The walk, event by event (R85, R86) -/

/-- R86: the state after one event has been taken, a rejected one counted. -/
def State.eventTaken (s : State) (n : Nat) (e : Event) : State :=
  if (s.takeEvent n e).2 = .rejected then (s.takeEvent n e).1.countRejected n else (s.takeEvent n e).1

section
variable {n : Nat} {all : Bool} {e : Event} {rest : List Event} {running : Option Nat} {rejected : Bool} {s : State}

theorem walk_repeat (h : (all || isNew running e.seq) = false) :
    walkEvents n all (e :: rest) running rejected s = walkEvents n all rest running rejected s := by
  show (if all || isNew running e.seq then _ else _) = _
  rw [h]
  rfl

theorem walk_refused (h : (all || isNew running e.seq) = true) (hv : (s.takeEvent n e).2 = .refused) :
    walkEvents n all (e :: rest) running rejected s = ((s.takeEvent n e).1, running, rejected) := by
  show (if all || isNew running e.seq then _ else _) = _
  rw [h, if_pos rfl]
  generalize s.takeEvent n e = p at hv
  obtain ⟨t, v⟩ := p
  cases hv
  rfl

theorem walk_taken (h : (all || isNew running e.seq) = true) (hv : (s.takeEvent n e).2 ≠ .refused) :
    walkEvents n all (e :: rest) running rejected s =
      walkEvents n all rest (some e.seq) (rejected || decide ((s.takeEvent n e).2 = .rejected)) (s.eventTaken n e) := by
  unfold State.eventTaken
  show (if all || isNew running e.seq then _ else _) = _
  rw [h, if_pos rfl]
  generalize s.takeEvent n e = p at hv
  obtain ⟨t, v⟩ := p
  cases v with
  | accepted => exact congrArg (walkEvents n all rest (some e.seq) · t) (Bool.or_false rejected).symm
  | rejected => exact congrArg (walkEvents n all rest (some e.seq) · (t.countRejected n)) (Bool.or_true rejected).symm
  | refused => exact absurd rfl hv

end

/-- R85: the verdict so far does not change the walk. -/
theorem walk_rejected (n : Nat) (all : Bool) (es : List Event) (running : Option Nat) (rejected : Bool) (s : State) :
    walkEvents n all es running rejected s = ((walkEvents n all es running false s).1, (walkEvents n all es running false s).2.1,
      rejected || (walkEvents n all es running false s).2.2) := by
  induction es generalizing running rejected s with
  | nil => exact congrArg (fun x => (s, running, x)) (Bool.or_false rejected).symm
  | cons e es ih =>
    cases h : all || isNew running e.seq with
    | false => rw [walk_repeat h, walk_repeat h, ih]
    | true =>
      by_cases hv : (s.takeEvent n e).2 = .refused
      · rw [walk_refused h hv, walk_refused h hv, Bool.or_false]
      · rw [walk_taken h hv, walk_taken h hv, ih, ih _ (false || _), Bool.false_or, Bool.or_assoc]

/-- R85: once an event has been taken, the walk ends with a last event taken. -/
theorem walk_some (n : Nat) (all : Bool) (es : List Event) (k : Nat) (rejected : Bool) (s : State) :
    ∃ j, (walkEvents n all es (some k) rejected s).2.1 = some j := by
  induction es generalizing k rejected s with
  | nil => exact ⟨k, rfl⟩
  | cons e es ih =>
    cases h : all || isNew (some k) e.seq with
    | false => rw [walk_repeat h]; exact ih ..
    | true =>
      by_cases hv : (s.takeEvent n e).2 = .refused
      · rw [walk_refused h hv]; exact ⟨k, rfl⟩
      · rw [walk_taken h hv]; exact ih ..

/-- R85: where the acknowledgement was absent, the last event taken does not change the walk. -/
theorem walk_running (n : Nat) (es : List Event) (k : Nat) (rejected : Bool) (s : State) :
    walkEvents n true es (some k) rejected s = ((walkEvents n true es none rejected s).1,
      some ((walkEvents n true es none rejected s).2.1.getD k), (walkEvents n true es none rejected s).2.2) := by
  cases es with
  | nil => rfl
  | cons e es =>
    by_cases hv : (s.takeEvent n e).2 = .refused
    · rw [walk_refused rfl hv, walk_refused rfl hv]
      rfl
    · rw [walk_taken rfl hv, walk_taken rfl hv]
      have last := walk_some n true es e.seq (rejected || decide ((s.takeEvent n e).2 = .rejected)) (s.eventTaken n e)
      generalize walkEvents n true es (some e.seq) _ (s.eventTaken n e) = w at last
      obtain ⟨j, hj⟩ := last
      rw [hj]
      exact Prod.ext rfl (Prod.ext hj rfl)

/-- R85: no acknowledgement and no verdict is read in the walk. -/
theorem judged_walk (m : Nat) (a : Option Nat) (r : Bool) (n : Nat) (all : Bool) (es : List Event) (running : Option Nat)
    (rejected : Bool) (s : State) : walkEvents n all es running rejected (s.judged m a r) =
      ((walkEvents n all es running rejected s).1.judged m a r, (walkEvents n all es running rejected s).2) := by
  have taken : ∀ (u : State) e, (u.judged m a r).eventTaken n e = (u.eventTaken n e).judged m a r := fun u e => by
    unfold State.eventTaken
    rw [judged_takeEvent]
    generalize u.takeEvent n e = p
    obtain ⟨t, v⟩ := p
    cases v with
    | rejected => exact judged_countRejected ..
    | accepted => rfl
    | refused => rfl
  induction es generalizing running rejected s with
  | nil => rfl
  | cons e es ih =>
    have verdict : ((s.judged m a r).takeEvent n e).2 = (s.takeEvent n e).2 := by rw [judged_takeEvent]
    cases h : all || isNew running e.seq with
    | false => rw [walk_repeat h, walk_repeat h, ih]
    | true =>
      by_cases hv : (s.takeEvent n e).2 = .refused
      · have hj : ((s.judged m a r).takeEvent n e).2 = .refused := by rw [verdict, hv]
        rw [walk_refused h hv, walk_refused h hj, judged_takeEvent]
      · have hj : ((s.judged m a r).takeEvent n e).2 ≠ .refused := by rw [verdict]; exact hv
        rw [walk_taken h hv, walk_taken h hj, verdict, taken, ih]

/-! ## What the walk leaves (R81–R86) -/

/-- R86: the events of a STATUS leave what each leaves, the rejected ones counted. -/
structure WalkKept (n : Nat) (s t : State) : Prop where
  ops : ByOps s t
  stations : ∀ m, 1 ≤ m → m ≤ 96 → pick t.stations m =
    if m = n then { pick s.stations m with
      waiting := (pick t.stations m).waiting, lamp := (pick t.stations m).lamp
      rejectedEvents := (pick t.stations m).rejectedEvents }
    else pick s.stations m
  loops : ∀ l, t.loop l = { s.loop l with announcements := (t.loop l).announcements, zonesOwed := (t.loop l).zonesOwed }

namespace WalkKept
variable {n : Nat} {s t u : State}

theorem refl (n : Nat) (s : State) : WalkKept n s s := ⟨.refl s, fun m _ _ => by split <;> rfl, fun _ => rfl⟩

theorem trans (h : WalkKept n s t) (k : WalkKept n t u) : WalkKept n s u where
  ops := h.ops.trans k.ops
  stations m m1 m2 := by
    rw [k.stations m m1 m2, h.stations m m1 m2]
    split <;> rfl
  loops := loopsAlone_trans h.loops k.loops

theorem of_event (h : EventKept n s t) : WalkKept n s t where
  ops := h.ops
  stations m m1 m2 := by
    rw [h.stations m m1 m2]
    split <;> rfl
  loops := h.loops

theorem countRejected (n : Nat) (s : State) : WalkKept n s (s.countRejected n) where
  ops := .modStation s n _
  stations m m1 m2 := by
    unfold State.countRejected
    rw [pick_station _ m1 m2]
    split <;> rfl
  loops l := by
    unfold State.countRejected
    rw [modStation_loop]

theorem eventTaken (n : Nat) (e : Event) (s : State) : WalkKept n s (s.eventTaken n e) := by
  unfold State.eventTaken
  split
  · exact (of_event (takeEvent_kept n e s)).trans (countRejected n _)
  · exact of_event (takeEvent_kept n e s)

theorem walk (n : Nat) (all : Bool) (es : List Event) (running : Option Nat) (rejected : Bool) (s : State) :
    WalkKept n s (walkEvents n all es running rejected s).1 := by
  induction es generalizing running rejected s with
  | nil => exact refl n s
  | cons e es ih =>
    cases h : all || isNew running e.seq with
    | false => rw [walk_repeat h]; exact ih ..
    | true =>
      by_cases hv : (s.takeEvent n e).2 = .refused
      · rw [walk_refused h hv]
        exact of_event (takeEvent_kept n e s)
      · rw [walk_taken h hv]
        exact (eventTaken n e s).trans (ih ..)

end WalkKept

end Sys2Proof.Machine
end

section
/-! PROOFS. StatusTaken: STATUS and HOLD of the polled station (R81–R86). -/

namespace Sys2Proof.Machine

/-! ## Becoming ONLINE (R83) -/

theorem heardFrom_online {s : State} {n : Nat} (h : (pick s.stations n).state = .online) : s.heardFrom n = s := if_pos h

theorem heardFrom_other {s : State} {n : Nat} (h : (pick s.stations n).state ≠ .online) : s.heardFrom n = s.becomeOnline n :=
  if_neg h

/-- R83: the station ONLINE and owed its announcement, its change not yet handed on. -/
def State.onlined (s : State) (n : Nat) : State :=
  (s.modLoop (loopOf n) fun x => { x with stationsOwed := insertAscending n x.stationsOwed }).modStation n fun x =>
    { x with state := .online }

theorem modLoop_modStation (s : State) (l : LoopId) (n : Nat) (f : LoopState → LoopState) (g : Station → Station) :
    (s.modLoop l f).modStation n g = (s.modStation n g).modLoop l f := by
  cases l <;> rfl

theorem modLoop_butEquations (s : State) (l : LoopId) (f : LoopState → LoopState) :
    (s.modLoop l f).butEquations = s.butEquations.modLoop l f := by
  cases l <;> rfl

/-- R83: the state before the STATION notice. -/
def State.onlineHanded (s : State) (n : Nat) : State :=
  (if (pick s.stations n).state = .offline then (s.modStation n fun x => { x with state := .online }).handOn [.station n]
    else s.modStation n fun x => { x with state := .online }).modLoop (loopOf n) fun x =>
      { x with stationsOwed := insertAscending n x.stationsOwed }

theorem becomeOnline_eq (s : State) (n : Nat) : s.becomeOnline n = (s.onlineHanded n).stationNotice n (pick s.stations n).state :=
  rfl

theorem onlineHanded_butEquations (s : State) (n : Nat) : (s.onlineHanded n).butEquations = (s.onlined n).butEquations := by
  unfold State.onlineHanded State.onlined
  rw [modLoop_modStation, modLoop_butEquations, modLoop_butEquations]
  split
  · rw [handOn_butEquations]
  · rfl

theorem onlineHanded_unknown {s : State} {n : Nat} (h : (pick s.stations n).state = .unknown) :
    s.onlineHanded n = s.onlined n := by
  unfold State.onlineHanded State.onlined
  rw [modLoop_modStation, h]
  rfl

theorem onlined_station (s : State) {n m : Nat} (m1 : 1 ≤ m) (m2 : m ≤ 96) : pick (s.onlined n).stations m =
    if m = n then { pick s.stations m with state := .online } else pick s.stations m := by
  unfold State.onlined
  rw [pick_station _ m1 m2, modLoop_stations]

theorem stationNotice_butHost (s : State) (n : Nat) (before : StationState) : (s.stationNotice n before).butHost = s.butHost :=
  notify_butHost ..

theorem becomeOnline_stations (s : State) (n : Nat) : (s.becomeOnline n).stations = (s.onlined n).stations :=
  (congrArg State.stations (stationNotice_butHost ..) :).trans (congrArg State.stations (onlineHanded_butEquations s n) :)

theorem becomeOnline_loop (s : State) (n : Nat) (k : LoopId) : (s.becomeOnline n).loop k = (s.onlined n).loop k := by
  have a : (s.becomeOnline n).loopA = (s.onlined n).loopA :=
    (congrArg State.loopA (stationNotice_butHost ..) :).trans (congrArg State.loopA (onlineHanded_butEquations s n) :)
  have b : (s.becomeOnline n).loopB = (s.onlined n).loopB :=
    (congrArg State.loopB (stationNotice_butHost ..) :).trans (congrArg State.loopB (onlineHanded_butEquations s n) :)
  cases k
  · exact a
  · exact b

theorem heardFrom_station (s : State) {n m : Nat} (m1 : 1 ≤ m) (m2 : m ≤ 96) : pick (s.heardFrom n).stations m =
    if m = n then { pick s.stations m with state := .online } else pick s.stations m := by
  by_cases h : (pick s.stations n).state = .online
  · rw [heardFrom_online h]
    split
    · next e => rw [e, ← h]
    · rfl
  · rw [heardFrom_other h, becomeOnline_stations, onlined_station s m1 m2]

theorem onlined_loop (s : State) (n : Nat) (k : LoopId) : (s.onlined n).loop k =
    { s.loop k with stationsOwed := ((s.onlined n).loop k).stationsOwed } := by
  unfold State.onlined
  rw [modStation_loop, loop_modLoop]
  split <;> rfl

theorem heardFrom_loop (s : State) (n : Nat) (k : LoopId) : (s.heardFrom n).loop k =
    { s.loop k with stationsOwed := ((s.heardFrom n).loop k).stationsOwed } := by
  by_cases h : (pick s.stations n).state = .online
  · rw [heardFrom_online h]
  · rw [heardFrom_other h, becomeOnline_loop]
    exact onlined_loop s n k

theorem onlined_butOps (s : State) (n : Nat) : (s.onlined n).butOps = s.butOps := (congrArg State.butOps (modLoop_butLoops ..) :)

theorem heardFrom_butOps (s : State) (n : Nat) : (s.heardFrom n).butOps = s.butOps := by
  by_cases h : (pick s.stations n).state = .online
  · rw [heardFrom_online h]
  · rw [heardFrom_other h, becomeOnline_eq]
    exact (congrArg State.butOps (stationNotice_butHost ..) :).trans
      ((congrArg State.butOps (onlineHanded_butEquations s n) :).trans (onlined_butOps s n))

/-! ## A STATUS (R81) -/

/-- R81: a good STATUS counted, the runs at 0. -/
def State.replied (s : State) (n : Nat) : State :=
  s.modStation n fun x => { x with goodReplies := min 65535 (x.goodReplies + 1), missRun := 0, holdRun := 0 }

/-- R81, R83: the state in which the events of a STATUS are taken. -/
def State.heardStatus (s : State) (n : Nat) : State := (s.replied n).heardFrom n

/-- R85: the sequence against which the first event of a STATUS is judged. -/
def lastTaken (s : State) (n : Nat) : Option Nat :=
  if (pick s.stations n).state = .online then (pick s.stations n).ackThrough else none

/-- R81–R86: what the walk of a STATUS leaves is the station's verdict and acknowledgement. -/
theorem takeStatus_eq {s t : State} {n : Nat} {es : List Event} {ack : Option Nat} {rejected : Bool}
    (h : walkEvents n (lastTaken s n).isNone es (lastTaken s n) false (s.heardStatus n) = (t, ack, rejected)) :
    s.takeStatus n es = t.judged n ack rejected := by
  have taken : ∀ w, w = walkEvents n (lastTaken s n).isNone es (lastTaken s n) false (s.heardStatus n) →
      s.takeStatus n es = w.1.judged n w.2.1 w.2.2 := by
    rintro w rfl
    rfl
  exact taken _ h.symm

theorem heardStatus_station (s : State) {n m : Nat} (m1 : 1 ≤ m) (m2 : m ≤ 96) : pick (s.heardStatus n).stations m =
    if m = n then { pick s.stations m with
      state := .online, goodReplies := min 65535 ((pick s.stations m).goodReplies + 1), missRun := 0, holdRun := 0 }
    else pick s.stations m := by
  unfold State.heardStatus
  rw [heardFrom_station _ m1 m2]
  unfold State.replied
  rw [pick_station _ m1 m2]
  split <;> rfl

theorem heardStatus_loop (s : State) (n : Nat) (k : LoopId) : (s.heardStatus n).loop k =
    { s.loop k with stationsOwed := ((s.heardStatus n).loop k).stationsOwed } := by
  unfold State.heardStatus
  have kept : (s.replied n).loop k = s.loop k := modStation_loop ..
  rw [heardFrom_loop, kept]

theorem heardStatus_butOps (s : State) (n : Nat) : (s.heardStatus n).butOps = s.butOps := heardFrom_butOps (s.replied n) n

theorem judged_loop (s : State) (n : Nat) (a : Option Nat) (r : Bool) (k : LoopId) : (s.judged n a r).loop k = s.loop k :=
  modStation_loop ..

theorem judged_station (s : State) {n m : Nat} (a : Option Nat) (r : Bool) (m1 : 1 ≤ m) (m2 : m ≤ 96) :
    pick (s.judged n a r).stations m =
      if m = n then { pick s.stations m with ackThrough := a, rejected := r } else pick s.stations m := pick_station _ m1 m2

theorem modStation_congr {s : State} {n : Nat} {f g : Station → Station} (h : f (pick s.stations n) = g (pick s.stations n)) :
    s.modStation n f = s.modStation n g := congrArg (fun v => ({ s with stations := v } : State)) (alter_congr_at _ h)

/-! ## STATUS after STATUS (R85) -/

section
variable {s t : State} {n g : Nat}

/-- R85: the rest of the events taken as a further STATUS, the acknowledgement as given. -/
theorem takeStatus_further (n1 : 1 ≤ n) (n2 : n ≤ 96) (ht : (pick t.stations n).state = .online
      ∧ (pick t.stations n).goodReplies = min 65535 (g + 1) ∧ (pick t.stations n).missRun = 0 ∧ (pick t.stations n).holdRun = 0)
    (a : Option Nat) (r : Bool) (rest : List Event) :
    (t.modStation n fun x => { x with goodReplies := g, ackThrough := a, rejected := r }).takeStatus n rest =
      (walkEvents n a.isNone rest a false t).1.judged n (walkEvents n a.isNone rest a false t).2.1
        (walkEvents n a.isNone rest a false t).2.2 := by
  obtain ⟨online, good, miss, hold⟩ := ht
  have here : pick (t.modStation n fun x => { x with goodReplies := g, ackThrough := a, rejected := r }).stations n =
      { pick t.stations n with goodReplies := g, ackThrough := a, rejected := r } := by
    rw [pick_station _ n1 n2, if_pos rfl]
  have heard : (t.modStation n fun x => { x with goodReplies := g, ackThrough := a, rejected := r }).heardStatus n =
      t.judged n a r := by
    unfold State.heardStatus State.replied
    rw [modStation_modStation, heardFrom_online (by rw [pick_station _ n1 n2, if_pos rfl]; exact online)]
    refine modStation_congr ?_
    dsimp only [Station.judged]
    generalize pick t.stations n = x at good miss hold
    rw [good, miss, hold]
  have last : lastTaken (t.modStation n fun x => { x with goodReplies := g, ackThrough := a, rejected := r }) n = a := by
    unfold lastTaken
    rw [here]
    exact if_pos online
  rw [takeStatus_eq (by rw [last, heard, judged_walk])]
  exact modStation_modStation ..

/-- R85: with an acknowledgement a repeat is passed over. -/
theorem takeStatus_repeat {q : Nat} {e : Event} (hq : lastTaken s n = some q) (h : (e.seq + 8 - q) % 8 ∉ [1, 2, 3, 4])
    (rest : List Event) : s.takeStatus n (e :: rest) = s.takeStatus n rest := by
  have old : (false || isNew (some q) e.seq) = false := by
    unfold isNew within
    simp only [List.mem_cons, List.not_mem_nil, or_false, not_or] at h
    simp only [Bool.false_or, Bool.and_eq_false_iff, decide_eq_false_iff_not]
    omega
  have passed : walkEvents n (lastTaken s n).isNone (e :: rest) (lastTaken s n) false (s.heardStatus n) =
      walkEvents n (lastTaken s n).isNone rest (lastTaken s n) false (s.heardStatus n) := by
    rw [hq]
    exact walk_repeat old
  exact (takeStatus_eq passed).trans (takeStatus_eq rfl).symm

/-- R85, R86: a refused event ends the walk. -/
theorem takeStatus_refused {e : Event} (new : ((lastTaken s n).isNone || isNew (lastTaken s n) e.seq) = true)
    (hv : ((s.heardStatus n).takeEvent n e).2 = .refused) (rest : List Event) :
    s.takeStatus n (e :: rest) = ((s.heardStatus n).takeEvent n e).1.judged n (lastTaken s n) false :=
  takeStatus_eq (walk_refused new hv)

/-- R85, R86: an event taken alone. -/
theorem takeStatus_single {e : Event} (new : ((lastTaken s n).isNone || isNew (lastTaken s n) e.seq) = true)
    (hv : ((s.heardStatus n).takeEvent n e).2 ≠ .refused) : s.takeStatus n [e] =
      ((s.heardStatus n).eventTaken n e).judged n (some e.seq) (decide (((s.heardStatus n).takeEvent n e).2 = .rejected)) :=
  takeStatus_eq (walk_taken new hv)

/-- R85, R86: an event taken, and the rest after it. -/
theorem takeStatus_cons {e : Event} {w : State × Option Nat × Bool}
    (new : ((lastTaken s n).isNone || isNew (lastTaken s n) e.seq) = true)
    (hv : ((s.heardStatus n).takeEvent n e).2 ≠ .refused) (rest : List Event)
    (hw : w = walkEvents n (lastTaken s n).isNone rest (some e.seq) false ((s.heardStatus n).eventTaken n e)) :
    s.takeStatus n (e :: rest) =
      w.1.judged n w.2.1 (decide (((s.heardStatus n).takeEvent n e).2 = .rejected) || w.2.2) := by
  refine takeStatus_eq ((walk_taken new hv).trans ((walk_rejected ..).trans ?_))
  rw [← hw, Bool.false_or]

/-- R86: what an event leaves of the station it is taken from. -/
theorem eventTaken_station (n1 : 1 ≤ n) (n2 : n ≤ 96) (e : Event) (u : State) :
    (pick (u.eventTaken n e).stations n).state = (pick u.stations n).state
      ∧ (pick (u.eventTaken n e).stations n).goodReplies = (pick u.stations n).goodReplies
      ∧ (pick (u.eventTaken n e).stations n).missRun = (pick u.stations n).missRun
      ∧ (pick (u.eventTaken n e).stations n).holdRun = (pick u.stations n).holdRun := by
  rw [(WalkKept.eventTaken n e u).stations n n1 n2, if_pos rfl]
  exact ⟨rfl, rfl, rfl, rfl⟩

theorem eventTaken_heard (n1 : 1 ≤ n) (n2 : n ≤ 96) (e : Event) :
    (pick ((s.heardStatus n).eventTaken n e).stations n).state = .online
      ∧ (pick ((s.heardStatus n).eventTaken n e).stations n).goodReplies = min 65535 ((pick s.stations n).goodReplies + 1)
      ∧ (pick ((s.heardStatus n).eventTaken n e).stations n).missRun = 0
      ∧ (pick ((s.heardStatus n).eventTaken n e).stations n).holdRun = 0 := by
  have kept := eventTaken_station n1 n2 e (s.heardStatus n)
  rw [heardStatus_station s n1 n2, if_pos rfl] at kept
  exact kept

theorem judged_modStation_eq (u : State) (n : Nat) (a : Option Nat) (r : Bool) (f : Station → Station) :
    (u.judged n a r).modStation n f = u.modStation n fun x => f { x with ackThrough := a, rejected := r } := modStation_modStation ..

theorem judged_same {u : State} (n1 : 1 ≤ n) (n2 : n ≤ 96) (a : Option Nat) (r : Bool) :
    (pick (u.judged n a r).stations n).ackThrough = a ∧ (pick (u.judged n a r).stations n).rejected = r := by
  rw [judged_station u a r n1 n2, if_pos rfl]
  exact ⟨rfl, rfl⟩

/-- R85: where an acknowledgement stands, the rest is taken as a further STATUS. -/
theorem takeStatus_rest (n1 : 1 ≤ n) (n2 : n ≤ 96) {q : Nat} {e : Event} (hq : lastTaken s n = some q)
    (new : isNew (some q) e.seq = true) (hv : ((s.heardStatus n).takeEvent n e).2 ≠ .refused) (rest : List Event)
    (ht : t = s.takeStatus n [e]) :
    s.takeStatus n (e :: rest) =
      (((t.modStation n fun x => { x with goodReplies := (pick s.stations n).goodReplies }).takeStatus n
        rest).modStation n fun x => { x with rejected := x.rejected || (pick t.stations n).rejected }) := by
  have new' : ((lastTaken s n).isNone || isNew (lastTaken s n) e.seq) = true := by rw [hq]; exact new
  have heard := eventTaken_heard (s := s) n1 n2 e
  have whole := takeStatus_cons new' hv rest rfl
  have single := takeStatus_single new' hv
  rw [hq] at whole
  rw [whole, ht, single, (judged_same n1 n2 _ _).2, judged_modStation_eq]
  generalize (s.heardStatus n).eventTaken n e = u at heard ⊢
  generalize decide (((s.heardStatus n).takeEvent n e).2 = .rejected) = r
  have further := takeStatus_further n1 n2 heard (some e.seq) r rest
  rw [further, judged_modStation_eq]
  show State.judged n _ (r || _) _ = State.judged n _ (_ || r) _
  rw [Bool.or_comm]
  rfl

/-- R25, R83, R85: where none stands, the rest is taken as a further STATUS that finds none. -/
theorem takeStatus_rest_absent (n1 : 1 ≤ n) (n2 : n ≤ 96) {e : Event} (hq : lastTaken s n = none)
    (hv : ((s.heardStatus n).takeEvent n e).2 ≠ .refused) (rest : List Event) (ht : t = s.takeStatus n [e]) :
    s.takeStatus n (e :: rest) =
      (((t.modStation n fun x => { x with
          goodReplies := (pick s.stations n).goodReplies, ackThrough := none }).takeStatus n rest).modStation n
        fun x => { x with
          rejected := x.rejected || (pick t.stations n).rejected
          ackThrough := some (x.ackThrough.getD e.seq) }) := by
  have new : ((lastTaken s n).isNone || isNew (lastTaken s n) e.seq) = true := by rw [hq]; rfl
  have heard := eventTaken_heard (s := s) n1 n2 e
  have whole := takeStatus_cons new hv rest rfl
  have single := takeStatus_single new hv
  rw [hq] at whole
  rw [whole, ht, single, (judged_same n1 n2 _ _).2, judged_modStation_eq]
  generalize (s.heardStatus n).eventTaken n e = u at heard ⊢
  generalize decide (((s.heardStatus n).takeEvent n e).2 = .rejected) = r
  have further := takeStatus_further n1 n2 heard none r rest
  rw [further, judged_modStation_eq]
  have run : walkEvents n (none : Option Nat).isNone rest (some e.seq) false u = ((walkEvents n (none : Option Nat).isNone rest none false u).1,
      some ((walkEvents n (none : Option Nat).isNone rest none false u).2.1.getD e.seq), (walkEvents n (none : Option Nat).isNone rest none false u).2.2) :=
    walk_running n rest e.seq false u
  generalize walkEvents n (none : Option Nat).isNone rest none false u = w at run ⊢
  rw [run]
  show w.1.judged n (some (w.2.1.getD e.seq)) (r || w.2.2) = w.1.judged n (some (w.2.1.getD e.seq)) (w.2.2 || r)
  rw [Bool.or_comm]

end

/-! ## The clauses (R79, R81–R86) -/

section
variable {s : State} {l : LoopId} {n : Nat} {content : List Byte}

theorem judgeReply_status {events : List Event}
    (h : readLoopFrame (content ++ checkBytes content) false = some (.status (addressOf n) events)) :
    s.judgeReply l n (content ++ checkBytes content) false = (pollEnded s l).takeStatus n events := by
  unfold State.judgeReply
  rw [h]
  exact if_pos rfl

theorem judgeReply_hold (h : readLoopFrame (content ++ checkBytes content) false = some (.hold (addressOf n))) :
    s.judgeReply l n (content ++ checkBytes content) false = (pollEnded s l).takeHold n := by
  unfold State.judgeReply
  rw [h]
  exact if_pos rfl

/-- R79: the bytes of a content that spells a STATUS. -/
theorem exec_status {events : List Event} (hs : settled s = true) (hp : (s.loop l).polled = some n)
    (hr : (s.loop l).receiver = .outside)
    (h : readLoopFrame (content ++ checkBytes content) false = some (.status (addressOf n) events)) :
    exec (.statusReceived l (frameBytes content)) s = .next ((pollEnded s l).takeStatus n events) := by
  rw [exec_loopLine hs (.inl rfl), frameBytes_eq, loopLine_framed hp hr, judgeReply_status h]

theorem exec_hold (hs : settled s = true) (hp : (s.loop l).polled = some n) (hr : (s.loop l).receiver = .outside)
    (h : readLoopFrame (content ++ checkBytes content) false = some (.hold (addressOf n))) :
    exec (.holdReceived l (frameBytes content)) s = .next ((pollEnded s l).takeHold n) := by
  rw [exec_loopLine hs (.inr (.inl rfl)), frameBytes_eq, loopLine_framed hp hr, judgeReply_hold h]

/-- R81: what a STATUS leaves. -/
theorem takeStatus_leaves (es : List Event) (t : State) (ht : t = s.takeStatus n es) :
    (∀ k, t.loop k = { s.loop k with
      announcements := (t.loop k).announcements, zonesOwed := (t.loop k).zonesOwed, stationsOwed := (t.loop k).stationsOwed })
    ∧ (∀ m, 1 ≤ m → m ≤ 96 → pick t.stations m = if m = n then { pick s.stations m with
        state := .online, goodReplies := min 65535 ((pick s.stations m).goodReplies + 1), missRun := 0, holdRun := 0
        ackThrough := (pick t.stations m).ackThrough, rejected := (pick t.stations m).rejected
        waiting := (pick t.stations m).waiting, lamp := (pick t.stations m).lamp
        rejectedEvents := (pick t.stations m).rejectedEvents } else pick s.stations m)
    ∧ t.butOps = s.butOps := by
  have kept := WalkKept.walk n (lastTaken s n).isNone es (lastTaken s n) false (s.heardStatus n)
  have taken := takeStatus_eq (s := s) (n := n) (es := es) rfl
  rw [← ht] at taken
  generalize walkEvents n (lastTaken s n).isNone es (lastTaken s n) false (s.heardStatus n) = w at kept taken
  refine ⟨fun k => ?_, fun m m1 m2 => ?_, ?_⟩
  · rw [taken, judged_loop, kept.loops k, heardStatus_loop]
  · rw [taken, judged_station _ _ _ m1 m2, kept.stations m m1 m2, heardStatus_station s m1 m2]
    split <;> rfl
  · rw [taken]
    exact kept.ops.view.trans (heardStatus_butOps s n)

/-- R81: a STATUS of the polled station. -/
theorem status_heard (n1 : 1 ≤ n) (n2 : n ≤ 96) (es : List Event) (t : State) (ht : t = (pollEnded s l).takeStatus n es)
    (hm : s.mode = .run) : (t.loop l).polled = none ∧ (t.loop l).receiver = .outside
      ∧ (pick t.stations n).state = .online ∧ (pick t.stations n).missRun = 0 ∧ (pick t.stations n).holdRun = 0
      ∧ (pick t.stations n).goodReplies = min 65535 ((pick s.stations n).goodReplies + 1)
      ∧ (pick t.stations n).misses = (pick s.stations n).misses
      ∧ (∀ m, 1 ≤ m → m ≤ 96 → m ≠ n →
        pick t.stations m = { pick s.stations m with lamp := (pick t.stations m).lamp })
      ∧ t.defs = s.defs ∧ t.trackers = s.trackers ∧ t.inputs = s.inputs ∧ t.mode = .run := by
  have ended := pollEnded_loop s l l
  rw [if_pos rfl] at ended
  have view := pollEnded_offlineView s l
  have same := pollEnded_stations s l
  generalize pollEnded s l = u at ht ended view same
  obtain ⟨loops, stations, rest⟩ := takeStatus_leaves es t ht
  rw [same] at stations
  have here := stations n n1 n2
  rw [if_pos rfl] at here
  have kept : t.butOps = s.butOps := rest.trans (congrArg State.butOps view :)
  have polled := loops l
  rw [ended] at polled
  refine ⟨by rw [polled], by rw [polled], by rw [here], by rw [here], by rw [here], by rw [here], by rw [here],
    fun m m1 m2 hne => ?_, (congrArg State.defs kept :), (congrArg State.trackers kept :), (congrArg State.inputs kept :),
    (congrArg State.mode kept :).trans hm⟩
  rw [stations m m1 m2, if_neg hne]

/-- R81, R85: a STATUS without a new event. -/
theorem takeStatus_old (es : List Event)
    (h : ∀ e ∈ es, ∃ q, lastTaken s n = some q ∧ (e.seq + 8 - q) % 8 ∉ [1, 2, 3, 4]) :
    s.takeStatus n es = (s.heardStatus n).judged n (lastTaken s n) false := by
  induction es with
  | nil => exact takeStatus_eq rfl
  | cons e es ih =>
    obtain ⟨q, hq, old⟩ := h e List.mem_cons_self
    rw [takeStatus_repeat hq old]
    exact ih fun e he => h e (List.mem_cons_of_mem _ he)

/-- R81: such a STATUS of a station ONLINE. -/
theorem takeStatus_old_online (online : (pick s.stations n).state = .online) (n1 : 1 ≤ n) (n2 : n ≤ 96) (es : List Event)
    (h : ∀ e ∈ es, ∃ q, (pick s.stations n).ackThrough = some q ∧ (e.seq + 8 - q) % 8 ∉ [1, 2, 3, 4]) :
    s.takeStatus n es = s.modStation n fun x => { x with
      goodReplies := min 65535 (x.goodReplies + 1), missRun := 0, holdRun := 0, rejected := false } := by
  have last : lastTaken s n = (pick s.stations n).ackThrough := if_pos online
  have still : (pick (s.replied n).stations n).state = .online := by
    unfold State.replied
    rw [pick_station _ n1 n2, if_pos rfl]
    exact online
  rw [takeStatus_old es (by rw [last]; exact h), last]
  unfold State.heardStatus
  rw [heardFrom_online still]
  exact (modStation_modStation ..).trans (modStation_congr rfl)

/-- R82: a HOLD below the eighth. -/
theorem takeHold_below (h : (pick s.stations n).holdRun < 7) : s.takeHold n =
    (s.modStation n fun x => { x with holdRun := x.holdRun + 1, goodReplies := min 65535 (x.goodReplies + 1) }).heardFrom n :=
  if_pos (Nat.succ_lt_succ h)

/-- R82: the eighth HOLD counts as a miss. -/
theorem takeHold_eighth (h : (pick s.stations n).holdRun = 7) : s.takeHold n =
    (s.modStation n fun x => { x with holdRun := 0 }).miss n := if_neg (by rw [h]; decide)

/-- R83: what becoming ONLINE leaves, and its notice. -/
theorem becomeOnline_form (n1 : 1 ≤ n) (n2 : n ≤ 96) (t : State) (ht : t = s.becomeOnline n) :
    t = { s.onlined n with
        equations := t.equations, flags := t.flags, relays := t.relays, tunes := t.tunes, host := t.host }
    ∧ ((pick s.stations n).state = .unknown → t.equations = s.equations)
    ∧ (pick s.host.reports 3 = false → t.host = s.host)
    ∧ (pick s.host.reports 3 = true → s.host.outbound.length < 24 →
      t.host.outbound = s.host.outbound ++ [.notice s.timeOfDay (.station n (loopOf n) (addressOf n)
        (pick s.stations n).state .online (pick s.stations n).misses (stationCalls s n))]) := by
  have online : t.butHost = (s.onlineHanded n).butHost := by rw [ht]; exact stationNotice_butHost ..
  have handed := onlineHanded_butEquations s n
  have unknown := onlineHanded_unknown (s := s) (n := n)
  have told : t = (s.onlineHanded n).notify (.station n (loopOf n) (addressOf n) (pick s.stations n).state
      (pick (s.onlineHanded n).stations n).state (pick (s.onlineHanded n).stations n).misses (stationCalls (s.onlineHanded n) n)) := ht
  generalize s.onlineHanded n = v at online handed unknown told
  have station : pick v.stations n = { pick s.stations n with state := .online } := by
    have same : v.stations = (s.onlined n).stations := (congrArg State.stations handed :)
    rw [same, onlined_station s n1 n2, if_pos rfl]
  have onlinedButOps : (s.onlined n).butLoops = (s.modStation n fun x => { x with state := .online }).butLoops := by
    unfold State.onlined
    rw [modLoop_modStation]
    exact modLoop_butLoops ..
  have host : v.host = s.host := (congrArg State.host handed :).trans (congrArg State.host onlinedButOps :)
  have time : v.timeOfDay = s.timeOfDay := (congrArg State.timeOfDay handed :).trans (congrArg State.timeOfDay onlinedButOps :)
  have calls : v.calls = s.calls := (congrArg State.calls handed :).trans (congrArg State.calls onlinedButOps :)
  have count : stationCalls v n = stationCalls s n := by
    unfold stationCalls
    rw [calls]
  rw [station, count] at told
  refine ⟨?_, fun h => ?_, fun off => ?_, fun on room => ?_⟩
  · have both : t.butHost.butEquations = (s.onlined n).butHost.butEquations :=
      (congrArg State.butEquations online :).trans (congrArg State.butHost handed :)
    exact (congrArg (fun y : State => { y with
      equations := t.equations, flags := t.flags, relays := t.relays, tunes := t.tunes, host := t.host }) both :)
  · have told : t.equations = v.equations := (congrArg State.equations online :)
    rw [told, unknown h]
    exact (congrArg State.equations onlinedButOps :)
  · rw [told, notify_quiet (by rw [host]; exact off), host]
  · rw [told, notify_room (by rw [host]; exact on) (by rw [host]; exact room), host, time]

/-- R82, R83: a HOLD makes a station ONLINE that is not. -/
theorem takeHold_online (n1 : 1 ≤ n) (n2 : n ≤ 96) (live : (pick s.stations n).state ≠ .online)
    (h : (pick s.stations n).holdRun < 7) (t : State) (ht : t = (pollEnded s l).takeHold n) :
    t = { (((pollEnded s l).modLoop (loopOf n) fun x =>
          { x with stationsOwed := insertAscending n x.stationsOwed }).modStation n fun x => { x with
            state := .online, goodReplies := min 65535 (x.goodReplies + 1), holdRun := x.holdRun + 1 }) with
        equations := t.equations, flags := t.flags, relays := t.relays, tunes := t.tunes, host := t.host }
    ∧ ((pick s.stations n).state = .unknown → t.equations = s.equations)
    ∧ (pick s.host.reports 3 = false → t.host = s.host)
    ∧ (pick s.host.reports 3 = true → s.host.outbound.length < 24 →
      t.host.outbound = s.host.outbound ++ [.notice s.timeOfDay (.station n (loopOf n) (addressOf n)
        (pick s.stations n).state .online (pick s.stations n).misses (stationCalls s n))]) := by
  have view := pollEnded_offlineView s l
  have ended : pick (pollEnded s l).stations n = pick s.stations n := by rw [pollEnded_stations]
  have equations : (pollEnded s l).equations = s.equations := modLoop_equations ..
  rw [takeHold_below (by rw [ended]; exact h)] at ht
  generalize pollEnded s l = u at view ended equations ht ⊢
  have here : pick (u.modStation n fun x => { x with
        holdRun := x.holdRun + 1, goodReplies := min 65535 (x.goodReplies + 1) }).stations n =
      { pick s.stations n with
        holdRun := (pick s.stations n).holdRun + 1, goodReplies := min 65535 ((pick s.stations n).goodReplies + 1) } := by
    rw [pick_station _ n1 n2, if_pos rfl, ended]
  rw [heardFrom_other (by rw [here]; exact live)] at ht
  have form := becomeOnline_form n1 n2 t ht
  have whole : (u.modStation n fun x => { x with
        holdRun := x.holdRun + 1, goodReplies := min 65535 (x.goodReplies + 1) }).onlined n =
      (u.modLoop (loopOf n) fun x => { x with stationsOwed := insertAscending n x.stationsOwed }).modStation n fun x => { x with
        state := .online, goodReplies := min 65535 (x.goodReplies + 1), holdRun := x.holdRun + 1 } := by
    unfold State.onlined
    rw [← modLoop_modStation]
    exact modStation_modStation ..
  rw [whole, here] at form
  have host : u.host = s.host := (congrArg State.host view :)
  have time : u.timeOfDay = s.timeOfDay := (congrArg State.timeOfDay view :)
  have calls : u.calls = s.calls := (congrArg State.calls view :)
  have kept : ∀ f : Station → Station, (u.modStation n f).host = s.host ∧ (u.modStation n f).timeOfDay = s.timeOfDay
      ∧ stationCalls (u.modStation n f) n = stationCalls s n ∧ (u.modStation n f).equations = s.equations := fun f =>
    ⟨host, time, congrArg (fun cs : List Call => (cs.filter fun c : Call => c.origin == Origin.station n).length) calls, equations⟩
  obtain ⟨keptHost, keptTime, keptCount, keptEquations⟩ := kept fun x => { x with
    holdRun := x.holdRun + 1, goodReplies := min 65535 (x.goodReplies + 1) }
  rw [keptHost, keptTime, keptCount, keptEquations] at form
  exact form

/-- R79, R82, R84: the eighth HOLD at the miss limit. -/
theorem hold_offline (n1 : 1 ≤ n) (n2 : n ≤ 96) :
    ((pollEnded s l).modStation n fun x => { x with holdRun := 0 }).miss n =
      if (pick s.stations n).state = .offline then (s.missed l n).modStation n fun x => { x with holdRun := 0 }
      else if (pick s.stations n).missRun + 1 < (loopSettings s (loopOf n)).missLimit then
        (s.missed l n).modStation n fun x => { x with missRun := x.missRun + 1, holdRun := 0 }
      else (s.missed l n).goOffline n := by
  have counted : ((pollEnded s l).modStation n fun x => { x with holdRun := 0 }).modStation n (fun x => { x with
      misses := min 65535 (x.misses + 1) }) = (s.missed l n).modStation n fun x => { x with holdRun := 0 } := by
    unfold State.missed
    rw [modStation_modStation, modStation_modStation]
  have taken : ∀ v, v = ((pollEnded s l).modStation n fun x => { x with holdRun := 0 }).modStation n (fun x => { x with
      misses := min 65535 (x.misses + 1) }) → ((pollEnded s l).modStation n fun x => { x with holdRun := 0 }).miss n =
      if (pick v.stations n).state = .offline then v
      else if (pick v.stations n).missRun + 1 < (loopSettings v (loopOf n)).missLimit then
        v.modStation n fun x => { x with missRun := x.missRun + 1 }
      else v.goOffline n := by
    rintro v rfl
    rfl
  have settings : loopSettings ((s.missed l n).modStation n fun x => { x with holdRun := 0 }) (loopOf n) =
      loopSettings s (loopOf n) := by
    unfold loopSettings
    rw [show ((s.missed l n).modStation n fun x => { x with holdRun := 0 }).defs = s.defs from missed_defs s l n]
  have here : pick ((s.missed l n).modStation n fun x => { x with holdRun := 0 }).stations n =
      { pick (s.missed l n).stations n with holdRun := 0 } := by
    rw [pick_station _ n1 n2, if_pos rfl]
  have off : ((s.missed l n).modStation n fun x => { x with holdRun := 0 }).goOffline n = (s.missed l n).goOffline n := by
    rw [goOffline_eq, goOffline_eq, here]
    unfold State.offlined
    rw [modStation_modStation]
  rw [taken _ rfl, counted, settings, off, here, missed_station s l n1 n2]
  refine if_congr Iff.rfl rfl (if_congr Iff.rfl (modStation_modStation ..) rfl)

/-- R85: an event is new against an acknowledgement. -/
theorem isNew_of_distance {q k : Nat} (h : (k + 8 - q) % 8 ∈ [1, 2, 3, 4]) : isNew (some q) k = true := by
  simp only [List.mem_cons, List.not_mem_nil, or_false] at h
  unfold isNew within
  simp only [Bool.and_eq_true, decide_eq_true_eq]
  omega

/-- R85, R86: an event alone is acknowledged exactly where it is taken. -/
theorem acknowledged_iff (n1 : 1 ≤ n) (n2 : n ≤ 96) {e : Event} {t : State} (ht : t = s.takeStatus n [e])
    (new : ((lastTaken s n).isNone || isNew (lastTaken s n) e.seq) = true) (other : lastTaken s n ≠ some e.seq) :
    (pick t.stations n).ackThrough = some e.seq ↔ ((s.heardStatus n).takeEvent n e).2 ≠ .refused := by
  constructor
  · intro h refused
    rw [ht, takeStatus_refused new refused, (judged_same n1 n2 _ _).1] at h
    exact other h
  · intro taken
    rw [ht, takeStatus_single new taken, (judged_same n1 n2 _ _).1]

/-- R85, R86: nothing is taken after an event refused. -/
theorem takeStatus_ended (n1 : 1 ≤ n) (n2 : n ≤ 96) {e : Event} {t : State} (ht : t = s.takeStatus n [e])
    (new : ((lastTaken s n).isNone || isNew (lastTaken s n) e.seq) = true) (other : lastTaken s n ≠ some e.seq)
    (h : (pick t.stations n).ackThrough ≠ some e.seq) (rest : List Event) : s.takeStatus n (e :: rest) = t := by
  have refused := not_not.mp fun taken => h ((acknowledged_iff n1 n2 ht new other).mpr taken)
  rw [ht, takeStatus_refused new refused, takeStatus_refused new refused]

end

/-- Settles O48: what a STATUS and a HOLD leave, and the walk as a STATUS of its first event and one of the rest. -/
theorem loopRepliesTaken : Obligations.LoopRepliesTaken := by
  unfold Obligations.LoopRepliesTaken
  intro s l n content hs hm hp hr n1 n2
  have stations : pick (pollEnded s l).stations n = pick s.stations n := by rw [pollEnded_stations]
  refine ⟨fun events h => ⟨?_, fun online old => ?_⟩, fun h online => ⟨fun run => ?_, fun run miss => ?_⟩,
    fun h => ⟨fun live run => ?_, fun live run limit => ?_⟩, fun events h => exec_status hs hp hr h,
    fun e rest t q online ack hq hseq ht => ?_, fun e rest t absent ht => ?_⟩
  · exact ⟨_, exec_status hs hp hr h, status_heard n1 n2 events _ rfl hm⟩
  · rw [exec_status hs hp hr h, takeStatus_old_online (by rw [stations]; exact online) n1 n2]
    intro e he
    obtain ⟨q, hq, -, none⟩ := old e he
    exact ⟨q, by rw [stations]; exact hq, none⟩
  · rw [exec_hold hs hp hr h, takeHold_below (by rw [stations]; exact run), heardFrom_online ?_]
    rw [pick_station _ n1 n2, if_pos rfl, stations]
    exact online
  · rw [exec_hold hs hp hr h, takeHold_eighth (by rw [stations]; exact run), hold_offline n1 n2, if_neg (by rw [online]; decide),
      if_pos miss]
    exact congrArg Host.Outcome.next (modStation_modStation ..)
  · exact ⟨_, exec_hold hs hp hr h, takeHold_online n1 n2 live run _ rfl⟩
  · refine ⟨_, exec_hold hs hp hr h, ?_⟩
    rw [takeHold_eighth (by rw [stations]; exact run), hold_offline n1 n2, if_neg live, if_neg (Nat.not_lt.mpr limit)]
    exact goOffline_gone s l n1 n2
  · have last : lastTaken s n = some q := (if_pos online).trans ack
    refine ⟨fun old => takeStatus_repeat last old rest, fun new taken => ?_, fun new refused => ?_⟩
    all_goals
      have fresh : ((lastTaken s n).isNone || isNew (lastTaken s n) e.seq) = true := by
        rw [last]
        exact isNew_of_distance new
      have other : lastTaken s n ≠ some e.seq := by
        rw [last]
        rintro ⟨⟩
        simp at new
    · exact takeStatus_rest n1 n2 last (isNew_of_distance new) ((acknowledged_iff n1 n2 ht fresh other).mp taken) rest ht
    · exact takeStatus_ended n1 n2 ht fresh other refused rest
  · have last : lastTaken s n = none := by
      unfold lastTaken
      split
      · next online => exact absent.resolve_left (not_not.mpr online)
      · rfl
    have fresh : ((lastTaken s n).isNone || isNew (lastTaken s n) e.seq) = true := by
      rw [last]
      rfl
    have other : lastTaken s n ≠ some e.seq := by
      rw [last]
      exact (Option.some_ne_none _).symm
    exact ⟨fun taken => takeStatus_rest_absent n1 n2 last ((acknowledged_iff n1 n2 ht fresh other).mp taken) rest ht,
      fun refused => takeStatus_ended n1 n2 ht fresh other refused rest⟩

end Sys2Proof.Machine
end

section
/-! PROOFS. EventDone: a STATUS with one new event of a station ONLINE, and what each event comes to (R9, R81–R86). -/

namespace Sys2Proof.Machine

/-- R86: the state after an event, the station judged by its verdict. -/
def judgedBy (n seq : Nat) : State × Verdict → State
  | (t, .accepted) => t.judged n (some seq) false
  | (t, .rejected) => (t.countRejected n).judged n (some seq) true
  | (t, .refused) => t

theorem judged_judged (s : State) (n : Nat) (a b : Option Nat) (p r : Bool) : (s.judged n a p).judged n b r = s.judged n b r :=
  modStation_modStation ..

section
variable {s h : State} {l : LoopId} {n : Nat} {content : List Byte} {e : Event}

/-- R81: a STATUS of a station ONLINE, before its events. -/
theorem statusHeard_eq (n1 : 1 ≤ n) (n2 : n ≤ 96) (online : (pick s.stations n).state = .online) :
    statusHeard s l n = ((pollEnded s l).heardStatus n).judged n (pick s.stations n).ackThrough false := by
  have ended : pick (pollEnded s l).stations n = pick s.stations n := by rw [pollEnded_stations]
  unfold statusHeard State.heardStatus
  generalize pollEnded s l = u at ended ⊢
  have still : (pick (u.replied n).stations n).state = .online := by
    unfold State.replied
    rw [pick_station _ n1 n2, if_pos rfl, ended]
    exact online
  rw [heardFrom_online still]
  refine Eq.trans (modStation_congr ?_) (modStation_modStation ..).symm
  dsimp only [Station.judged]
  rw [ended]

/-- R81–R86: a STATUS with one event, new to a station ONLINE. -/
theorem exec_event (hs : settled s = true) (hp : (s.loop l).polled = some n) (hr : (s.loop l).receiver = .outside)
    (n1 : 1 ≤ n) (n2 : n ≤ 96) (online : (pick s.stations n).state = .online)
    (new : ∀ q, (pick s.stations n).ackThrough = some q → (e.seq + 8 - q) % 8 ∈ [1, 2, 3, 4])
    (read : readLoopFrame (content ++ checkBytes content) false = some (.status (addressOf n) [e]))
    (heard : h = statusHeard s l n) :
    exec (.statusReceived l (frameBytes content)) s = .next (judgedBy n e.seq (h.takeEvent n e)) := by
  have ended : pick (pollEnded s l).stations n = pick s.stations n := by rw [pollEnded_stations]
  rw [exec_status hs hp hr read]
  refine congrArg Host.Outcome.next ?_
  rw [statusHeard_eq n1 n2 online] at heard
  have last : lastTaken (pollEnded s l) n = (pick s.stations n).ackThrough := by
    unfold lastTaken
    rw [ended, if_pos online]
  have fresh : ((lastTaken (pollEnded s l) n).isNone || isNew (lastTaken (pollEnded s l) n) e.seq) = true := by
    rw [last]
    cases ack : (pick s.stations n).ackThrough with
    | none => rfl
    | some q => exact isNew_of_distance (new q ack)
  have single := takeStatus_single (s := pollEnded s l) (n := n) (e := e) fresh
  have refused := fun hv => takeStatus_refused (s := pollEnded s l) (n := n) (e := e) fresh hv []
  rw [heard, judged_takeEvent]
  rw [last] at refused
  unfold State.eventTaken at single
  generalize (pollEnded s l).heardStatus n = u at single refused ⊢
  generalize u.takeEvent n e = p at single refused ⊢
  obtain ⟨t, v⟩ := p
  cases v with
  | accepted => exact (single nofun).trans (judged_judged ..).symm
  | rejected =>
    refine (single nofun).trans ?_
    show _ = ((t.judged n _ false).countRejected n).judged n (some e.seq) true
    rw [judged_countRejected, judged_judged]
    rfl
  | refused => exact refused rfl

end

/-! ## The events (R9, R65, R86) -/

section
variable {h : State} {n : Nat} {e : Event}

theorem selected_iff {k : Nat} {c : Call} : selectorFinds h n k c ↔ selected h n k = some c := by
  unfold selectorFinds selected
  constructor
  · rintro (⟨k1, k2, found⟩ | ⟨rfl, found⟩)
    · rw [if_neg (by omega), if_pos (within_of_le k1 k2)]
      exact found
    · exact found
  · intro found
    split at found
    · next hk => exact .inr ⟨hk, found⟩
    · split at found
      · next hk => exact .inl ⟨(within_iff.mp hk).1, (within_iff.mp hk).2, found⟩
      · cases found

theorem takeEvent_call {cls : Nat} (hk : e.kind = .call) (hc : h.defs.codeMap.classOf e.operand = some cls) :
    h.takeEvent n e = h.takeCall n cls := by
  unfold State.takeEvent
  rw [hk]
  dsimp only
  rw [hc]

theorem takeEvent_classless (hk : e.kind = .call) (hc : h.defs.codeMap.classOf e.operand = none) :
    h.takeEvent n e = (h.clearWaiting n, .rejected) := by
  unfold State.takeEvent
  rw [hk]
  dsimp only
  rw [hc]

theorem takeSelected_some {k : Nat} {c : Call} {act : State → Call → State} (found : selectorFinds h n k c) :
    h.takeSelected n k act = (act h c, .accepted) := by
  unfold State.takeSelected
  rw [selected_iff.mp found]

theorem takeSelected_none {k : Nat} {act : State → Call → State} (none : ∀ c, ¬ selectorFinds h n k c) :
    h.takeSelected n k act = (h, .rejected) := by
  have absent : selected h n k = .none := Option.eq_none_iff_forall_not_mem.mpr fun c hc => none c (selected_iff.mpr hc)
  unfold State.takeSelected
  rw [absent]

theorem takeEvent_answer (hk : e.kind = .answer) : h.takeEvent n e = h.takeSelected n e.operand State.answerCall := by
  unfold State.takeEvent
  rw [hk]

theorem takeEvent_carry (hk : e.kind = .carry) : h.takeEvent n e =
    h.takeSelected n e.operand fun s c => if carriable s c then s.carryCall c else s := by
  unfold State.takeEvent
  rw [hk]

theorem takeEvent_clear (hk : e.kind = .clear) :
    h.takeEvent n e = h.takeSelected n e.operand fun s c => s.closeCall .cleared true c := by
  unfold State.takeEvent
  rw [hk]

theorem takeEvent_restart {d : StationDef} {z : ZoneDef} (hk : e.kind = .restart) (hd : h.stationDef n = some d)
    (hz : h.zoneDef d.zone = some z) : h.takeEvent n e =
      if d.leader && !heldOtherwise h z.sec && (pick h.stops z.sec).pending then (h.giveRestart z.sec, .accepted)
      else (h, .rejected) := by
  have sec : sectionOfStation h n = z.sec := by
    unfold sectionOfStation
    rw [hd]
    dsimp only
    rw [hz]
  unfold State.takeEvent State.takeRestart
  rw [hk, sec, hd]

theorem takeCall_repeats {cls : Nat} {c : Call} (found : callFrom h (.station n) cls = some c) :
    h.takeCall n cls = ((h.repeatCall c).clearWaiting n, .accepted) := by
  unfold State.takeCall
  rw [found]

theorem takeCall_refused {cls : Nat} (new : callFrom h (.station n) cls = none) (full : hasRoom h cls = false) :
    h.takeCall n cls = (if stopping h cls then h.markWaiting n else h, .refused) := by
  unfold State.takeCall
  rw [new, full]
  rfl

theorem takeCall_creates {cls : Nat} {d : StationDef} (hd : h.stationDef n = some d)
    (new : callFrom h (.station n) cls = none) (room : hasRoom h cls = true) :
    h.takeCall n cls = ((h.createCall (.station n) cls d.zone
      (if stopping h cls then (pick h.stations n).waiting else none)).clearWaiting n, .accepted) := by
  unfold State.takeCall
  rw [new, room, hd]
  rfl

theorem stopping_iff {cls : Nat} : stopping h cls = true ↔ (h.classDef cls).stop ≠ .none := by
  unfold stopping
  exact bne_iff_ne

end

end Sys2Proof.Machine
end

section
/-! PROOFS. EventClauses: one new event of a station that is not marked (R9–R22, R63–R65, R86). -/

namespace Sys2Proof.Machine

/-! ## What the verdict leaves (R86) -/

section
variable {h v : State} {n seq : Nat}

theorem eventAcknowledged_of (kept : EventKept n h v) (waiting : (pick v.stations n).waiting = (pick h.stations n).waiting)
    (accepted : (pick h.stations n).rejected = false) : eventAcknowledged h (v.judged n (some seq) false) n seq := by
  intro m m1 m2
  rw [judged_station _ _ _ m1 m2]
  by_cases hm : m = n
  · subst hm
    have here := kept.station m1 m2
    rw [waiting] at here
    rw [if_pos rfl, if_pos rfl, here, ← accepted]
  · rw [if_neg hm, if_neg hm, kept.stations m m1 m2, if_neg hm]

/-- R86: of what an event leaves, the verdict changes the station alone. -/
theorem judged_butShown {y : State} {a : Option Nat} {r : Bool} (hu : v.butShown = y.butShown) :
    (v.judged n a r).butShown = ({ y with stations := (v.judged n a r).stations } : State).butShown :=
  (congrArg (fun w : State => ({ w with stations := (v.judged n a r).stations } : State)) hu :)

theorem shows_judged {a : Option Nat} {r : Bool} (sh : Shows h v) : Shows h (v.judged n a r) :=
  sh.trans (.of_eq rfl rfl rfl)

theorem loopsAnnounce_judged {a : Option Nat} {r : Bool} (told : loopsAnnounce h v) : loopsAnnounce h (v.judged n a r) :=
  loopsAnnounce_congr rfl rfl told

end

section
variable {h : State} {n : Nat} {e : Event}

/-! ## Events that are rejected (R9, R65) -/

theorem judgedBy_rejected (n seq : Nat) (h : State) : judgedBy n seq (h, .rejected) = h.modStation n fun x => { x with
    ackThrough := some seq, rejected := true, rejectedEvents := min 65535 (x.rejectedEvents + 1) } := modStation_modStation ..

theorem judgedBy_idle (accepted : (pick h.stations n).rejected = false) (seq : Nat) :
    judgedBy n seq (h, .accepted) = h.modStation n fun x => { x with ackThrough := some seq } := by
  refine modStation_congr ?_
  dsimp only [Station.judged]
  rw [← accepted]

theorem takeEvent_classless_unmarked (hk : e.kind = .call) (hc : h.defs.codeMap.classOf e.operand = none)
    (unmarked : (pick h.stations n).waiting = none) : h.takeEvent n e = (h, .rejected) := by
  rw [takeEvent_classless hk hc, clearWaiting_none unmarked]

theorem takeEvent_unselected (hk : e.kind ∈ [EventKind.answer, .carry, .clear]) (none : ∀ c, ¬ selectorFinds h n e.operand c) :
    h.takeEvent n e = (h, .rejected) := by
  simp only [List.mem_cons, List.not_mem_nil, or_false] at hk
  obtain hk | hk | hk := hk
  · rw [takeEvent_answer hk, takeSelected_none none]
  · rw [takeEvent_carry hk, takeSelected_none none]
  · rw [takeEvent_clear hk, takeSelected_none none]

theorem takeEvent_unreleased {d : StationDef} {z : ZoneDef} (hk : e.kind = .restart) (hd : h.stationDef n = some d)
    (hz : h.zoneDef d.zone = some z) (no : d.leader = false ∨ (pick h.stops z.sec).holdOrder ≠ []
      ∨ (pick h.stops z.sec).overflow = true ∨ (pick h.stops z.sec).pending = false) : h.takeEvent n e = (h, .rejected) := by
  rw [takeEvent_restart hk hd hz]
  refine if_neg fun given => ?_
  simp only [Bool.and_eq_true, Bool.not_eq_true'] at given
  obtain ⟨⟨leader, free⟩, pending⟩ := given
  rw [← Bool.not_eq_true, heldOtherwise_iff] at free
  obtain no | no | no | no := no
  · rw [no] at leader; cases leader
  · exact free (.inl no)
  · exact free (.inr no)
  · rw [no] at pending; cases pending

/-! ## A CALL without room (R18, R63) -/

theorem marked_eq (x : StopLogic) : x.marked = { x with
    waiting := x.waiting + 1, overflow := x.overflow || decide (x.waiting = 0)
    request := x.request || decide (x.waiting = 0)
    coast := if x.request = false ∧ x.waiting = 0 then 0 else x.coast } := by
  obtain ⟨order, overflow, waiting, pending, request, coast, unattributed⟩ := x
  unfold StopLogic.marked
  by_cases first : waiting = 0
  · subst first
    unfold StopLogic.lined StopLogic.hasCause
    cases request <;> simp
  · simp [first]

theorem markWaiting_stops {s : State} {n : Nat} (unmarked : (pick s.stations n).waiting = none) :
    (s.markWaiting n).stops = alter s.stops (sectionOfStation s n) StopLogic.marked := by
  rw [markWaiting_none unmarked, waitingRises_stops]
  rfl

theorem sectionOfStation_eq {d : StationDef} {z : ZoneDef} (hd : h.stationDef n = some d) (hz : h.zoneDef d.zone = some z) :
    sectionOfStation h n = z.sec := by
  unfold sectionOfStation
  rw [hd]
  dsimp only
  rw [hz]

/-- R18, R63: a stopping CALL without room marks the station. -/
theorem markWaiting_marks {d : StationDef} {z : ZoneDef} (hd : h.stationDef n = some d) (hz : h.zoneDef d.zone = some z)
    (unmarked : (pick h.stations n).waiting = none) (t : State) (ht : t = h.markWaiting n) :
    sameButShown { h with stations := t.stations, stops := t.stops, loopA := t.loopA, loopB := t.loopB } t
    ∧ loopsAnnounce h t
    ∧ (∀ m, 1 ≤ m → m ≤ 96 → pick t.stations m =
      if m = n then { pick h.stations m with waiting := some h.timeOfDay } else pick h.stations m)
    ∧ (∀ m, 1 ≤ m → m ≤ 4 → pick t.stops m =
      if m = z.sec then { pick h.stops m with
        waiting := (pick h.stops m).waiting + 1
        overflow := (pick h.stops m).overflow || decide ((pick h.stops m).waiting = 0)
        request := (pick h.stops m).request || decide ((pick h.stops m).waiting = 0)
        coast := if (pick h.stops m).request = false ∧ (pick h.stops m).waiting = 0 then 0 else (pick h.stops m).coast }
      else pick h.stops m) := by
  have calls : t.calls = h.calls := by
    rw [ht, markWaiting_none unmarked]
    exact (congrArg State.calls (waitingRises_butStops ..) :)
  subst ht
  refine ⟨sameButShown_of_change (s := h) ⟨rfl, rfl, rfl⟩ ?_ (ByOps.markWaiting h n).shows, markWaiting_announces h n,
    fun m m1 m2 => markWaiting_station unmarked m1 m2, fun m m1 m2 => ?_⟩
  · rw [butShown_of_change (markWaiting_butChange h n), calls]
  · rw [markWaiting_stops unmarked, sectionOfStation_eq hd hz, pick_alter_within _ _ m1 m2, marked_eq]

/-! ## A CALL repeated (R13) -/

theorem repeated_same {c : Call} (hc : c.state ≠ .carried ∨ (h.classDef c.cls).stop = .none) :
    repeated h c = { c with repeats := min 15 (c.repeats + 1) } := by
  obtain hc | hc := hc
  · exact repeated_standing hc
  · unfold repeated
    dsimp only
    rw [hc]
    split <;> rfl

theorem repeatCall_waiting (c : Call) (n1 : 1 ≤ n) (n2 : n ≤ 96) :
    (pick (h.repeatCall c).stations n).waiting = (pick h.stations n).waiting := by
  rw [repeatCall_lamps h c n n1 n2]
  split <;> rfl

theorem repeatCall_kept {cls : Nat} {c : Call} (found : callFrom h (.station n) cls = some c) : EventKept n h (h.repeatCall c) :=
  .of_lamps (.repeatCall h c) (callFrom_origin found).2.1 (repeatCall_lamps h c) (repeatCall_announces h c)

theorem takeEvent_repeats {cls : Nat} {c : Call} (n1 : 1 ≤ n) (n2 : n ≤ 96) (hk : e.kind = .call)
    (hc : h.defs.codeMap.classOf e.operand = some cls) (unmarked : (pick h.stations n).waiting = none)
    (found : callFrom h (.station n) cls = some c) : h.takeEvent n e = (h.repeatCall c, .accepted) := by
  rw [takeEvent_call hk hc, takeCall_repeats found, clearWaiting_none]
  rw [repeatCall_waiting c n1 n2]
  exact unmarked

/-- R13, R86: a repeat that leaves stop logic. -/
theorem repeats_quietly {cls : Nat} {c now : Call} (n1 : 1 ≤ n) (n2 : n ≤ 96) (accepted : (pick h.stations n).rejected = false)
    (found : callFrom h (.station n) cls = some c) (hnow : repeated h c = now) (quiet : ¬ (now.state = .holding ∧ c.state ≠ .holding))
    (seq : Nat) (t : State) (ht : t = (h.repeatCall c).judged n (some seq) false) :
    sameButShown { h with calls := withRecord h c now, stations := t.stations } t ∧ eventAcknowledged h t n seq := by
  subst hnow ht
  exact ⟨sameButShown_of_change (s := h) ⟨rfl, rfl, rfl⟩ (judged_butShown (repeatCall_butShown quiet))
      (shows_judged (ByOps.repeatCall h c).shows),
    eventAcknowledged_of (repeatCall_kept found) (repeatCall_waiting c n1 n2) accepted⟩

/-- R13, R59, R86: a repeat of a CARRIED call of class IMMEDIATE. -/
theorem repeats_holding {cls : Nat} {c : Call} (n1 : 1 ≤ n) (n2 : n ≤ 96) (accepted : (pick h.stations n).rejected = false)
    (found : callFrom h (.station n) cls = some c) (carried : c.state = .carried)
    (immediate : (h.classDef c.cls).stop = .immediate)
    (seq : Nat) (t : State) (ht : t = (h.repeatCall c).judged n (some seq) false) :
    sameButShown { h with
        calls := withRecord h c { c with repeats := min 15 (c.repeats + 1), state := .holding }
        stations := t.stations, stops := t.stops, loopA := t.loopA, loopB := t.loopB } t
      ∧ eventAcknowledged h t n seq ∧ holdEntered c.sec c.number h t ∧ loopsAnnounce h t := by
  have now := repeated_immediate carried immediate
  have holds : (repeated h c).state = .holding ∧ c.state ≠ .holding := by
    rw [now, carried]
    exact ⟨rfl, nofun⟩
  have shown := butShown_of_change (repeatCall_butChange h c)
  have stops := repeatCall_stops h c
  rw [repeatCall_calls, now] at shown
  rw [if_pos holds] at stops
  subst ht
  exact ⟨sameButShown_of_change (s := h) ⟨rfl, rfl, rfl⟩ (judged_butShown shown) (shows_judged (ByOps.repeatCall h c).shows),
    eventAcknowledged_of (repeatCall_kept found) (repeatCall_waiting c n1 n2) accepted, holdEntered_of_stops stops,
    loopsAnnounce_judged (repeatCall_announces h c)⟩

end

end Sys2Proof.Machine
end

section
/-! PROOFS. EventCalls: a new event that creates a call, acts on one, or restarts a section (R12, R14, R15, R22, R65). -/

namespace Sys2Proof.Machine

section
variable {h : State} {n : Nat} {e : Event}

/-! ## A CALL with room (R12) -/

theorem createCall_waiting (cls zone : Nat) (w : Option Nat) (n1 : 1 ≤ n) (n2 : n ≤ 96) :
    (pick (h.createCall (.station n) cls zone w).stations n).waiting = (pick h.stations n).waiting := by
  rw [createCall_station h n cls zone w n1 n2, if_pos rfl]

theorem takeEvent_creates {cls : Nat} {d : StationDef} (n1 : 1 ≤ n) (n2 : n ≤ 96) (hk : e.kind = .call)
    (hc : h.defs.codeMap.classOf e.operand = some cls) (unmarked : (pick h.stations n).waiting = none)
    (hd : h.stationDef n = some d) (new : callFrom h (.station n) cls = none) (room : hasRoom h cls = true) :
    h.takeEvent n e = (h.createCall (.station n) cls d.zone none, .accepted) := by
  have told : (if stopping h cls then (pick h.stations n).waiting else none) = none := by
    rw [unmarked, ite_self]
  rw [takeEvent_call hk hc, takeCall_creates hd new room, told, clearWaiting_none]
  rw [createCall_waiting cls d.zone none n1 n2]
  exact unmarked

/-- R12: below the greatest arrival order, the new record stands last. -/
theorem createCall_table {o : Origin} {cls zone : Nat} {w : Option Nat} (count : h.arrivalCount < 4294967295) :
    (h.createCall o cls zone w).butShown = ({ h with
      calls := h.calls ++ [newRecord h o cls zone w], lastNumber := (newRecord h o cls zone w).number
      arrivalCount := h.arrivalCount + 1
      stations := (h.createCall o cls zone w).stations, stops := (h.createCall o cls zone w).stops
      loopA := (h.createCall o cls zone w).loopA, loopB := (h.createCall o cls zone w).loopB } : State).butShown := by
  have arrival : (newRecord h o cls zone w).arrival = h.arrivalCount := rfl
  have shown := createCall_butShown h o cls zone w
  have below : h.arrivalCount ≠ maxArrival := Nat.ne_of_lt count
  rw [insertRecord_calls, insertRecord_arrivalCount, arrival, if_neg below, if_neg below] at shown
  exact shown

theorem newRecord_numbered (o : Origin) (cls zone : Nat) (w : Option Nat) :
    1 ≤ (newRecord h o cls zone w).number ∧ (newRecord h o cls zone w).number ≤ 9999 := freeNumber_within ..

/-- R12, R86: a CALL with room. -/
theorem creates_record {cls : Nat} {d : StationDef} {z : ZoneDef} (n1 : 1 ≤ n) (n2 : n ≤ 96)
    (accepted : (pick h.stations n).rejected = false) (hz : h.zoneDef d.zone = some z) (room : hasRoom h cls = true)
    (count : h.arrivalCount < 4294967295) (seq : Nat) (t : State)
    (ht : t = (h.createCall (.station n) cls d.zone none).judged n (some seq) false) :
    ∃ c, (∀ x ∈ h.calls, x.number ≠ c.number) ∧ 1 ≤ c.number ∧ c.number ≤ 9999
      ∧ c = { number := c.number, arrival := h.arrivalCount, origin := .station n, cls := cls, zone := d.zone
              sec := z.sec, state := if (h.classDef cls).stop = .immediate then .holding else .opened
              raised := h.timeOfDay, answered := none
              firstHold := if (h.classDef cls).stop = .immediate then some h.timeOfDay else none
              distance := if (h.classDef cls).stop = .fixed then arming h d.zone z.sec else none
              heldTime := 0, level := 0, timer := firstTimer h cls, repeats := 0, carried := false }
      ∧ sameButShown { h with
          calls := h.calls ++ [c], lastNumber := c.number, arrivalCount := h.arrivalCount + 1
          stations := t.stations, stops := t.stops, loopA := t.loopA, loopB := t.loopB } t
      ∧ eventAcknowledged h t n seq
      ∧ ((h.classDef cls).stop = .immediate → holdEntered z.sec c.number h t ∧ loopsAnnounce h t)
      ∧ ((h.classDef cls).stop ≠ .immediate → t.stops = h.stops ∧ t.loopA = h.loopA ∧ t.loopB = h.loopB) := by
  have record := newRecord_eq (s := h) (o := .station n) (cls := cls) hz
  have numbered := newRecord_numbered (h := h) (.station n) cls d.zone none
  have free := newRecord_free (room_of_hasRoom room).1 (.station n) cls d.zone none
  have shown := createCall_table (h := h) (o := .station n) (cls := cls) (zone := d.zone) (w := none) count
  have kept := createCall_kept n cls d.zone none h
  have waiting := createCall_waiting (h := h) cls d.zone none n1 n2
  have stops := createCall_stops h (.station n) cls d.zone none
  have told := createCall_announces h (.station n) cls d.zone none
  have line := fun hq => createCall_lineView (s := h) (o := .station n) (cls := cls) (zone := d.zone) (w := none) hq
  have sh := (ByOps.createCall h (.station n) cls d.zone none).shows
  generalize newRecord h (.station n) cls d.zone none = c at record numbered free shown stops line
  generalize h.createCall (.station n) cls d.zone none = v at ht shown kept waiting stops told line sh
  have state : c.state = if (h.classDef cls).stop = .immediate then .holding else .opened := (congrArg Call.state record :)
  have sec : c.sec = z.sec := (congrArg Call.sec record :)
  subst ht
  refine ⟨c, free, numbered.1, numbered.2, record, sameButShown_of_change (s := h) ⟨rfl, rfl, rfl⟩ (judged_butShown shown)
    (shows_judged sh), eventAcknowledged_of kept waiting accepted, fun immediate => ⟨?_, loopsAnnounce_judged told⟩,
    fun other => ?_⟩
  · rw [if_pos (state.trans (if_pos immediate)), sec] at stops
    exact holdEntered_of_stops stops
  · have view := line (by rw [state, if_neg other]; nofun)
    exact ⟨(congrArg State.stops view :), (congrArg State.loopA view :), (congrArg State.loopB view :)⟩

/-! ## A call answered, carried or closed (R14, R15, R22) -/

theorem selectorFinds_origin {k : Nat} {c : Call} (found : selectorFinds h n k c) : c ∈ h.calls ∧ c.origin = .station n :=
  selected_origin (selected_iff.mp found)

theorem lampFollows_waiting {c : Call} {v : State} (n1 : 1 ≤ n) (n2 : n ≤ 96) (lamps : lampFollows c h v) :
    (pick v.stations n).waiting = (pick h.stations n).waiting := by
  rw [lamps n n1 n2]
  split <;> rfl

/-- R14, R86: an ANSWER. -/
theorem answers_call {k : Nat} {c : Call} (n1 : 1 ≤ n) (n2 : n ≤ 96) (accepted : (pick h.stations n).rejected = false)
    (found : selectorFinds h n k c) (open_ : c.answered = none) (seq : Nat) (t : State)
    (ht : t = (h.answerCall c).judged n (some seq) false) :
    sameButShown { h with
        calls := withRecord h c { c with
          answered := some h.timeOfDay
          timer := if (ladderOf h c.cls).map (·.basis) = some .unanswered then none else c.timer }
        stations := t.stations } t
      ∧ eventAcknowledged h t n seq := by
  have shown := answerCall_butShown open_ (s := h)
  rw [answeredNow_eq open_] at shown
  subst ht
  exact ⟨sameButShown_of_change (s := h) ⟨rfl, rfl, rfl⟩ (judged_butShown shown) (shows_judged (ByOps.answerCall h c).shows),
    eventAcknowledged_of (answerCall_kept (selectorFinds_origin found).2) (lampFollows_waiting n1 n2 (answerCall_lamps open_))
      accepted⟩

/-- R15, R86: a CARRY. -/
theorem carries_call {k : Nat} {c : Call} (n1 : 1 ≤ n) (n2 : n ≤ 96) (accepted : (pick h.stations n).rejected = false)
    (found : selectorFinds h n k c) (seq : Nat) (t : State) (ht : t = (h.carryCall c).judged n (some seq) false) :
    sameButShown { h with
        calls := withRecord h c (carriedNow h c), stations := t.stations, stops := t.stops
        loopA := t.loopA, loopB := t.loopB } t
      ∧ eventAcknowledged h t n seq
      ∧ (c.state = .holding → holdLeft c h t ∧ loopsAnnounce h t)
      ∧ (c.state ≠ .holding → t.stops = h.stops ∧ t.loopA = h.loopA ∧ t.loopB = h.loopB) := by
  have shown := butShown_of_change (carryCall_butChange h c)
  have lamps := carryCall_lamps h c
  have announces := carryCall_announces h c
  have told := holdLeft_told announces (carryCall_stops h c) fun q => carryCall_lineView q
  rw [carryCall_calls] at shown
  subst ht
  exact ⟨sameButShown_of_change (s := h) ⟨rfl, rfl, rfl⟩ (judged_butShown shown) (shows_judged (ByOps.carryCall h c).shows),
    eventAcknowledged_of (.of_lamps (.carryCall h c) (selectorFinds_origin found).2 lamps announces)
      (lampFollows_waiting n1 n2 lamps) accepted,
    fun q => ⟨(told.1 q).1, loopsAnnounce_judged (told.1 q).2⟩, told.2⟩

/-- R22, R86: a CLEAR. -/
theorem clears_call {k : Nat} {c : Call} (n1 : 1 ≤ n) (n2 : n ≤ 96) (accepted : (pick h.stations n).rejected = false)
    (found : selectorFinds h n k c) (bounded : historyBounded h) (seq : Nat) (t : State)
    (ht : t = (h.closeCall .cleared true c).judged n (some seq) false) :
    sameButShown { h with
        calls := h.calls.filter (fun x => x.number != c.number), stations := t.stations, stops := t.stops
        loopA := t.loopA, loopB := t.loopB, history := t.history, nextSeq := t.nextSeq
        overflowCount := t.overflowCount, staleTimer := t.staleTimer } t
      ∧ recordsAppended [closingOf h .cleared c] h t
      ∧ eventAcknowledged h t n seq
      ∧ (c.state = .holding → holdLeft c h t ∧ loopsAnnounce h t)
      ∧ (c.state ≠ .holding → t.stops = h.stops ∧ t.loopA = h.loopA ∧ t.loopB = h.loopB) := by
  obtain ⟨stale, shown⟩ := closeCall_butShown h .cleared c
  have lamps := closeCall_lamps h .cleared c
  have announces := closeCall_announces h .cleared c
  have told := holdLeft_told announces ((closeCall_stops h .cleared true c).trans rfl) fun q => closeCall_quiet q .cleared
  have recorded := closeCall_recorded .cleared true c bounded
  have ops := ByOps.closeCall h .cleared true c
  generalize h.closeCall .cleared true c = v at shown lamps announces told recorded ops ht
  have history : v.history = ((h.unheld c).struck .cleared c).history := (congrArg State.history shown :)
  have nextSeq : v.nextSeq = ((h.unheld c).struck .cleared c).nextSeq := (congrArg State.nextSeq shown :)
  have overflow : v.overflowCount = ((h.unheld c).struck .cleared c).overflowCount := (congrArg State.overflowCount shown :)
  have timer : v.staleTimer = stale := (congrArg State.staleTimer shown :)
  rw [← history, ← nextSeq, ← overflow, ← timer] at shown
  subst ht
  exact ⟨sameButShown_of_change (s := h) ⟨rfl, rfl, rfl⟩ (judged_butShown shown) (shows_judged ops.shows),
    recordsAppended_congr recorded ⟨rfl, rfl, rfl⟩ ⟨rfl, rfl, rfl⟩,
    eventAcknowledged_of (.of_lamps ops (selectorFinds_origin found).2 lamps announces) (lampFollows_waiting n1 n2 lamps) accepted,
    fun q => ⟨(told.1 q).1, loopsAnnounce_judged (told.1 q).2⟩, told.2⟩

/-! ## A RESTART (R65) -/

theorem takeEvent_restarts {d : StationDef} {z : ZoneDef} (hk : e.kind = .restart) (hd : h.stationDef n = some d)
    (hz : h.zoneDef d.zone = some z) (leader : d.leader = true) (free : heldOtherwise h z.sec = false)
    (pending : (pick h.stops z.sec).pending = true) : h.takeEvent n e = (h.giveRestart z.sec, .accepted) := by
  rw [takeEvent_restart hk hd hz, leader, free, pending]
  rfl

theorem restarts_section {k : Nat} (accepted : (pick h.stations n).rejected = false) (free : heldOtherwise h k = false)
    (seq : Nat) (t : State) (ht : t = (h.giveRestart k).judged n (some seq) false) :
    sameButShown { h with
        stations := t.stations, loopA := t.loopA, loopB := t.loopB
        stops := alter h.stops k (fun x => { x with pending := false, request := false }) } t
      ∧ eventAcknowledged h t n seq ∧ loopsAnnounce h t := by
  have shown := butShown_of_stops (giveRestart_butStops h k)
  have waiting : (pick (h.giveRestart k).stations n).waiting = (pick h.stations n).waiting := by rw [giveRestart_stations]
  rw [giveRestart_released free] at shown
  subst ht
  exact ⟨sameButShown_of_change (s := h) ⟨rfl, rfl, rfl⟩ (judged_butShown shown) (shows_judged (ByOps.giveRestart h k).shows),
    eventAcknowledged_of (giveRestart_kept n k h) waiting accepted, loopsAnnounce_judged (giveRestart_announces h k)⟩

end

end Sys2Proof.Machine
end

section
/-! PROOFS. MarkedEvents: a CALL of a station marked "stop call waiting", which clears its mark (R13, R18, R62, R63, R87). -/

namespace Sys2Proof.Machine

/-! ## Stop logic as the mark is cleared (R59, R62, R63) -/

theorem markLeft_of_stops {s t : State} {k : Nat} (k1 : 1 ≤ k) (k2 : k ≤ 4)
    (hs : t.stops = alter s.stops k (StopLogic.unmarked (manual s k))) : markLeft k s t := by
  have here : pick t.stops k = (pick s.stops k).unmarked (manual s k) := by
    rw [hs, pick_alter_within _ _ k1 k2, if_pos rfl]
  obtain ⟨order, waiting, unattributed, several, last⟩ := unmarked_fields (manual s k) (pick s.stops k)
  unfold markLeft
  rw [here, ← manual_iff, order]
  refine ⟨fun m m1 m2 hm => ?_, rfl, waiting, unattributed, ?_, several, fun few => ⟨(last few).1, (last few).2.1, (last few).2.2.1⟩⟩
  · rw [hs, pick_alter_within _ _ m1 m2, if_neg hm]
  · by_cases few : (pick s.stops k).waiting ≤ 1
    · exact (last few).2.2.2
    · rw [several (by omega)]
      cases (pick s.stops k).request <;> simp

/-- R59, R63: a HOLDING call entered and a mark cleared. -/
theorem entered_unmarked (m : Bool) (k : Nat) (x : StopLogic) : (x.entered k).unmarked m = { x with
    holdOrder := x.holdOrder ++ [k], waiting := x.waiting - 1, overflow := x.overflow && decide (2 ≤ x.waiting)
    request := true, coast := if x.request then x.coast else 0 } := by
  rw [entered_eq]
  obtain ⟨order, overflow, waiting, pending, request, coast, unattributed⟩ := x
  unfold StopLogic.unmarked
  by_cases last : waiting ≤ 1
  · have few : ¬ 2 ≤ waiting := Nat.not_le.mpr (Nat.lt_succ_of_le last)
    simp [StopLogic.restarts, StopLogic.lined, StopLogic.hasCause, last, few]
  · have several : 2 ≤ waiting := Nat.lt_of_not_le last
    simp [last, several]

/-! ## A marked station's CALL (R87) -/

section
variable {h v t : State} {n seq w : Nat} {d : StationDef} {z : ZoneDef}

/-- R62, R63: the section of the station loses the mark. -/
theorem clearWaiting_unmarks (kept : EventKept n h v) (marked : (pick h.stations n).waiting = some w)
    (waiting : (pick v.stations n).waiting = (pick h.stations n).waiting) (hd : h.stationDef n = some d)
    (hz : h.zoneDef d.zone = some z) :
    (v.clearWaiting n).stops = alter v.stops z.sec (StopLogic.unmarked (manual v z.sec)) := by
  have sec : sectionOfStation v n = z.sec := by
    refine sectionOfStation_eq (d := d) ?_ ?_
    · unfold State.stationDef
      rw [kept.ops.defs]
      exact hd
    · unfold State.zoneDef
      rw [kept.ops.defs]
      exact hz
  rw [clearWaiting_stops, waiting, marked, sec]
  rfl

/-- R59, R61: a request asserted by a HOLDING call stays so as a mark is cleared. -/
theorem unmarked_request (m : Bool) (k : Nat) (x : StopLogic) : ((x.entered k).unmarked m).request = (x.entered k).request := by
  rw [entered_unmarked, entered_eq]

theorem turns_once {k j m : Nat} (m1 : 1 ≤ m) (m2 : m ≤ 4)
    (entered : v.stops = h.stops ∨ v.stops = alter h.stops k (StopLogic.entered j))
    (fallen : t.stops = alter v.stops z.sec (StopLogic.unmarked (manual v z.sec))) :
    (pick v.stops m).request = (pick h.stops m).request ∨ (pick t.stops m).request = (pick v.stops m).request := by
  obtain same | enters := entered
  · exact .inl (by rw [same])
  · by_cases hm : m = k
    · right
      have here : pick v.stops m = (pick h.stops m).entered j := by rw [enters, pick_alter_within _ _ m1 m2, if_pos hm]
      rw [fallen, pick_alter_within _ _ m1 m2, here]
      split
      · exact unmarked_request ..
      · rfl
    · left
      rw [enters, pick_alter_within _ _ m1 m2, if_neg hm]

/-- R87: what the CALL of a marked station leaves, its mark cleared. -/
structure MarkCleared (h t : State) (n seq : Nat) (p : Prop) [Decidable p] : Prop where
  shown : sameButShown { h with
    calls := t.calls, lastNumber := t.lastNumber, arrivalCount := t.arrivalCount, stations := t.stations
    stops := t.stops, loopA := t.loopA, loopB := t.loopB } t
  told : loopsAnnounce h t
  others : ∀ m, 1 ≤ m → m ≤ 96 → m ≠ n → pick t.stations m = pick h.stations m
  station : pick t.stations n = { pick h.stations n with
    ackThrough := some seq, waiting := none, lamp := (pick t.stations n).lamp, rejected := decide p
    rejectedEvents := if p then min 65535 ((pick h.stations n).rejectedEvents + 1) else (pick h.stations n).rejectedEvents }

/-- R86: the verdict on a CALL of no class, or of one. -/
def judgedCall (p : Prop) [Decidable p] (n seq : Nat) (v : State) : State :=
  (if p then v.countRejected n else v).judged n (some seq) (decide p)

theorem judgedCall_eq (p : Prop) [Decidable p] (n seq : Nat) (v : State) : judgedCall p n seq v =
    v.modStation n fun x => { x with
      ackThrough := some seq, rejected := decide p
      rejectedEvents := if p then min 65535 (x.rejectedEvents + 1) else x.rejectedEvents } := by
  unfold judgedCall
  by_cases hp : p
  · simp only [if_pos hp]
    exact modStation_modStation ..
  · simp only [if_neg hp]
    rfl

theorem judgedCall_accepted {p : Prop} [Decidable p] (hp : ¬ p) (n seq : Nat) (v : State) :
    judgedBy n seq (v, .accepted) = judgedCall p n seq v := by
  unfold judgedCall
  rw [if_neg hp, decide_eq_false hp]
  rfl

theorem judgedCall_rejected {p : Prop} [Decidable p] (hp : p) (n seq : Nat) (v : State) :
    judgedBy n seq (v, .rejected) = judgedCall p n seq v := by
  unfold judgedCall
  rw [if_pos hp, decide_eq_true hp]
  rfl

theorem markCleared_of {p : Prop} [Decidable p] (n1 : 1 ≤ n) (n2 : n ≤ 96) (kept : EventKept n h v) (told : loopsAnnounce h v)
    (marked : (pick h.stations n).waiting = some w) (waiting : (pick v.stations n).waiting = (pick h.stations n).waiting)
    (hd : h.stationDef n = some d) (hz : h.zoneDef d.zone = some z)
    (shown : v.butShown = ({ h with
      calls := v.calls, lastNumber := v.lastNumber, arrivalCount := v.arrivalCount, stations := v.stations
      stops := v.stops, loopA := v.loopA, loopB := v.loopB } : State).butShown)
    {k j : Nat} (entered : v.stops = h.stops ∨ v.stops = alter h.stops k (StopLogic.entered j))
    (ht : t = judgedCall p n seq (v.clearWaiting n)) : MarkCleared h t n seq p := by
  have once := fun m m1 m2 => turns_once (h := h) (k := k) (j := j) (m := m) m1 m2 entered
    (clearWaiting_unmarks kept marked waiting hd hz)
  have change := butShown_of_change (clearWaiting_butChange v n)
  have station := fun m m1 m2 => clearWaiting_station v (n := n) (m := m) m1 m2
  have ops := ByOps.clearWaiting v n
  have announces := loopsAnnounce_trans kept.ops.mode kept.ops.defs kept.ops.shiftState ops.shiftState once told
    (clearWaiting_announces v n)
  generalize v.clearWaiting n = u at once change station ops announces ht
  rw [judgedCall_eq] at ht
  have last : u.lastNumber = v.lastNumber := (congrArg State.lastNumber change :)
  have count : u.arrivalCount = v.arrivalCount := (congrArg State.arrivalCount change :)
  subst ht
  refine ⟨sameButShown_of_change (s := h) ⟨rfl, rfl, rfl⟩ ?_ ((kept.ops.trans ops).shows.trans (.of_eq rfl rfl rfl)),
    loopsAnnounce_congr rfl rfl announces, fun m m1 m2 hm => ?_, ?_⟩
  · have whole : u.butShown = ({ h with
        calls := u.calls, lastNumber := u.lastNumber, arrivalCount := u.arrivalCount, stations := u.stations
        stops := u.stops, loopA := u.loopA, loopB := u.loopB } : State).butShown := by
      rw [change, last, count]
      exact (congrArg (fun y : State => ({ y with
        calls := u.calls, stations := u.stations, stops := u.stops, loopA := u.loopA, loopB := u.loopB } : State)) shown :)
    exact (congrArg (fun y : State => ({ y with stations := alter u.stations n fun x => { x with
      ackThrough := some seq, rejected := decide p
      rejectedEvents := if p then min 65535 (x.rejectedEvents + 1) else x.rejectedEvents } } : State)) whole :)
  · rw [pick_station _ m1 m2, if_neg hm, station m m1 m2, if_neg hm, kept.stations m m1 m2, if_neg hm]
  · rw [pick_station _ n1 n2, if_pos rfl, station n n1 n2, if_pos rfl, kept.station n1 n2]

end

end Sys2Proof.Machine
end

section
/-! PROOFS. MarkedCases: the cases of a marked station's CALL (R12, R13, R18, R87). -/

namespace Sys2Proof.Machine

section
variable {h t : State} {n seq w cls : Nat} {d : StationDef} {z : ZoneDef} {c : Call}

theorem judgedCall_view (p : Prop) [Decidable p] (n seq : Nat) (v : State) : (judgedCall p n seq v).calls = v.calls
    ∧ (judgedCall p n seq v).stops = v.stops ∧ (judgedCall p n seq v).lastNumber = v.lastNumber
    ∧ (judgedCall p n seq v).arrivalCount = v.arrivalCount := by
  rw [judgedCall_eq]
  exact ⟨rfl, rfl, rfl, rfl⟩

theorem clearWaiting_counts (v : State) (n : Nat) :
    (v.clearWaiting n).lastNumber = v.lastNumber ∧ (v.clearWaiting n).arrivalCount = v.arrivalCount := by
  have change := butShown_of_change (clearWaiting_butChange v n)
  exact ⟨(congrArg State.lastNumber change :), (congrArg State.arrivalCount change :)⟩

/-- R87: the table and stop logic after a marked station's CALL that leaves v. -/
theorem judgedCall_leaves {v : State} {p : Prop} [Decidable p] (kept : EventKept n h v)
    (marked : (pick h.stations n).waiting = some w) (waiting : (pick v.stations n).waiting = (pick h.stations n).waiting)
    (hd : h.stationDef n = some d) (hz : h.zoneDef d.zone = some z) (ht : t = judgedCall p n seq (v.clearWaiting n)) :
    t.calls = v.calls ∧ t.lastNumber = v.lastNumber ∧ t.arrivalCount = v.arrivalCount
      ∧ t.stops = alter v.stops z.sec (StopLogic.unmarked (manual v z.sec)) := by
  obtain ⟨calls, stops, last, count⟩ := judgedCall_view p n seq (v.clearWaiting n)
  rw [ht, calls, stops, last, count]
  exact ⟨clearWaiting_calls v n, (clearWaiting_counts v n).1, (clearWaiting_counts v n).2,
    clearWaiting_unmarks kept marked waiting hd hz⟩

theorem markLeft_from {v : State} (z1 : 1 ≤ z.sec) (z2 : z.sec ≤ 4) (defs : v.defs = h.defs) (stops : v.stops = h.stops)
    (hs : t.stops = alter v.stops z.sec (StopLogic.unmarked (manual v z.sec))) : markLeft z.sec h t :=
  markLeft_of_stops z1 z2 (by rw [hs, stops, manual_congr defs])

/-- R87: a CALL of no class clears the mark. -/
theorem markedCall_classless {p : Prop} [Decidable p] (n1 : 1 ≤ n) (n2 : n ≤ 96)
    (marked : (pick h.stations n).waiting = some w) (hd : h.stationDef n = some d) (hz : h.zoneDef d.zone = some z)
    (z1 : 1 ≤ z.sec) (z2 : z.sec ≤ 4) (ht : t = judgedCall p n seq (h.clearWaiting n)) :
    MarkCleared h t n seq p ∧ t.calls = h.calls ∧ markLeft z.sec h t ∧ t.lastNumber = h.lastNumber
      ∧ t.arrivalCount = h.arrivalCount := by
  have leaves := judgedCall_leaves (.refl n h) marked rfl hd hz ht
  obtain ⟨calls, last, count, stops⟩ := leaves
  exact ⟨markCleared_of (k := 0) (j := 0) n1 n2 (.refl n h) (loopsAnnounce_refl h) marked rfl hd hz rfl (.inl rfl) ht, calls,
    markLeft_of_stops z1 z2 stops, last, count⟩

/-- R13, R87: a repeat clears the mark. -/
theorem markedCall_repeats {p : Prop} [Decidable p] (n1 : 1 ≤ n) (n2 : n ≤ 96)
    (marked : (pick h.stations n).waiting = some w) (hd : h.stationDef n = some d) (hz : h.zoneDef d.zone = some z)
    (z1 : 1 ≤ z.sec) (z2 : z.sec ≤ 4) (found : callFrom h (.station n) cls = some c)
    (ht : t = judgedCall p n seq ((h.repeatCall c).clearWaiting n)) :
    MarkCleared h t n seq p
      ∧ (c.state ≠ .carried ∨ (h.classDef c.cls).stop = .none →
        t.calls = withRecord h c { c with repeats := min 15 (c.repeats + 1) } ∧ markLeft z.sec h t)
      ∧ (c.state = .carried → (h.classDef c.cls).stop = .fixed → markLeft z.sec h t
        ∧ t.calls = withRecord h c { c with
            repeats := min 15 (c.repeats + 1), state := .opened, distance := arming h c.zone c.sec })
      ∧ (c.state = .carried → (h.classDef c.cls).stop = .immediate →
        t.calls = withRecord h c { c with repeats := min 15 (c.repeats + 1), state := .holding }
        ∧ ∃ held : State, held.defs = h.defs ∧ holdEntered c.sec c.number h held ∧ markLeft z.sec held t)
      ∧ t.lastNumber = h.lastNumber ∧ t.arrivalCount = h.arrivalCount := by
  have kept := repeatCall_kept found
  have waiting := repeatCall_waiting (h := h) c n1 n2
  have told := repeatCall_announces h c
  have table := repeatCall_calls h c
  have change := butShown_of_change (repeatCall_butChange h c)
  have entered := repeatCall_stops h c
  generalize h.repeatCall c = v at kept waiting told table change entered ht
  have lastSame : v.lastNumber = h.lastNumber := (congrArg State.lastNumber change :)
  have countSame : v.arrivalCount = h.arrivalCount := (congrArg State.arrivalCount change :)
  have shown : v.butShown = ({ h with
      calls := v.calls, lastNumber := v.lastNumber, arrivalCount := v.arrivalCount, stations := v.stations
      stops := v.stops, loopA := v.loopA, loopB := v.loopB } : State).butShown := by
    rw [lastSame, countSame]
    exact change
  obtain ⟨calls, last, count, stops⟩ := judgedCall_leaves kept marked waiting hd hz ht
  have cleared := markCleared_of (k := c.sec) (j := c.number) n1 n2 kept told marked waiting hd hz shown
    (by rw [entered]; split; exacts [.inr rfl, .inl rfl]) ht
  have quietly : ∀ now, repeated h c = now → ¬ (now.state = .holding ∧ c.state ≠ .holding) →
      t.calls = withRecord h c now ∧ markLeft z.sec h t := by
    rintro now rfl quiet
    rw [if_neg quiet] at entered
    exact ⟨calls.trans table, markLeft_from z1 z2 kept.ops.defs entered stops⟩
  refine ⟨cleared, fun same => quietly _ (repeated_same same) fun q => q.2 q.1, fun carried fixed =>
    (quietly _ (repeated_fixed carried fixed) fun q => nomatch q.1).symm, fun carried immediate => ?_,
    last.trans lastSame, count.trans countSame⟩
  have now := repeated_immediate carried immediate
  rw [now, if_pos ⟨rfl, by rw [carried]; nofun⟩] at entered
  rw [calls, table, now]
  exact ⟨rfl, v, kept.ops.defs, holdEntered_of_stops entered, markLeft_of_stops z1 z2 stops⟩

/-- R18: the record of a stopping CALL that waited since the time given, under this number. -/
def waitedRecord (h : State) (o : Origin) (cls zone : Nat) (z : ZoneDef) (since number : Nat) : Call :=
  { number := number, arrival := h.arrivalCount, origin := o, cls := cls, zone := zone, sec := z.sec, state := .holding
    raised := since, answered := none, firstHold := some since, distance := none, heldTime := 0, level := 0
    timer := firstTimer h cls, repeats := 0, carried := false }

theorem newRecord_waited {o : Origin} {zone : Nat} (hz : h.zoneDef zone = some z) (w : Nat) :
    newRecord h o cls zone (some w) = waitedRecord h o cls zone z w (newRecord h o cls zone (some w)).number := by
  unfold newRecord
  rw [hz]
  rfl

theorem newRecord_opened {o : Origin} {zone : Nat} (no : (h.classDef cls).stop = .none) :
    (newRecord h o cls zone none).state = .opened ∧ (newRecord h o cls zone none).raised = h.timeOfDay := by
  unfold newRecord
  rw [no]
  exact ⟨rfl, rfl⟩

/-- R12, R18, R87: a CALL with room clears the mark. -/
theorem markedCall_creates {p : Prop} [Decidable p] (n1 : 1 ≤ n) (n2 : n ≤ 96)
    (marked : (pick h.stations n).waiting = some w) (hd : h.stationDef n = some d) (hz : h.zoneDef d.zone = some z)
    (z1 : 1 ≤ z.sec) (z2 : z.sec ≤ 4) (room : hasRoom h cls = true) (below : h.arrivalCount < 4294967295)
    (ht : t = judgedCall p n seq ((h.createCall (.station n) cls d.zone
      (if stopping h cls then (pick h.stations n).waiting else none)).clearWaiting n)) :
    MarkCleared h t n seq p
      ∧ ∃ c, t.calls = h.calls ++ [c] ∧ t.lastNumber = c.number ∧ t.arrivalCount = h.arrivalCount + 1
        ∧ (∀ x ∈ h.calls, x.number ≠ c.number)
        ∧ ((h.classDef cls).stop = .none → c.state = .opened ∧ c.raised = h.timeOfDay ∧ markLeft z.sec h t)
        ∧ ((h.classDef cls).stop ≠ .none →
          c = { number := c.number, arrival := h.arrivalCount, origin := .station n, cls := cls, zone := d.zone
                sec := z.sec, state := .holding, raised := w, answered := none, firstHold := some w
                distance := none, heldTime := 0, level := 0, timer := firstTimer h cls, repeats := 0
                carried := false }
          ∧ ∀ m, 1 ≤ m → m ≤ 4 → pick t.stops m =
            if m = z.sec then { pick h.stops m with
              holdOrder := (pick h.stops m).holdOrder ++ [c.number], waiting := (pick h.stops m).waiting - 1
              overflow := (pick h.stops m).overflow && decide (2 ≤ (pick h.stops m).waiting), request := true
              coast := if (pick h.stops m).request then (pick h.stops m).coast else 0 }
            else pick h.stops m) := by
  have plain : (h.classDef cls).stop = .none → (if stopping h cls then (pick h.stations n).waiting else none) = none :=
    fun no => if_neg fun yes => stopping_iff.mp yes no
  have waited : (h.classDef cls).stop ≠ .none → (if stopping h cls then (pick h.stations n).waiting else none) = some w :=
    fun yes => (if_pos (stopping_iff.mpr yes)).trans marked
  generalize (if stopping h cls then (pick h.stations n).waiting else none) = since at plain waited ht
  have free := newRecord_free (room_of_hasRoom room).1 (.station n) cls d.zone since
  have unwaited : (h.classDef cls).stop = .none → (newRecord h (.station n) cls d.zone since).state = .opened
      ∧ (newRecord h (.station n) cls d.zone since).raised = h.timeOfDay := fun no => by
    rw [plain no]
    exact newRecord_opened no
  have held : (h.classDef cls).stop ≠ .none → newRecord h (.station n) cls d.zone since =
      waitedRecord h (.station n) cls d.zone z w (newRecord h (.station n) cls d.zone since).number := fun yes => by
    rw [waited yes]
    exact newRecord_waited hz w
  have shown := createCall_table (h := h) (o := .station n) (cls := cls) (zone := d.zone) (w := since) below
  have kept := createCall_kept n cls d.zone since h
  have waiting := createCall_waiting (h := h) cls d.zone since n1 n2
  have entered := createCall_stops h (.station n) cls d.zone since
  have told := createCall_announces h (.station n) cls d.zone since
  generalize newRecord h (.station n) cls d.zone since = c at free shown entered unwaited held
  generalize h.createCall (.station n) cls d.zone since = v at ht shown kept waiting entered told
  have table : v.calls = h.calls ++ [c] := (congrArg State.calls shown :)
  have number : v.lastNumber = c.number := (congrArg State.lastNumber shown :)
  have arrivals : v.arrivalCount = h.arrivalCount + 1 := (congrArg State.arrivalCount shown :)
  obtain ⟨calls, last, count, stops⟩ := judgedCall_leaves kept marked waiting hd hz ht
  have cleared := markCleared_of (k := c.sec) (j := c.number) n1 n2 kept told marked waiting hd hz
    (by rw [table, number, arrivals]; exact shown) (by rw [entered]; split; exacts [.inr rfl, .inl rfl]) ht
  refine ⟨cleared, c, calls.trans table, last.trans number, count.trans arrivals, free, fun no => ?_, fun yes => ?_⟩
  · obtain ⟨opened, raised⟩ := unwaited no
    rw [if_neg (by rw [opened]; nofun)] at entered
    exact ⟨opened, raised, markLeft_from z1 z2 kept.ops.defs entered stops⟩
  · have record := held yes
    have state : c.state = .holding := (congrArg Call.state record :)
    have sec : c.sec = z.sec := (congrArg Call.sec record :)
    rw [if_pos state, sec] at entered
    refine ⟨record, fun m m1 m2 => ?_⟩
    rw [stops, entered, alter_alter, pick_alter_within _ _ m1 m2, entered_unmarked]

end

end Sys2Proof.Machine
end

section
/-! PROOFS. StationEvents: one new event of a station ONLINE (R9–R20, R63–R65, R86, R87). -/

namespace Sys2Proof.Machine

/-- R81: a STATUS heard changes its loop and its station alone. -/
theorem statusHeard_offlineView (s : State) (l : LoopId) (n : Nat) : (statusHeard s l n).offlineView = s.offlineView :=
  (modStation_offlineView ..).trans (pollEnded_offlineView s l)

theorem statusHeard_station (s : State) (l : LoopId) {n : Nat} (n1 : 1 ≤ n) (n2 : n ≤ 96) :
    (pick (statusHeard s l n).stations n).waiting = (pick s.stations n).waiting
      ∧ (pick (statusHeard s l n).stations n).rejected = false := by
  unfold statusHeard
  rw [pick_station _ n1 n2, if_pos rfl, pollEnded_stations]
  exact ⟨rfl, rfl⟩

/-- A state in which a STATUS has been heard is the one before it but for these parts. -/
theorem statusHeard_before {s h : State} {l : LoopId} {n : Nat} (heard : h = statusHeard s l n) :
    ∃ S A B E F R T, s = { h with
      stations := S, loopA := A, loopB := B, equations := E, flags := F, relays := R, tunes := T } := by
  refine ⟨_, _, _, _, _, _, _, eq_of_offlineView ?_⟩
  rw [heard]
  exact (statusHeard_offlineView s l n).symm

/-- Settles O49: each event comes to an operation on the state in which the STATUS has been heard. -/
theorem stationEventsTaken : Obligations.StationEventsTaken := by
  unfold Obligations.StationEventsTaken
  intro s h l n content e i d z hs hm hp hr n1 n2 online new read hd hz z1 z2 heard hi
  have run := exec_event hs hp hr n1 n2 online new read heard
  obtain ⟨waiting, accepted⟩ := statusHeard_station s l n1 n2
  rw [← heard] at waiting accepted
  obtain ⟨S, A, B, E, F, R, T, before⟩ := statusHeard_before heard
  rw [← hi] at run
  clear hs hm hp hr online new read heard hi
  subst before
  have hd : h.stationDef n = some d := hd
  have hz : h.zoneDef d.zone = some z := hz
  have waiting : (pick h.stations n).waiting = (pick S n).waiting := waiting
  refine ⟨fun no => ?_, fun cls hk hc unmarked => ?_, fun w cls hk marked hc fresh full => ?_, fun w hk marked below cases_ => ?_,
    fun c found idle => ?_, fun c hk found can => ?_, fun c hk found b1 b2 b3 => ?_, fun c hk found unanswered => ?_,
    fun hk leader order overflow pending => ?_⟩
  · have rejected : h.takeEvent n e = (h, .rejected) := by
      obtain ⟨hk, hc, unmarked⟩ | ⟨hk, none⟩ | ⟨hk, no⟩ := no
      · exact takeEvent_classless_unmarked hk hc (waiting.trans unmarked)
      · exact takeEvent_unselected hk none
      · exact takeEvent_unreleased hk hd hz no
    rw [run, rejected, judgedBy_rejected]
  · have unmarked : (pick h.stations n).waiting = none := waiting.trans unmarked
    have hc : h.defs.codeMap.classOf e.operand = some cls := hc
    have repeats : ∀ c, callFrom h (.station n) cls = some c → exec i _ = .next ((h.repeatCall c).judged n (some e.seq) false) :=
      fun c found => by rw [run, takeEvent_repeats (h := h) n1 n2 hk hc unmarked found]; rfl
    refine ⟨fun fresh full => ⟨fun plain => ?_, fun stops => ?_⟩, fun c found same => ?_, fun c found carried fixed => ?_,
      fun c found carried immediate c1 c2 => ?_, fun fresh room below => ?_⟩
    · have still : stopping h cls = false := by
        rw [← Bool.not_eq_true, stopping_iff]
        exact not_not.mpr plain
      rw [run, takeEvent_call (h := h) hk hc, takeCall_refused (h := h) fresh full, still]
      rfl
    · have refused : h.takeEvent n e = (h.markWaiting n, .refused) := by
        rw [takeEvent_call (h := h) hk hc, takeCall_refused (h := h) fresh full, stopping_iff (h := h) |>.mpr stops]
        rfl
      rw [run, refused]
      exact ⟨_, rfl, markWaiting_marks hd hz unmarked _ rfl⟩
    · exact ⟨_, repeats c found, repeats_quietly n1 n2 accepted found (repeated_same same) (fun q => q.2 q.1) e.seq _ rfl⟩
    · exact ⟨_, repeats c found,
        repeats_quietly n1 n2 accepted found (repeated_fixed carried fixed) (fun q => nomatch q.1) e.seq _ rfl⟩
    · exact ⟨_, repeats c found, repeats_holding n1 n2 accepted found carried immediate e.seq _ rfl⟩
    · have created : h.takeEvent n e = (h.createCall (.station n) cls d.zone none, .accepted) :=
        takeEvent_creates n1 n2 hk hc unmarked hd fresh room
      obtain ⟨c, free, low, high, record, clauses⟩ := creates_record n1 n2 accepted hz room below e.seq _ rfl
      rw [run, created]
      exact ⟨_, c, rfl, free, low, high, record, clauses⟩
  · have kept : (if stopping h cls then h.markWaiting n else h) = h := by
      rw [markWaiting_some (s := h) (waiting.trans marked), ite_self]
    have hc : h.defs.codeMap.classOf e.operand = some cls := hc
    rw [run, takeEvent_call (h := h) hk hc, takeCall_refused (h := h) fresh full, kept]
    rfl
  · have marked : (pick h.stations n).waiting = some w := waiting.trans marked
    obtain none | ⟨cls, hc, standing | new⟩ := cases_
    · have none : h.defs.codeMap.classOf e.operand = .none := none
      obtain ⟨cleared, calls, left, counts⟩ := markedCall_classless (seq := e.seq)
        (p := h.defs.codeMap.classOf e.operand = .none) n1 n2 marked hd hz z1 z2 rfl
      rw [run, takeEvent_classless hk none, judgedCall_rejected none]
      exact ⟨_, rfl, cleared.shown, fun _ => cleared.told, cleared.others, cleared.station, fun _ => ⟨calls, left⟩,
        fun _ _ hc => absurd (none.symm.trans hc) nofun, fun _ => counts, fun _ hc => absurd (none.symm.trans hc) nofun⟩
    · obtain ⟨c, found, -⟩ := standing
      have hc : h.defs.codeMap.classOf e.operand = some cls := hc
      have found : callFrom h (.station n) cls = some c := found
      have some_ : ¬ h.defs.codeMap.classOf e.operand = none := by rw [hc]; nofun
      obtain ⟨cleared, same, fixed, immediate, counts⟩ := markedCall_repeats (seq := e.seq)
        (p := h.defs.codeMap.classOf e.operand = none) n1 n2 marked hd hz z1 z2 found rfl
      rw [run, takeEvent_call (h := h) hk hc, takeCall_repeats found, judgedCall_accepted some_]
      refine ⟨_, rfl, cleared.shown, fun _ => cleared.told, cleared.others, cleared.station, fun none => absurd none some_,
        fun cls' c' hc' found' => ?_, fun _ => counts, fun cls' hc' new => ?_⟩
      · cases hc.symm.trans hc'
        cases found.symm.trans found'
        exact ⟨same, fixed, immediate⟩
      · cases hc.symm.trans hc'
        exact absurd (found.symm.trans new) nofun
    · obtain ⟨fresh, room⟩ := new
      have hc : h.defs.codeMap.classOf e.operand = some cls := hc
      have fresh : callFrom h (.station n) cls = none := fresh
      have room : hasRoom h cls = true := room
      have some_ : ¬ h.defs.codeMap.classOf e.operand = none := by rw [hc]; nofun
      obtain ⟨cleared, c, created⟩ := markedCall_creates (seq := e.seq)
        (p := h.defs.codeMap.classOf e.operand = none) n1 n2 marked hd hz z1 z2 room below rfl
      rw [run, takeEvent_call (h := h) hk hc, takeCall_creates hd fresh room, judgedCall_accepted some_]
      refine ⟨_, rfl, cleared.shown, fun _ => cleared.told, cleared.others, cleared.station, fun none => absurd none some_,
        fun cls' c' hc' found' => ?_, fun old => ?_, fun cls' hc' _ => ?_⟩
      · cases hc.symm.trans hc'
        exact absurd (fresh.symm.trans found') nofun
      · obtain none | ⟨cls', c', hc', found'⟩ := old
        · exact absurd none some_
        · cases hc.symm.trans hc'
          exact absurd (fresh.symm.trans found') nofun
      · cases hc.symm.trans hc'
        exact ⟨c, created⟩
  · have taken : h.takeEvent n e = (h, .accepted) := by
      obtain ⟨hk, answered⟩ | ⟨hk, fixed⟩ := idle
      · rw [takeEvent_answer hk, takeSelected_some (h := h) found, answerCall_answered (s := h) answered]
      · have not : carriable h c = false := fixed
        rw [takeEvent_carry hk, takeSelected_some (h := h) found, not]
        rfl
    rw [run, taken, judgedBy_idle accepted]
  · have taken : h.takeEvent n e = (h.carryCall c, .accepted) := by
      have able : carriable h c = true := can
      rw [takeEvent_carry hk, takeSelected_some (h := h) found, able]
      rfl
    rw [run, taken]
    exact ⟨_, rfl, carries_call n1 n2 accepted found e.seq _ rfl⟩
  · have taken : h.takeEvent n e = (h.closeCall .cleared true c, .accepted) := by
      rw [takeEvent_clear hk, takeSelected_some (h := h) found]
    rw [run, taken]
    exact ⟨_, rfl, clears_call n1 n2 accepted found ⟨b1, b2, b3⟩ e.seq _ rfl⟩
  · have taken : h.takeEvent n e = (h.answerCall c, .accepted) := by
      rw [takeEvent_answer hk, takeSelected_some (h := h) found]
    rw [run, taken]
    exact ⟨_, rfl, answers_call n1 n2 accepted found unanswered e.seq _ rfl⟩
  · have free : heldOtherwise h z.sec = false := by
      rw [← Bool.not_eq_true, heldOtherwise_iff]
      rintro (held | held)
      · exact held order
      · exact absurd (held.symm.trans overflow) (by decide)
    rw [run, takeEvent_restarts (h := h) hk hd hz leader free pending]
    exact ⟨_, rfl, restarts_section accepted free e.seq _ rfl⟩

end Sys2Proof.Machine
end
